-- ==== Sys2Proof/Word.lean ====
section
/-! DEFINITION. The byte the two ports carry, and the two small containers the part's fixed
positions need: one value per segment (four) and one per partition position (three). -/

namespace Sys2Proof

/-- One byte of the wing port or the room link (R169, R181). -/
abbrev Byte := BitVec 8

/-- A segment position, 0 to 3, configured or not. -/
abbrev Seg := Fin 4

/-- A partition position, 0 to 2; partition p stands between segment p and segment p + 1. -/
abbrev Part := Fin 3

/-- One value for each of the four segment positions. -/
structure Four (α : Type) where
  s0 : α
  s1 : α
  s2 : α
  s3 : α
  deriving DecidableEq, Repr

/-- One value for each of the three partition positions. -/
structure Three (α : Type) where
  p0 : α
  p1 : α
  p2 : α
  deriving DecidableEq, Repr

namespace Four
variable {α β : Type}

def all (a : α) : Four α := ⟨a, a, a, a⟩

def get (v : Four α) : Seg → α
  | 0 => v.s0
  | 1 => v.s1
  | 2 => v.s2
  | 3 => v.s3

def set (v : Four α) (i : Seg) (a : α) : Four α :=
  match i with
  | 0 => { v with s0 := a }
  | 1 => { v with s1 := a }
  | 2 => { v with s2 := a }
  | 3 => { v with s3 := a }

/-- The same change at one position. -/
def modify (v : Four α) (i : Seg) (f : α → α) : Four α := v.set i (f (v.get i))

/-- Every position mapped, the position given. -/
def mapIdx (f : Seg → α → β) (v : Four α) : Four β :=
  ⟨f 0 v.s0, f 1 v.s1, f 2 v.s2, f 3 v.s3⟩

end Four

namespace Three
variable {α : Type}

def all (a : α) : Three α := ⟨a, a, a⟩

def get (v : Three α) : Part → α
  | 0 => v.p0
  | 1 => v.p1
  | 2 => v.p2

def set (v : Three α) (i : Part) (a : α) : Three α :=
  match i with
  | 0 => { v with p0 := a }
  | 1 => { v with p1 := a }
  | 2 => { v with p2 := a }

def modify (v : Three α) (i : Part) (f : α → α) : Three α := v.set i (f (v.get i))

end Three

/-- The four segment positions in ascending order. -/
def allSegs : List Seg := [0, 1, 2, 3]

/-- The three partition positions in ascending order. -/
def allParts : List Part := [0, 1, 2]

end Sys2Proof
end

