-- ==== Sys2Proof/Syntax.lean ====
section
/-! DEFINITION. The commands the part takes: one constructor for each row of spec/opcode_table.json,
with the operands the row's rule gives it, and the types of those operands. -/

namespace Sys2Proof

/-- A contiguous run of segments, first segment and span (00_scope.md, Conventions). -/
structure Segs where
  first : Nat
  span : Nat
  deriving DecidableEq, Repr

/-- Kind of an entry (R2, R9). -/
inductive Kind where
  | lecture | caseStudy | exam | event | adhoc
  deriving DecidableEq, Repr

/-- Service level of a group (R79). -/
inductive Level where
  | none | prepare | session
  deriving DecidableEq, Repr

/-- One item of a group's in-session list: an active entry and its headcount share (R82, R83). -/
structure SessionItem where
  ref : Nat
  segs : Segs
  share : Nat
  deriving DecidableEq, Repr

/-- LM's record of one group (R76). -/
structure GroupRec where
  segs : Segs
  governing : Option Nat
  level : Level
  sessions : List SessionItem
  people : Nat
  deriving DecidableEq, Repr

/-- The walk-in record of a group (R103). -/
structure WalkIn where
  scene : Nat
  saved : Option Nat
  setpoint : Nat
  deriving DecidableEq, Repr

/-- One group's figures in a demand update (R121, R132). -/
structure DemandFig where
  segs : Segs
  qd : Nat
  qmin : Nat
  qvent : Nat
  deriving DecidableEq, Repr

/-- The blocks that receive a report which several blocks receive (R77, R80, R88, R102). -/
inductive Block where
  | si | ot | al | lbu | ad
  deriving DecidableEq, Repr

/-- The four samples of a sensor module (section 5.1). -/
inductive SensorKind where
  | presence | temperature | co2 | daylight
  deriving DecidableEq, Repr

/-- The two luminaire rows of a segment (R149). -/
inductive RowSide where
  | window | inner
  deriving DecidableEq, Repr

/-- The four samples of a received answer, each with its fault mark (R89, R90). -/
structure Answer where
  presence : Bool
  presenceMark : Bool
  temperature : Int
  temperatureMark : Bool
  co2 : Nat
  co2Mark : Bool
  daylight : Nat
  daylightMark : Bool
  deriving DecidableEq, Repr

/-- The payload of a wing request as WP finds it: its fields, or a length that is not the
function's request length (R172, check 2). -/
inductive Req (α : Type) where
  | fields (a : α)
  | wrongLength (n : Nat)
  deriving DecidableEq, Repr

/-- The fixed part of an entry record as BOOK ADD and LOAD ENTRY carry it (R14, section 9.4):
codes and figures are not yet judged. -/
structure FixedWire where
  ref : Nat
  start : Nat
  stop : Nat
  first : Nat
  span : Nat
  kind : Nat
  headcount : Nat
  held : Bool
  exempt : Bool
  scene : Option Nat
  setpoint : Option Int
  lead : Option Nat
  deriving DecidableEq, Repr

/-- One field of BOOK CHANGE: its indicator and value (R179). -/
inductive Change (α : Type) where
  | keep
  | set (a : α)
  | clear
  | bad (indicator : Nat)
  deriving DecidableEq, Repr

/-- The payload of BOOK CHANGE (R179). -/
structure ChangeWire where
  ref : Nat
  start : Change Nat
  stop : Change Nat
  first : Change Nat
  span : Change Nat
  kind : Change Nat
  headcount : Change Nat
  held : Change Bool
  exempt : Change Bool
  scene : Change Nat
  setpoint : Change Int
  lead : Change Nat
  deriving DecidableEq, Repr

/-- The commands. The comment before each group names the chapter that owns it. -/
inductive Instr where
  -- restart and supply (chapter 11)
  | powerOn
  | resetLineAssert
  | resetLineRelease (lowMicros : Nat)
  -- clock (chapter 2)
  | timeSet (broadcast : Bool) (p : Req (Nat × Nat))
  -- booking table (chapter 1)
  | bookAdd (p : Req FixedWire)
  | bookChange (p : Req ChangeWire)
  | bookCancel (p : Req (Nat × Bool))
  | bookFind (p : Req Nat)
  | bookFirst (p : Req Nat)
  | bookNext (p : Req Unit)
  -- loads (chapter 3)
  | loadOpen (p : Req (Nat × Nat))
  | loadEntry (p : Req FixedWire)
  | loadClose (p : Req Unit)
  | loadAbort (p : Req Unit)
  | loadIdleTimeout
  -- reads, notices, plant (chapters 7 and 9)
  | suiteRead (p : Req Unit)
  | noticeTake (p : Req Unit)
  | demandRead (p : Req Unit)
  | grant (p : Req Nat)
  | grantAgeExpiry
  -- mode and commissioning (chapter 11)
  | modeSetService (p : Req Bool)
  | modeSetRun (p : Req Bool)
  | modeSetLock (p : Req (Nat × Bool))
  | commissionRead (p : Req Nat)
  | commissionWrite (p : Req (Nat × List Nat))
  | restart (p : Req Unit)
  -- wing port (chapter 9)
  | unknownFunction (code : Nat)
  | wingFrameDiscarded
  | wingFrameDropped (bytes : List Byte)
  | wingGapTimeout (bytes : List Byte)
  -- panel commands (chapters 2, 6, 8, 10); the first operand is the panel's segment
  | panelBegin (s : Seg)
  | panelEnd (s : Seg)
  | panelExtend (s : Seg) (minutes : Nat)
  | panelHeadcount (s : Seg) (count : Nat)
  | panelAdjust (s : Seg) (delta : Int)
  | panelScene (s : Seg) (scene : Nat)
  | panelRestore (s : Seg)
  | blindTarget (s : Seg) (request : Nat) (target : Nat)
  | blindStop (s : Seg) (ignored : Nat)
  | blindAuto (s : Seg) (ignored : Nat)
  | panelStatus (s : Seg)
  | upcomingFirst (s : Seg)
  | upcomingNext (s : Seg)
  -- room link line (chapter 10)
  | lineBreak (bytes : List Byte)
  | linkGapTimeout (bytes : List Byte)
  | replyCollision
  -- clock and loop timers (chapters 2, 6)
  | minuteEvent
  | loopTimerExpiry
  -- partitions (chapter 4)
  | partitionContactChange (p : Part) (closedMade openMade : Bool)
  | settleTimerExpiry (p : Part)
  | betweenTimerExpiry (p : Part)
  -- sensors and occupancy (chapter 5)
  | sensorPoll (s : Seg)
  | sensorAnswer (s : Seg) (a : Answer)
  | answerWindowExpiry (s : Seg)
  | staleTimerExpiry (s : Seg) (k : SensorKind)
  | presenceEvent (s : Seg)
  | vacancyTimerExpiry (s : Seg)
  | vacancyReport (s : Seg)
  | presenceSourceReport (s : Seg) (source : Option Seg)
  | occupancyReport (dst : Block) (segs : Segs) (occupied : Bool) (walkIn : Option WalkIn)
  -- reports between BT, LM, AL and AD (chapters 2, 4, 6, 7)
  | entryStateChange (ref : Nat) (segs : Segs) (began : Bool)
  | governingChange (dst : Block) (segs : Segs) (governing : Option Nat) (level : Level)
  | cameToGovern (ref : Nat)
  | ceasedToGovern (ref : Nat)
  | settledReport (segs : Segs)
  | lostSettledReport (segs : Segs)
  | regroupReport (dst : Block) (gone : List Segs) (formed : List GroupRec)
  | exitReport (dst : Block) (groups : List GroupRec)
  | demandUpdate (figs : List DemandFig)
  | headcountChange (ref : Nat) (segs : Segs)
  -- lighting and blinds (chapter 8)
  | sceneChange (ref : Nat)
  | sessionEndOverrides (ref : Nat) (groups : List Segs)
  | daylightValue (s : Seg) (lux : Nat)
  | daylightSourceReport (s : Seg) (source : Option Seg)
  | glareOnExpiry (s : Seg)
  | glareOffExpiry (s : Seg)
  | fadeStep (s : Seg) (row : RowSide)
  | blindStep (s : Seg)
  | reversingEnd (s : Seg)
  | budgetCharge (s : Seg)
  | budgetRefill (s : Seg)
  | driveUpEnd (s : Seg)
  -- service line, supply, ends of replies (chapters 9, 10, 11)
  | serviceLineAssert
  | serviceLineRelease
  | powerLoss
  | wingReplyEnd
  | linkReplyEnd
  | linkFrameDiscarded (bytes : List Byte)
  | panelFrameRefused (s : Seg) (code : Nat) (payload : List Byte)
  deriving DecidableEq, Repr

end Sys2Proof
end

