-- ==== Sys2Proof/Decode.lean ====
section
/-! DEFINITION. Decoding by the opcode table. No row of spec/opcode_table.json gives bits: a command is
an arrival with operands, not a word. The bytes of a wing frame are read in Machine/Frames.lean. -/

namespace Sys2Proof

/-- The command a word spells by the table's bits: none, for every word. -/
def decodeTableWord (_nbits _w : Nat) : Option Instr := none

end Sys2Proof
end

