-- ==== Sys2Proof/Config.lean ====
section
/-! DEFINITION. The fixed figures of the part (capacities, limits, durations in ticks) and the one
value the spec leaves open. What an installer may change is a commissioning record and lies in State. -/

namespace Sys2Proof.Config

/-- The model's tick: 50 ms, so 20 ticks a second. DESIGN CHOICE [3]: the longest interval that
measures both the 250 ms answer window (R89) and the tenths of a second of fades and blinds. -/
def ticksPerSecond : Nat := 20
def ticksPerTenth : Nat := 2
def seconds (n : Nat) : Nat := n * ticksPerSecond

/-- Live table capacity (R1). -/
def tableCapacity : Nat := 128
/-- Staging area capacity (R56). -/
def stagingCapacity : Nat := 64
/-- Notice queue capacity (R175). -/
def noticeCapacity : Nat := 32
/-- First and last reference of the reserved ad-hoc range (R2, R6). -/
def adhocFirst : Nat := 4294901760
def adhocLast : Nat := 4294967295
/-- Largest clock minute (R27). -/
def lastMinute : Nat := 4294967295

/-- The minutes "elapsed since preparing start" (R35, R37) when that start lies after now, which a
backward TIME SET of a prepared entry brings about (R53 keeps the entry's fields). The spec states
no figure there: a free value [14]. DESIGN CHOICE. -/
opaque elapsedBeforeStart (preparingStart now : Nat) : Nat

end Sys2Proof.Config
end

