-- ==== Sys2Proof/Machine/Commission.lean ====
section
/-! DEFINITION. The commissioning records of chapter 11: their fields, the defaults at shipment, the
ranges COMMISSION WRITE checks (R189) and the order in which the fields are carried (R180). -/

namespace Sys2Proof.Machine

/-- The SUITE record (selector 0). -/
structure SuiteRec where
  segmentCount : Nat
  bitRate : Nat
  perPerson : Nat
  areaRate : Nat
  co2Limit : Nat
  deadband : Nat
  multiplier : Nat
  heatingGain : Nat
  setbackLow : Nat
  walkInSetpoint : Nat
  walkInHeadcount : Nat
  vacancyDelay : Nat
  baseLead : Nat
  adjustRange : Nat
  minimumLevel : Nat
  harvestGain : Nat
  glareOn : Nat
  glareOff : Nat
  serviceLevel : Nat
  deriving DecidableEq, Repr

/-- A SEGMENT record (selectors 1 to 4). -/
structure SegmentRec where
  area : Nat
  seats : Nat
  airMin : Nat
  airMax : Nat
  coolingGain : Nat
  fullTravel : Nat
  vacantPosition : Nat
  glarePosition : Nat
  deriving DecidableEq, Repr

/-- A PROFILE record (selectors 5 to 8); a no-show wait of 0 is none (EXAM). -/
structure ProfileRec where
  comfort : Nat
  scene : Nat
  noShowWait : Nat
  vacancyDelay : Nat
  deriving DecidableEq, Repr

/-- A SCENE record (selectors 9 to 24, R144); a blind target of none is LEAVE. -/
structure SceneRec where
  window : Nat
  inner : Nat
  blind : Option Nat
  harvesting : Bool
  fade : Nat
  temporary : Bool
  examAllowed : Bool
  deriving DecidableEq, Repr

/-- The records in effect; the profiles stand in the order LECTURE, CASE, EXAM, EVENT. -/
structure Commission where
  suite : SuiteRec
  segments : Four SegmentRec
  profiles : Four ProfileRec
  scenes : List SceneRec
  deriving DecidableEq, Repr

/-- One record with its place: the content of a COMMISSION WRITE and of a pending copy (R188). -/
inductive Record where
  | suite (r : SuiteRec)
  | segment (i : Seg) (r : SegmentRec)
  | profile (i : Fin 4) (r : ProfileRec)
  | scene (i : Fin 16) (r : SceneRec)
  deriving DecidableEq, Repr

/-! ### Defaults at shipment (section 11.1) -/

def SuiteRec.factory : SuiteRec where
  segmentCount := 1
  bitRate := 0
  perPerson := 10
  areaRate := 3
  co2Limit := 1000
  deadband := 10
  multiplier := 4
  heatingGain := 25
  setbackLow := 150
  walkInSetpoint := 210
  walkInHeadcount := 5
  vacancyDelay := 5
  baseLead := 10
  adjustRange := 20
  minimumLevel := 100
  harvestGain := 32
  glareOn := 3000
  glareOff := 1500
  serviceLevel := 500

def SegmentRec.factory : SegmentRec where
  area := 50
  seats := 40
  airMin := 100
  airMax := 800
  coolingGain := 8
  fullTravel := 60
  vacantPosition := 0
  glarePosition := 700

/-- The first four rows of the kind profile table of section 2.2. -/
def factoryProfiles : Four ProfileRec :=
  ⟨⟨210, 1, 15, 10⟩, ⟨210, 2, 15, 10⟩, ⟨200, 3, 0, 15⟩, ⟨220, 4, 20, 10⟩⟩

def factoryScene0 : SceneRec := ⟨700, 700, none, true, 3, false, true⟩
def factorySceneTeaching : SceneRec := ⟨800, 800, none, true, 3, false, true⟩
def factorySceneProjection : SceneRec := ⟨0, 200, some 1000, false, 3, true, false⟩
def factorySceneOther : SceneRec := ⟨500, 500, none, false, 3, false, true⟩

def factoryScenes : List SceneRec :=
  [factoryScene0] ++ List.replicate 4 factorySceneTeaching ++ [factorySceneProjection]
    ++ List.replicate 10 factorySceneOther

def Commission.factory : Commission where
  suite := SuiteRec.factory
  segments := Four.all SegmentRec.factory
  profiles := factoryProfiles
  scenes := factoryScenes

/-! ### Reading the records in effect -/

/-- SCENE record i (R144). A number above 15 is refused before any rule reads it. -/
def Commission.scene (c : Commission) (i : Nat) : SceneRec := c.scenes.getD i factorySceneOther

/-- Taking one record into effect (R188). -/
def Commission.put (c : Commission) : Record → Commission
  | .suite r => { c with suite := r }
  | .segment i r => { c with segments := c.segments.set i r }
  | .profile i r => { c with profiles := c.profiles.set i r }
  | .scene i r => { c with scenes := c.scenes.set i r }

/-- All pending records taken into effect (R188). -/
def Commission.takePending (c : Commission) (pending : List Record) : Commission :=
  pending.foldl Commission.put c

/-! ### The records as carried (R180) -/

/-- The selector byte of a record's place. -/
def Record.selector : Record → Nat
  | .suite _ => 0
  | .segment i _ => 1 + i
  | .profile i _ => 5 + i
  | .scene i _ => 9 + i

def flagNat (b : Bool) : Nat := if b then 1 else 0

/-- The field values of a record in the order of section 11.1. -/
def Record.values : Record → List Nat
  | .suite r =>
    [r.segmentCount, r.bitRate, r.perPerson, r.areaRate, r.co2Limit, r.deadband, r.multiplier,
      r.heatingGain, r.setbackLow, r.walkInSetpoint, r.walkInHeadcount, r.vacancyDelay,
      r.baseLead, r.adjustRange, r.minimumLevel, r.harvestGain, r.glareOn, r.glareOff,
      r.serviceLevel]
  | .segment _ r =>
    [r.area, r.seats, r.airMin, r.airMax, r.coolingGain, r.fullTravel, r.vacantPosition,
      r.glarePosition]
  | .profile _ r => [r.comfort, r.scene, r.noShowWait, r.vacancyDelay]
  | .scene _ r =>
    [r.window, r.inner, r.blind.getD 1001, flagNat r.harvesting, r.fade, flagNat r.temporary,
      flagNat r.examAllowed]

/-- The number of fields of the record a selector names (section 11.1); none above 24. -/
def fieldCount (selector : Nat) : Option Nat :=
  if selector = 0 then some 19
  else if selector ≤ 4 then some 8
  else if selector ≤ 8 then some 4
  else if selector ≤ 24 then some 7
  else none

/-- The ranges of a record's fields in order. A range that depends on another field is judged
against the value carried in the same write (R189). Selector 7 is the EXAM profile. -/
def fieldRanges (selector : Nat) (v : List Nat) : List (Nat × Nat) :=
  if selector = 0 then
    [(1, 4), (0, 2), (5, 20), (0, 10), (800, 1500), (0, 40), (2, 8), (1, 200), (100, 180),
      (160, 280), (0, 50), (1, 30), (0, 30), (0, 40), (0, 500), (0, 255), (1, 65535),
      (0, min 65534 (v.getD 16 0 - 1)), (0, 1000)]
  else if selector ≤ 4 then
    [(0, 1000), (0, 400), (0, 2000), (v.getD 2 0, 4000), (1, 100), (20, 120), (0, 1000), (0, 1000)]
  else if selector ≤ 8 then
    [(160, 280), (0, 15), if selector = 7 then (0, 0) else (5, 30), (5, 30)]
  else
    [(0, 1000), (0, 1000), (0, 1001), (0, 1), (0, 60), (0, 1), (0, 1)]

/-- The 1-based position of the first value outside its range (R189). -/
def firstBadField : Nat → List Nat → List (Nat × Nat) → Option Nat
  | pos, v :: vs, r :: rs =>
    if r.1 ≤ v ∧ v ≤ r.2 then firstBadField (pos + 1) vs rs else some pos
  | _, _, _ => none

def SuiteRec.ofValues (v : List Nat) : SuiteRec where
  segmentCount := v.getD 0 0
  bitRate := v.getD 1 0
  perPerson := v.getD 2 0
  areaRate := v.getD 3 0
  co2Limit := v.getD 4 0
  deadband := v.getD 5 0
  multiplier := v.getD 6 0
  heatingGain := v.getD 7 0
  setbackLow := v.getD 8 0
  walkInSetpoint := v.getD 9 0
  walkInHeadcount := v.getD 10 0
  vacancyDelay := v.getD 11 0
  baseLead := v.getD 12 0
  adjustRange := v.getD 13 0
  minimumLevel := v.getD 14 0
  harvestGain := v.getD 15 0
  glareOn := v.getD 16 0
  glareOff := v.getD 17 0
  serviceLevel := v.getD 18 0

def SegmentRec.ofValues (v : List Nat) : SegmentRec where
  area := v.getD 0 0
  seats := v.getD 1 0
  airMin := v.getD 2 0
  airMax := v.getD 3 0
  coolingGain := v.getD 4 0
  fullTravel := v.getD 5 0
  vacantPosition := v.getD 6 0
  glarePosition := v.getD 7 0

def ProfileRec.ofValues (v : List Nat) : ProfileRec :=
  ⟨v.getD 0 0, v.getD 1 0, v.getD 2 0, v.getD 3 0⟩

def SceneRec.ofValues (v : List Nat) : SceneRec where
  window := v.getD 0 0
  inner := v.getD 1 0
  blind := if v.getD 2 0 = 1001 then none else some (v.getD 2 0)
  harvesting := v.getD 3 0 == 1
  fade := v.getD 4 0
  temporary := v.getD 5 0 == 1
  examAllowed := v.getD 6 0 == 1

/-- The record that a selector of 0 to 24 and its values name. -/
def Record.ofValues (selector : Nat) (v : List Nat) : Record :=
  if selector = 0 then .suite (SuiteRec.ofValues v)
  else if selector ≤ 4 then .segment (Fin.ofNat 4 (selector - 1)) (SegmentRec.ofValues v)
  else if selector ≤ 8 then .profile (Fin.ofNat 4 (selector - 5)) (ProfileRec.ofValues v)
  else .scene (Fin.ofNat 16 (selector - 9)) (SceneRec.ofValues v)

/-- The record in effect at a selector's place. -/
def Commission.recordAt (c : Commission) (selector : Nat) : Record :=
  if selector = 0 then .suite c.suite
  else if selector ≤ 4 then
    .segment (Fin.ofNat 4 (selector - 1)) (c.segments.get (Fin.ofNat 4 (selector - 1)))
  else if selector ≤ 8 then
    .profile (Fin.ofNat 4 (selector - 5)) (c.profiles.get (Fin.ofNat 4 (selector - 5)))
  else .scene (Fin.ofNat 16 (selector - 9)) (c.scene (selector - 9))

end Sys2Proof.Machine
end

