-- ==== Sys2Proof/Machine/State.lean ====
section
/-! DEFINITION. The state of the part, block by block (the block table of 00_scope.md), as plain data;
the reasons a step could stop; and the state right after power-on of a part as shipped. Every timer is
the number of ticks (Config) it still has to run, none while it is stopped; some 0 means it is due. -/

namespace Sys2Proof.Machine

/-- The part never stops: every request is answered and every event is taken (00_scope.md,
Refusal and clamping), so no meaning raises a fault. Closed and empty: safe. -/
inductive Fault where
  deriving DecidableEq, Repr

/-- The host's name for a command that has no meaning in exec yet. -/
inductive Refusal where
  /-- Raised by an arm of exec that has no meaning; no arm does. Safe: the run stops. -/
  | notModelled (mnemonic : String)
  deriving DecidableEq, Repr

/-! ### Booking table (chapters 1 and 2) -/

/-- The fixed fields of an entry (R2). -/
structure Fixed where
  ref : Nat
  start : Nat
  stop : Nat
  first : Nat
  span : Nat
  kind : Kind
  headcount : Nat
  scene : Option Nat
  setpoint : Option Nat
  lead : Option Nat
  held : Bool
  exempt : Bool
  deriving DecidableEq, Repr

/-- States of an entry (section 2.3). -/
inductive EntryState where
  | planned | preparing | ready | inSession | overrun
  deriving DecidableEq, Repr

inductive StartCause where
  | schedule | panel | resumed
  deriving DecidableEq, Repr

inductive EndCause where
  | schedule | panel | supervisor | overrunLimit | nextBooking | service | clock
  deriving DecidableEq, Repr

/-- The volatile fields of an entry (R4). -/
structure Volatile where
  state : EntryState
  leadUsed : Option Nat
  prepStart : Option Nat
  initialError : Option Nat
  stamp : Option Segs
  liveSetpoint : Option Nat
  currentScene : Option Nat
  savedScene : Option Nat
  actualStart : Option Nat
  startCause : Option StartCause
  presence : Option Bool
  occupiedMinutes : Option Nat
  panelHeadcount : Option Nat
  peakHeadcount : Option Nat
  overrunMinutes : Option Nat
  lastLayout : Option Segs
  deriving DecidableEq, Repr

/-- An entry with its state PLANNED and no other volatile field (R4). -/
def Volatile.planned : Volatile :=
  ⟨.planned, none, none, none, none, none, none, none, none, none, none, none, none, none, none,
    none⟩

structure Entry where
  fix : Fixed
  vol : Volatile
  deriving DecidableEq, Repr

/-- TB (R27). ticks and rolloverDue are the model's own: the part of the running second, and that
the seconds count is about to return to 0. -/
structure Tb where
  minutes : Nat
  seconds : Nat
  valid : Bool
  ticks : Nat
  rolloverDue : Bool
  deriving DecidableEq, Repr

/-- BT: the live table, the non-volatile image of its fixed fields (R12), the next ad-hoc reference
(R6) and the learned recovery rates (R37). -/
structure Bt where
  table : List Entry
  stored : List Fixed
  nextAdhoc : Nat
  rates : Four Nat
  deriving DecidableEq, Repr

/-- An open load (R56): its range, staging area and idle timer. -/
structure Load where
  lo : Nat
  hi : Nat
  staged : List Fixed
  idle : Nat
  deriving DecidableEq, Repr

/-! ### Layout monitor (chapter 4) -/

/-- A partition reading or accepted state (R71, R72). -/
inductive Reading where
  | closed | opened | between | fault
  deriving DecidableEq, Repr

/-- One partition position with the levels of its two contacts (R71, R72). -/
structure Partition where
  accepted : Reading
  pending : Option Reading
  settle : Option Nat
  between : Option Nat
  reported : Bool
  closedMade : Bool
  openMade : Bool
  deriving DecidableEq, Repr

/-- LM. governsFirst lists the PREPARING and READY entries that govern the group of their first
segment (R80). -/
structure Lm where
  parts : Three Partition
  groups : List GroupRec
  governsFirst : List Nat
  deriving DecidableEq, Repr

/-! ### Sensors and occupancy (chapter 5) -/

inductive Health where
  | ok | stale | fault
  deriving DecidableEq, Repr

/-- One sensor of one segment (R91). -/
structure Sensor where
  health : Health
  last : Option Int
  run : Nat
  stale : Option Nat
  reported : Bool
  deriving DecidableEq, Repr

structure SegSensors where
  presence : Sensor
  temperature : Sensor
  co2 : Sensor
  daylight : Sensor
  deriving DecidableEq, Repr

/-- The poll timer of a segment, and whether its poll waits for the line (R89). -/
structure Poll where
  timer : Option Nat
  waiting : Bool
  deriving DecidableEq, Repr

/-- SI. outstanding is the segment polled and what is left of its answer window (R89). -/
structure Si where
  sensors : Four SegSensors
  polls : Four Poll
  outstanding : Option (Seg × Nat)
  presenceSource : Four (Option Seg)
  daylightSource : Four (Option Seg)
  deriving DecidableEq, Repr

/-- A running vacancy timer: the minutes it was started with and the ticks left (R98, R99). -/
structure VacancyTimer where
  minutes : Nat
  left : Nat
  deriving DecidableEq, Repr

/-- Occupancy record of a segment (R98); the occupancy itself is derived from it. -/
structure Occ where
  vacancy : Option VacancyTimer
  assumed : Bool
  covered : Bool
  restored : Bool
  deriving DecidableEq, Repr

/-- OT's record of a group: the service level LM last reported to it, the group's occupancy and its
walk-in record (R102, R103). -/
structure OtGroup where
  segs : Segs
  level : Level
  occupied : Bool
  walkIn : Option WalkIn
  deriving DecidableEq, Repr

structure Ot where
  segs : Four Occ
  groups : List OtGroup
  deriving DecidableEq, Repr

/-! ### Air (chapters 6 and 7) -/

inductive LoopMode where
  | parked | acquire | track
  deriving DecidableEq, Repr

/-- A loop record (R108) with the group's standing as LM last reported it (R109). -/
structure Loop where
  segs : Segs
  governing : Option Nat
  level : Level
  people : Nat
  mode : LoopMode
  settled : Bool
  reference : Option Nat
  windowMinutes : Nat
  windowWorst : Nat
  good : Nat
  temp : Option Int
  noTemp : Bool
  qd : Nat
  qmin : Nat
  qvent : Nat
  reheat : Nat
  deriving DecidableEq, Repr

/-- What OT last reported for a segment set (R109, R145). inherited is the model's own: OT has not
reported for this set yet, and the figures are those of the groups it came from [13]; after a SERVICE exit it
also marks a set held vacant until OT reports [39]. -/
structure OccStanding where
  segs : Segs
  occupied : Bool
  walkIn : Bool
  inherited : Bool
  deriving DecidableEq, Repr

/-- AL. exitFigs is the model's own: the figures AL has handed on at its exit evaluation, none while
it has not taken the exit report since the last SERVICE exit [40]; awaitsExit, that it has left SERVICE and
not taken that report yet (R129) [52]. -/
structure Al where
  loops : List Loop
  occ : List OccStanding
  loopTimer : Option Nat
  exitFigs : Option (List DemandFig)
  awaitsExit : Bool
  deriving DecidableEq, Repr

inductive GrantSource where
  | plant | default
  deriving DecidableEq, Repr

/-- AD's record of a group (R131). -/
structure AdGroup where
  segs : Segs
  qd : Nat
  qmin : Nat
  qvent : Nat
  qmax : Nat
  alloc : Nat
  short : Bool
  deriving DecidableEq, Repr

/-- AD (R131). exitUpdate says whether the demand update of AL's exit evaluation has been taken since
SERVICE exit (R143). -/
structure Ad where
  grant : Nat
  source : GrantSource
  age : Option Nat
  total : Nat
  groups : List AdGroup
  targets : Four Nat
  exitUpdate : Bool
  deriving DecidableEq, Repr

/-! ### Lighting and blinds (chapter 8) -/

/-- A running fade (R149); elapsed counts tenths of a second. -/
structure Fade where
  start : Nat
  length : Nat
  elapsed : Nat
  deriving DecidableEq, Repr

structure LampRow where
  level : Nat
  target : Nat
  fade : Option Fade
  deriving DecidableEq, Repr

/-- Glare record (R154). -/
structure Glare where
  active : Bool
  onTimer : Option Nat
  offTimer : Option Nat
  deriving DecidableEq, Repr

inductive Motion where
  | stopped | movingUp | movingDown | reversing | held
  deriving DecidableEq, Repr

inductive Dir where
  | up | down
  deriving DecidableEq, Repr

/-- Blind record (R156): runStart and runSteps are the present run (R160), uncharged and rest count
tenths of a second (R162), reversing is the dead time (R161), driveUp the restart drive-up (R164).
keptBase is the model's own: the base before the group, still occupied or not yet reported by OT, lost its
scene owner [41]. -/
structure Blind where
  position : Nat
  target : Nat
  base : Nat
  keptBase : Option Nat
  override : Option Nat
  motion : Motion
  lastDir : Dir
  budget : Nat
  uncharged : Nat
  rest : Nat
  runStart : Nat
  runSteps : Nat
  reversing : Option Nat
  driveUp : Option Nat
  deriving DecidableEq, Repr

structure LbuSeg where
  window : LampRow
  inner : LampRow
  daylight : Option Nat
  glare : Glare
  blind : Blind
  deriving DecidableEq, Repr

/-- LBU's standing of a group as LM last reported it (R145). -/
structure LbuGroup where
  segs : Segs
  governing : Option Nat
  level : Level
  deriving DecidableEq, Repr

structure Lbu where
  groups : List LbuGroup
  occ : List OccStanding
  segs : Four LbuSeg
  deriving DecidableEq, Repr

/-! ### Output stage -/

inductive Drive where
  | stop | up | down
  deriving DecidableEq, Repr

/-- The driven value of each field output of a segment. -/
structure Outs where
  airflow : Nat
  reheat : Nat
  window : Nat
  inner : Nat
  blind : Drive
  deriving DecidableEq, Repr

/-! ### Notices (chapter 9) -/

/-- The content of SESSION_STARTED and RELEASED. -/
structure StartedFields where
  ref : Nat
  kind : Kind
  segs : Segs
  start : Nat
  stop : Nat
  actualStart : Nat
  cause : StartCause
  deriving DecidableEq, Repr

/-- The content of SESSION_ENDED (R46). -/
structure EndedFields where
  ref : Nat
  kind : Kind
  start : Nat
  stop : Nat
  actualStart : Nat
  actualEnd : Nat
  occupied : Nat
  overrun : Nat
  peak : Option Nat
  startCause : StartCause
  endCause : EndCause
  deriving DecidableEq, Repr

inductive MissedCause where
  | timePassed | suiteChanged
  deriving DecidableEq, Repr

inductive NotReadyCause where
  | unsettled | notGoverning | changed
  deriving DecidableEq, Repr

inductive SensorCause where
  | mark | range | timeout
  deriving DecidableEq, Repr

inductive AbortCause where
  | timeout | service
  deriving DecidableEq, Repr

inductive RestartCause where
  | power | request | line
  deriving DecidableEq, Repr

/-- A notice and its fields (the notice kinds of section 9.3). -/
inductive Notice where
  | sessionStarted (f : StartedFields)
  | sessionEnded (f : EndedFields)
  | released (f : StartedFields)
  | missed (ref : Nat) (kind : Kind) (segs : Segs) (start stop : Nat) (cause : MissedCause)
  | ready (ref elapsed : Nat) (learned : Bool)
  | notReady (ref : Nat) (cause : NotReadyCause)
  | layoutMismatch (ref : Nat) (expected found : Segs)
  | sensorFault (s : Seg) (k : SensorKind) (health : Health) (cause : SensorCause)
  | sensorRecovered (s : Seg) (k : SensorKind)
  | partitionFault (p : Part) (state : Reading)
  | airShort (segs : Segs) (alloc qvent grant : Nat)
  | airRestored (segs : Segs) (alloc qvent : Nat)
  | loadDone (lo hi removed added droppedPast droppedConflict : Nat)
  | loadAborted (lo hi : Nat) (cause : AbortCause) (staged : Nat)
  | restarted (cause : RestartCause)
  deriving DecidableEq, Repr

/-- A notice as queued (R175). -/
structure NoticeRec where
  counter : Nat
  minute : Nat
  notice : Notice
  deriving DecidableEq, Repr

structure Nq where
  list : List NoticeRec
  overflow : Bool
  counter : Nat
  deriving DecidableEq, Repr

/-! ### Commissioning store and mode (chapter 11) -/

inductive Mode where
  | run | service
  deriving DecidableEq, Repr

structure Cs where
  effective : Commission
  pending : List Record
  mode : Mode
  lock : Bool
  serviceLine : Bool
  deriving DecidableEq, Repr

/-! ### The two ports (chapters 9 and 10) -/

/-- Reason codes 0 to 22 (section 9.4). -/
inductive Reason where
  | ok | unknownFunction | badLength | outOfRange | badDuration | noSegment | past | notFound
  | noCursor | duplicate | overlap | full | active | held | conflict | limit | loading | noLoad
  | badRange | noClock | wrongMode | locked | noSession
  deriving DecidableEq, Repr

/-- A reply of WP (R173): the function code without the reply mark, the status and the payload. -/
structure WingReply where
  function : Nat
  reason : Reason
  attention : Bool
  payload : List Byte
  deriving DecidableEq, Repr

/-- A reply of RL (R184). -/
structure LinkReply where
  reason : Reason
  payload : List Byte
  deriving DecidableEq, Repr

/-- Receive state of WP (R169): the bytes after the SYNC. -/
inductive WpRx where
  | hunt
  | receive (bytes : List Byte)
  deriving DecidableEq, Repr

/-- A table position: start minute and reference (section 1.8). -/
structure Key where
  start : Nat
  ref : Nat
  deriving DecidableEq, Repr

/-- WP. held is the function code of the request held (R171). -/
structure Wp where
  rx : WpRx
  address : Nat
  bitRate : Nat
  held : Option Nat
  reply : Option WingReply
  lastSent : Option WingReply
  cursor : Option Key
  deriving DecidableEq, Repr

inductive RlState where
  | idle | receive | reply
  deriving DecidableEq, Repr

/-- RL (R181). echo records what RL last drove on the line; breakEcho stands while it echoes a break
(R182) [44]. -/
structure Rl where
  state : RlState
  frame : List Byte
  cursors : Four (Option Key)
  reply : Option LinkReply
  lastSent : Option LinkReply
  echo : List Byte
  breakEcho : Bool
  deriving DecidableEq, Repr

/-- Supply, reset line and address straps (R170, R193, section 11.5). -/
structure Pins where
  powered : Bool
  resetLow : Bool
  straps : Nat
  deriving DecidableEq, Repr

/-- The whole part, the commands that wait, and the reports between blocks not yet taken. -/
structure State where
  tb : Tb
  bt : Bt
  load : Option Load
  lm : Lm
  si : Si
  ot : Ot
  al : Al
  ad : Ad
  lbu : Lbu
  os : Four Outs
  nq : Nq
  cs : Cs
  wp : Wp
  rl : Rl
  pins : Pins
  tenth : Bool
  reports : List Instr
  pending : List Instr
  deriving DecidableEq, Repr

/-! ### Records as they stand after restart -/

/-- R71, for a position whose contacts read as given; R15-style idle record otherwise [15]. -/
def Partition.initial (closedMade openMade : Bool) : Partition :=
  ⟨.closed, none, none, none, false, closedMade, openMade⟩

/-- R91. -/
def Sensor.initial : Sensor := ⟨.stale, none, 0, some (Config.seconds 120), false⟩
def SegSensors.initial : SegSensors :=
  ⟨Sensor.initial, Sensor.initial, Sensor.initial, Sensor.initial⟩
/-- R89: the poll timer starts at restart. -/
def Poll.initial : Poll := ⟨some (Config.seconds 10), false⟩
/-- R98. -/
def Occ.initial : Occ := ⟨none, true, false, false⟩
/-- R149. -/
def LampRow.initial : LampRow := ⟨0, 0, none⟩
/-- R154. -/
def Glare.initial : Glare := ⟨false, none, none⟩

/-- R156 and R164: the position counted from 1000, the drive-up running for T_full + 5 seconds. The
base is 0 as R156's table gives, and the target the vacant position as R164 gives [20]. -/
def Blind.initial (r : SegmentRec) : Blind where
  position := 1000
  target := r.vacantPosition
  base := 0
  keptBase := none
  override := none
  motion := .movingUp
  lastDir := .up
  budget := 3 * r.fullTravel
  uncharged := 0
  rest := 0
  runStart := 1000
  runSteps := 0
  reversing := none
  driveUp := some (Config.seconds (r.fullTravel + 5))

/-- The record of a segment that is not configured: no motion, nothing running [15]. -/
def Blind.absent : Blind :=
  ⟨0, 0, 0, none, none, .stopped, .up, 0, 0, 0, 0, 0, none, none⟩

def LbuSeg.initial (r : SegmentRec) : LbuSeg :=
  ⟨LampRow.initial, LampRow.initial, none, Glare.initial, Blind.initial r⟩
def LbuSeg.absent : LbuSeg :=
  ⟨LampRow.initial, LampRow.initial, none, Glare.initial, Blind.absent⟩

/-- The sensor records and poll timer of a segment that is not configured [15]. -/
def Sensor.absent : Sensor := ⟨.stale, none, 0, none, false⟩
def SegSensors.absent : SegSensors :=
  ⟨Sensor.absent, Sensor.absent, Sensor.absent, Sensor.absent⟩
def Poll.absent : Poll := ⟨none, false⟩

/-- R108: a loop record as it stands after restart, its minimum given. -/
def Loop.initial (segs : Segs) (qmin : Nat) : Loop :=
  ⟨segs, none, .none, 0, .parked, false, none, 0, 0, 0, none, true, qmin, qmin, 0, 0⟩

/-- R76. -/
def GroupRec.initial (segs : Segs) : GroupRec := ⟨segs, none, .none, [], 0⟩

/-- The outputs of a segment that is not configured (R121, R139, R149, R156). -/
def Outs.zero : Outs := ⟨0, 0, 0, 0, .stop⟩

/-- The part right after power-on as shipped: factory records, an empty table, one segment, no strap
fitted, no contact made, the service line released [8]. RESTARTED stands alone in the queue
(R177), and the reports of R107 and R130 are on their way. -/
def State.reset : State where
  tb := ⟨0, 0, false, 0, false⟩
  bt := ⟨[], [], Config.adhocFirst, Four.all 10⟩
  load := none
  lm := ⟨Three.all (Partition.initial false false), [GroupRec.initial ⟨0, 1⟩], []⟩
  si :=
    { sensors := (Four.all SegSensors.absent).set 0 SegSensors.initial
      polls := (Four.all Poll.absent).set 0 Poll.initial
      outstanding := none
      presenceSource := Four.all none
      daylightSource := Four.all none }
  ot := ⟨Four.all Occ.initial, [⟨⟨0, 1⟩, .none, false, none⟩]⟩
  al := ⟨[Loop.initial ⟨0, 1⟩ 100], [⟨⟨0, 1⟩, false, false, false⟩], some (Config.seconds 60),
    none, false⟩
  ad := ⟨1000, .default, none, 100, [⟨⟨0, 1⟩, 100, 100, 0, 800, 100, false⟩], ⟨100, 0, 0, 0⟩, false⟩
  lbu :=
    { groups := [⟨⟨0, 1⟩, none, .none⟩]
      occ := [⟨⟨0, 1⟩, false, false, false⟩]
      segs := (Four.all LbuSeg.absent).set 0 (LbuSeg.initial SegmentRec.factory) }
  os := (Four.all Outs.zero).set 0 ⟨100, 0, 0, 0, .up⟩
  nq := ⟨[⟨0, 0, .restarted .power⟩], false, 1⟩
  cs := ⟨Commission.factory, [], .run, false, false⟩
  wp := ⟨.hunt, 62, 0, none, none, none, none⟩
  rl := ⟨.idle, [], Four.all none, none, none, [], false⟩
  pins := ⟨true, false, 0⟩
  tenth := false
  reports := [.daylightSourceReport 0 none, .demandUpdate [⟨⟨0, 1⟩, 100, 100, 0⟩]]
  pending := []

end Sys2Proof.Machine
end

