-- ==== Sys2Proof/Machine/Ops.lean ====
section
/-! DEFINITION. The shared operations on the state: segment sets, looking entries and groups up, the
one way to write the table (with its non-volatile image), queuing a notice, raising and taking a
report between blocks, and driving the outputs. -/

namespace Sys2Proof.Machine

/-! ### Segment sets -/

def segHas (g : Segs) (s : Nat) : Bool := g.first ≤ s && s < g.first + g.span
/-- The two sets share a segment. -/
def segsMeet (a b : Segs) : Bool := a.first < b.first + b.span && b.first < a.first + a.span
def segList (g : Segs) : List Seg := allSegs.filter fun s => segHas g s
def sumSegs (g : Segs) (f : Seg → Nat) : Nat := ((segList g).map f).sum

def fixedSegs (f : Fixed) : Segs := ⟨f.first, f.span⟩
def entrySegs (e : Entry) : Segs := fixedSegs e.fix

def clampNat (low high n : Nat) : Nat := max low (min high n)
/-- Clamping a signed figure into a range of non-negative figures (00_scope.md, Arithmetic). -/
def clampInt (low high : Nat) (n : Int) : Nat := clampNat low high n.toNat
def ceilDiv (a b : Nat) : Nat := (a + b - 1) / b

/-! ### Reading the state -/

def State.now (s : State) : Nat := s.tb.minutes
/-- The records in effect (R188). -/
def State.comm (s : State) : Commission := s.cs.effective
def State.suite (s : State) : SuiteRec := s.cs.effective.suite
/-- The segment count in effect (R7). -/
def State.segCount (s : State) : Nat := s.cs.effective.suite.segmentCount
def State.configured (s : State) (g : Seg) : Bool := g.val < s.segCount
def State.configuredSegs (s : State) : List Seg := allSegs.filter s.configured
def State.inRun (s : State) : Bool := s.cs.mode == .run
def State.segRec (s : State) (g : Seg) : SegmentRec := s.cs.effective.segments.get g

/-- Supplied and not held in reset: only then does the part take arrivals [6]. -/
def State.alive (s : State) : Bool := s.pins.powered && !s.pins.resetLow

def isActiveState : EntryState → Bool
  | .inSession => true
  | .overrun => true
  | _ => false
/-- Active: IN_SESSION or OVERRUN (R4). -/
def isActive (e : Entry) : Bool := isActiveState e.vol.state
def isPreparedState : EntryState → Bool
  | .preparing => true
  | .ready => true
  | _ => false
def isPrepared (e : Entry) : Bool := isPreparedState e.vol.state
/-- Holding live copies (R4). -/
def holdsLive (e : Entry) : Bool := e.vol.liveSetpoint.isSome

def State.entry? (s : State) (ref : Nat) : Option Entry :=
  s.bt.table.find? fun e => e.fix.ref == ref

/-- LM's group that holds a segment, as the groups stand (R75). -/
def State.groupOf? (s : State) (g : Nat) : Option GroupRec :=
  s.lm.groups.find? fun r => segHas r.segs g

def State.otGroup? (s : State) (g : Segs) : Option OtGroup :=
  s.ot.groups.find? fun r => r.segs == g

def State.loop? (s : State) (g : Segs) : Option Loop := s.al.loops.find? fun l => l.segs == g

/-- OT's walk-in record of a group. -/
def State.walkIn? (s : State) (g : Segs) : Option WalkIn := (s.otGroup? g).bind (·.walkIn)

/-! ### Order of the table (R1) -/

def fixedBefore (a b : Fixed) : Bool := a.start < b.start || (a.start == b.start && a.ref < b.ref)

/-- Joining a list at its place in table order. -/
def insertBy {α : Type} (before : α → α → Bool) (a : α) : List α → List α
  | [] => [a]
  | b :: rest => if before a b then a :: b :: rest else b :: insertBy before a rest

def insertEntry (e : Entry) (t : List Entry) : List Entry :=
  insertBy (fun a b => fixedBefore a.fix b.fix) e t
def insertFixed (f : Fixed) (t : List Fixed) : List Fixed := insertBy fixedBefore f t

/-- Sharing a segment over overlapping booked intervals (R11). -/
def overlaps (a b : Fixed) : Bool :=
  segsMeet (fixedSegs a) (fixedSegs b) && a.start < b.stop && b.start < a.stop

/-! ### Writing the table -/

/-- The table changed and written whole to non-volatile storage (R12). -/
def State.setTable (s : State) (t : List Entry) : State :=
  { s with bt := { s.bt with table := t, stored := t.map (·.fix) } }

def State.addEntry (s : State) (e : Entry) : State := s.setTable (insertEntry e s.bt.table)

def State.dropEntry (s : State) (ref : Nat) : State :=
  s.setTable (s.bt.table.filter fun e => e.fix.ref != ref)

/-- The fixed fields of an entry replaced; the entry moves to its new place in table order (R1). -/
def State.replaceFixed (s : State) (e : Entry) (f : Fixed) : State :=
  s.setTable (insertEntry { e with fix := f } (s.bt.table.filter fun x => x.fix.ref != e.fix.ref))

/-- The volatile fields of an entry changed: nothing is written to non-volatile storage. -/
def State.mapVolatile (s : State) (ref : Nat) (f : Volatile → Volatile) : State :=
  { s with bt := { s.bt with table := s.bt.table.map fun e =>
      if e.fix.ref == ref then { e with vol := f e.vol } else e } }

/-- The volatile fields of every entry changed. -/
def State.mapEveryVolatile (s : State) (f : Entry → Volatile) : State :=
  { s with bt := { s.bt with table := s.bt.table.map fun e => { e with vol := f e } } }

/-- One treatment of each listed entry in turn, each as it stands when its turn comes; an entry that
has left the table is passed over. -/
def State.forEntries (refs : List Nat) (f : Entry → State → State) (s : State) : State :=
  refs.foldl (fun s ref => match s.entry? ref with
    | some e => f e s
    | none => s) s

def State.refs (s : State) : List Nat := s.bt.table.map (·.fix.ref)

/-! ### Notices (R175) -/

/-- The minute a notice carries: 0 while the clock is invalid (R27). -/
def State.stampMinute (s : State) : Nat := if s.tb.valid then s.tb.minutes else 0

/-- A created notice joins the list at its end; in a full list the oldest is discarded first and the
overflow mark set; the counter advances, 65,535 followed by 0 (R175). -/
def State.notify (s : State) (n : Notice) : State :=
  let rec_ : NoticeRec := ⟨s.nq.counter, s.stampMinute, n⟩
  let full := Config.noticeCapacity ≤ s.nq.list.length
  { s with nq :=
    { list := (if full then s.nq.list.drop (s.nq.list.length - (Config.noticeCapacity - 1))
        else s.nq.list) ++ [rec_]
      overflow := if full then true else s.nq.overflow
      counter := (s.nq.counter + 1) % 65536 } }

def State.notifyAll (s : State) (ns : List Notice) : State := ns.foldl State.notify s

/-! ### Reports between blocks [1] -/

/-- A report leaves its block and waits to be taken. -/
def State.raise (s : State) (c : Instr) : State := { s with reports := s.reports ++ [c] }

def State.raiseAll (s : State) (cs : List Instr) : State := { s with reports := s.reports ++ cs }

def isOccupancyReport : Instr → Bool
  | .occupancyReport _ _ _ _ => true
  | _ => false

/-- Reports of OT that are to be taken before the reports of LM already waiting, and after every
report of OT already waiting: the cases in which chapters 6 and 8 name the outcome of "OT report
taken first" [1]. -/
def State.raiseEarly (s : State) (cs : List Instr) : State :=
  let later := (s.reports.reverse.takeWhile fun c => !isOccupancyReport c).length
  let cut := s.reports.length - later
  { s with reports := s.reports.take cut ++ cs ++ s.reports.drop cut }

/-- A report that is taken no longer waits. -/
def State.take (s : State) (c : Instr) : State := { s with reports := s.reports.erase c }

/-! ### Outputs -/

/-- The reheat of the loop whose group holds a segment (R121). -/
def State.reheatOf (s : State) (g : Seg) : Nat :=
  match s.al.loops.find? fun l => segHas l.segs g with
  | some l => l.reheat
  | none => 0

/-- The motor follows the motion state (R156). -/
def driveOf : Motion → Drive
  | .movingUp => .up
  | .movingDown => .down
  | _ => .stop

def State.outsOf (s : State) (g : Seg) : Outs :=
  if s.configured g then
    let l := s.lbu.segs.get g
    ⟨s.ad.targets.get g, s.reheatOf g, l.window.level, l.inner.level, driveOf l.blind.motion⟩
  else Outs.zero

/-- OS drives every configured segment to the figures of AL, AD and LBU and holds the rest at 0
(R121, R139, R149, R156). -/
def State.drive (s : State) : State :=
  { s with os := ⟨s.outsOf 0, s.outsOf 1, s.outsOf 2, s.outsOf 3⟩ }

/-! ### Taking an arrival -/

/-- An arrival that is not a frame of a master: a pin, a timer or a report. A part without supply or
held in reset takes nothing [6]. A waiting report equal to the arrival is the one taken. -/
def State.event (s : State) (c : Instr) (act : State → State) : State :=
  if s.alive then (act (s.take c)).drive else s

end Sys2Proof.Machine
end

