-- ==== Sys2Proof/Machine/Operands.lean ====
section
/-! DEFINITION. What a carried field means: kinds and their profiles (R31), the values derived from an
entry's fixed fields (R3), the settlement of flags (R9), the clamps (R10) and the single checks that the
admission rules put in order (R5, R7, R8, R11). -/

namespace Sys2Proof.Machine

/-! ### Kinds (R9, section 9.4) -/

def kindCode : Kind → Nat
  | .lecture => 1
  | .caseStudy => 2
  | .exam => 3
  | .event => 4
  | .adhoc => 5

/-- The kinds a supervisor may write: LECTURE, CASE, EXAM and EVENT (R9). -/
def supervisorKind? (code : Nat) : Option Kind :=
  match code with
  | 1 => some .lecture
  | 2 => some .caseStudy
  | 3 => some .exam
  | 4 => some .event
  | _ => none

/-- The profile record of a kind; ADHOC has none, its profile is fixed in the part (R31). -/
def profileRec? (c : Commission) : Kind → Option ProfileRec
  | .lecture => some (c.profiles.get 0)
  | .caseStudy => some (c.profiles.get 1)
  | .exam => some (c.profiles.get 2)
  | .event => some (c.profiles.get 3)
  | .adhoc => none

def comfortOf (c : Commission) (k : Kind) : Nat :=
  match profileRec? c k with
  | some p => p.comfort
  | none => c.suite.walkInSetpoint

def defaultSceneOf (c : Commission) (k : Kind) : Nat :=
  match profileRec? c k with
  | some p => p.scene
  | none => 0

/-- The no-show wait of a kind; none for EXAM, carried as 0 (R31, section 11.1). -/
def noShowWait? (c : Commission) (k : Kind) : Option Nat :=
  match profileRec? c k with
  | some p => if p.noShowWait = 0 then none else some p.noShowWait
  | none => some 10

/-- The in-session vacancy delay in minutes (R31). -/
def sessionDelayOf (c : Commission) (k : Kind) : Nat :=
  match profileRec? c k with
  | some p => p.vacancyDelay
  | none => c.suite.vacancyDelay

/-! ### Derived values (R3) -/

def storedSetpoint (c : Commission) (f : Fixed) : Nat := f.setpoint.getD (comfortOf c f.kind)
def bookedScene (c : Commission) (f : Fixed) : Nat := f.scene.getD (defaultSceneOf c f.kind)

/-! ### Settlement and clamps (R9, R10) -/

def seatsOf (c : Commission) (g : Segs) : Nat := sumSegs g fun i => (c.segments.get i).seats
def areaOf (c : Commission) (g : Segs) : Nat := sumSegs g fun i => (c.segments.get i).area

/-- The headcount clamped to 0 to 400 and then to the seats of the segments. -/
def clampHeadcount (c : Commission) (g : Segs) (n : Nat) : Nat := min (min n 400) (seatsOf c g)

/-- An EXAM entry is stored held and no-show exempt (R9). -/
def settleFlags (f : Fixed) : Fixed :=
  match f.kind with
  | .exam => { f with held := true, exempt := true }
  | _ => f

/-- The clamps of R10 on figures already taken from the request. -/
def clampFixed (c : Commission) (f : Fixed) : Fixed :=
  { f with
    headcount := clampHeadcount c (fixedSegs f) f.headcount
    setpoint := f.setpoint.map (clampNat 160 280)
    lead := f.lead.map (clampNat 0 90) }

/-- The fixed fields a BOOK ADD or LOAD ENTRY offers: flags settled (R9), figures clamped (R10). A
kind code without a kind is refused before the fields are used. -/
def offered (c : Commission) (w : FixedWire) : Fixed :=
  clampFixed c <| settleFlags
    { ref := w.ref, start := w.start, stop := w.stop, first := w.first, span := w.span
      kind := (supervisorKind? w.kind).getD .lecture
      headcount := w.headcount
      scene := w.scene
      setpoint := w.setpoint.map (clampInt 160 280)
      lead := w.lead
      held := w.held, exempt := w.exempt }

/-! ### The single checks -/

/-- A new reference outside 1 to 4,294,901,759 (R5). -/
def badNewRef (ref : Nat) : Bool := ref == 0 || Config.adhocFirst ≤ ref

/-- The OUT_OF_RANGE check of R14 and R58. -/
def badOffer (w : FixedWire) : Bool :=
  badNewRef w.ref || (supervisorKind? w.kind).isNone || w.scene.any (fun i => 15 < i)

/-- The segment set does not lie in the suite (R7). -/
def badSegs (count : Nat) (g : Segs) : Bool :=
  g.span == 0 || 4 < g.span || 3 < g.first || count < g.first + g.span

/-- The signed duration lies outside 10 to 600 (R8). -/
def badDuration (f : Fixed) : Bool := f.stop < f.start + 10 || f.start + 600 < f.stop

/-- The end is at or before now while the clock is valid (R8). -/
def isPast (s : State) (f : Fixed) : Bool := s.tb.valid && f.stop ≤ s.now

/-- The start lies in the range of an open load (R56, R60). -/
def inLoad (s : State) (start : Nat) : Bool :=
  match s.load with
  | some l => l.lo ≤ start && start < l.hi
  | none => false

def overlapsLive (s : State) (f : Fixed) : Bool := s.bt.table.any fun e => overlaps f e.fix

/-- The first check that fails gives the reason code. -/
def firstFault : List (Bool × Reason) → Reason
  | [] => .ok
  | (bad, r) :: rest => if bad then r else firstFault rest

/-! ### Codes carried in replies (section 9.4) -/

def reasonCode : Reason → Nat
  | .ok => 0
  | .unknownFunction => 1
  | .badLength => 2
  | .outOfRange => 3
  | .badDuration => 4
  | .noSegment => 5
  | .past => 6
  | .notFound => 7
  | .noCursor => 8
  | .duplicate => 9
  | .overlap => 10
  | .full => 11
  | .active => 12
  | .held => 13
  | .conflict => 14
  | .limit => 15
  | .loading => 16
  | .noLoad => 17
  | .badRange => 18
  | .noClock => 19
  | .wrongMode => 20
  | .locked => 21
  | .noSession => 22

end Sys2Proof.Machine
end

