-- ==== Sys2Proof/Machine/Sessions.lean ====
section
/-! DEFINITION. BT's own steps in the life of an entry (chapter 2): starting and ending a session,
removals, becoming READY with the learning update, leads and preparation, the steps of the minute event
and the re-entry evaluation. Commands of other chapters call these. -/

namespace Sys2Proof.Machine

/-! ### Occupancy as BT reads it (R40) -/

/-- Observed occupied: the vacancy timer runs and was not started under R101 (R40, R98). -/
def State.observed (s : State) (g : Seg) : Bool :=
  (s.ot.segs.get g).vacancy.isSome && !(s.ot.segs.get g).restored

def State.entryObserved (s : State) (e : Entry) : Bool := (segList (entrySegs e)).any s.observed

/-! ### Start of a session (R39) -/

/-- The volatile fields of an entry that enters IN_SESSION (R39). -/
def begunVolatile (c : Commission) (f : Fixed) (now : Nat) (cause : StartCause) (seen : Bool)
    (v : Volatile) : Volatile :=
  { v with
    state := .inSession
    actualStart := some now
    startCause := some cause
    occupiedMinutes := some 0
    presence := some seen
    liveSetpoint := some (v.liveSetpoint.getD (storedSetpoint c f))
    currentScene := if v.liveSetpoint.isSome then v.currentScene else some (bookedScene c f)
    savedScene := if v.liveSetpoint.isSome then v.savedScene else none }

def startedFields (f : Fixed) (actual : Nat) (cause : StartCause) : StartedFields :=
  ⟨f.ref, f.kind, fixedSegs f, f.start, f.stop, actual, cause⟩

/-- An entry enters IN_SESSION: its fields, its SESSION_STARTED notice and the entry state change
(R32, R39). -/
def State.startSession (s : State) (e : Entry) (cause : StartCause) : State :=
  let seen := cause == .panel || s.entryObserved e
  ((s.mapVolatile e.fix.ref (begunVolatile s.comm e.fix s.now cause seen)).notify
      (.sessionStarted (startedFields e.fix s.now cause))).raise
    (.entryStateChange e.fix.ref (entrySegs e) true)

/-! ### End of a session (R46) -/

/-- The groups the entry governed (R46): those LM's records name at that instant, an entry state change
still on its way not yet counted. The model's choice [35]. -/
def State.governedBy (s : State) (ref : Nat) : List Segs :=
  (s.lm.groups.filter fun g => g.governing == some ref).map (·.segs)

def endedFields (e : Entry) (now : Nat) (cause : EndCause) : EndedFields where
  ref := e.fix.ref
  kind := e.fix.kind
  start := e.fix.start
  stop := e.fix.stop
  actualStart := e.vol.actualStart.getD 0
  actualEnd := now
  occupied := e.vol.occupiedMinutes.getD 0
  overrun := e.vol.overrunMinutes.getD 0
  peak := e.vol.peakHeadcount
  startCause := e.vol.startCause.getD .schedule
  endCause := cause

/-- An active entry ends (R46): the notice, the removal written to non-volatile storage, the entry
state change, and the report of the end to LBU (R159). -/
def State.endSession (s : State) (e : Entry) (cause : EndCause) : State :=
  ((s.notify (.sessionEnded (endedFields e s.now cause))).dropEntry e.fix.ref).raiseAll
    [.entryStateChange e.fix.ref (entrySegs e) false,
      .sessionEndOverrides e.fix.ref (s.governedBy e.fix.ref)]

/-- Every other active entry on a segment of the set ends with the cause (R38), in table order: the model's
choice [46]. -/
def State.endOthers (s : State) (ref : Nat) (g : Segs) (cause : EndCause) : State :=
  s.forEntries ((s.bt.table.filter fun e =>
      isActive e && e.fix.ref != ref && segsMeet (entrySegs e) g).map (·.fix.ref))
    fun e s => s.endSession e cause

/-! ### Removals without a session -/

/-- A removal is an entry state change unless the entry was PLANNED (R32). -/
def State.reportRemoval (s : State) (e : Entry) : State :=
  match e.vol.state with
  | .planned => s
  | _ => s.raise (.entryStateChange e.fix.ref (entrySegs e) false)

/-- MISSED (R38, R53). -/
def State.missEntry (s : State) (e : Entry) (cause : MissedCause) : State :=
  ((s.notify (.missed e.fix.ref e.fix.kind (entrySegs e) e.fix.start e.fix.stop cause)).dropEntry
    e.fix.ref).reportRemoval e

/-- RELEASED (R43). -/
def State.releaseEntry (s : State) (e : Entry) : State :=
  ((s.notify (.released (startedFields e.fix (e.vol.actualStart.getD 0)
      (e.vol.startCause.getD .schedule)))).dropEntry e.fix.ref).reportRemoval e

/-! ### Preparation (R33, R34) -/

/-- The OK temperature readings of a set (R97). -/
def State.okTemps (s : State) (g : Segs) : List Int :=
  (segList g).filterMap fun i =>
    match (s.si.sensors.get i).temperature.health with
    | .ok => (s.si.sensors.get i).temperature.last
    | _ => none

/-- The mean rounded to nearest, halves upward (00_scope.md); none without a reading. -/
def meanTemp? (ts : List Int) : Option Int :=
  match ts with
  | [] => none
  | _ => some ((2 * ts.sum + ts.length) / (2 * ts.length))

def State.tempError (s : State) (g : Segs) (setpoint : Nat) : Option Nat :=
  (meanTemp? (s.okTemps g)).map fun (t : Int) => (t - (setpoint : Int)).natAbs

/-- The largest learned rate of a set (R33); the rate of a segment that is not configured is not read
(R37). -/
def State.largestRate (s : State) (g : Segs) : Nat :=
  (((segList g).filter s.configured).map s.bt.rates.get).foldl max 0

/-- The lead of R33. -/
def State.leadOf (s : State) (f : Fixed) : Nat :=
  match f.lead with
  | some l => l
  | none =>
    match s.tempError (fixedSegs f) (storedSetpoint s.comm f) with
    | some e0 =>
      clampNat 5 90 (s.suite.baseLead + ceilDiv (e0 * s.largestRate (fixedSegs f)) 10)
    | none => clampNat 5 90 (s.suite.baseLead + 30)

/-- Due to prepare: within 120 minutes of the start, lead above 0 and reached (R33, R34). -/
def State.prepareDue (s : State) (e : Entry) : Bool :=
  e.vol.state == .planned && s.now < e.fix.start && e.fix.start ≤ s.now + 120
    && 0 < s.leadOf e.fix && e.fix.start ≤ s.now + s.leadOf e.fix

/-- The set of the group that holds an entry's first segment (R34). Where LM holds no group for it, a restart
having taken a smaller segment count, the entry's own first segment alone: the model's choice [53]. -/
def State.homeGroup (s : State) (f : Fixed) : Segs :=
  match s.groupOf? f.first with
  | some g => g.segs
  | none => ⟨f.first, 1⟩

/-- Entering PREPARING (R34). -/
def State.enterPreparing (s : State) (e : Entry) : State :=
  let g := s.homeGroup e.fix
  let setpoint := storedSetpoint s.comm e.fix
  (s.mapVolatile e.fix.ref fun v =>
    { v with
      state := .preparing
      leadUsed := some (s.leadOf e.fix)
      prepStart := some s.now
      stamp := some g
      initialError := some ((s.tempError g setpoint).getD 0)
      liveSetpoint := some setpoint
      currentScene := some (bookedScene s.comm e.fix)
      savedScene := none }).raise
    (.entryStateChange e.fix.ref (entrySegs e) false)

/-! ### READY and the learning update (R35 to R37) -/

/-- Minutes elapsed since preparing start; open while that start lies after now [14]. -/
def elapsedSince (prepStart now : Nat) : Nat :=
  if prepStart ≤ now then now - prepStart else Config.elapsedBeforeStart prepStart now

/-- Both conditions of R37. -/
def State.mayLearn (s : State) (e : Entry) : Bool :=
  5 ≤ e.vol.initialError.getD 0 && e.vol.stamp == some (s.homeGroup e.fix)

def learnedRate (old observed : Nat) : Nat := clampNat 1 60 ((3 * old + observed + 2) / 4)

/-- The rates of the group's segments replaced; a segment that is not configured keeps its rate (R37). -/
def State.learn (s : State) (e : Entry) : State :=
  let observed := elapsedSince (e.vol.prepStart.getD 0) s.now * 10 / e.vol.initialError.getD 0
  let g := s.homeGroup e.fix
  let rates := s.bt.rates.mapIdx fun i r =>
    if segHas g i && s.configured i then learnedRate r observed else r
  { s with bt := { s.bt with rates := rates } }

/-- A PREPARING entry becomes READY (R35): the learning update first, then the notice (R37). -/
def State.makeReady (s : State) (e : Entry) : State :=
  let learnt := s.mayLearn e
  let s1 := if learnt then s.learn e else s
  ((s1.mapVolatile e.fix.ref fun v => { v with state := .ready }).notify
      (.ready e.fix.ref (elapsedSince (e.vol.prepStart.getD 0) s.now) learnt)).raise
    (.entryStateChange e.fix.ref (entrySegs e) false)

/-- A READY entry returns to PREPARING and keeps its fields (R36). -/
def State.loseReady (s : State) (e : Entry) (cause : NotReadyCause) : State :=
  ((s.mapVolatile e.fix.ref fun v => { v with state := .preparing }).notify
      (.notReady e.fix.ref cause)).raise
    (.entryStateChange e.fix.ref (entrySegs e) false)

/-- A settled report (R35): the entry that governs the group named, which holds its first segment. That it
governs by LM's record as it stands, an entry state change still on its way to LM not yet counted, is the
model's choice [57]. -/
def State.takeSettled (s : State) (g : Segs) : State :=
  s.forEntries s.refs fun e s =>
    if e.vol.state == .preparing && segHas g e.fix.first
        && s.lm.groups.any (fun r => r.segs == g && r.governing == some e.fix.ref)
    then s.makeReady e else s

/-- A lost-settled report (R36); several entries in table order [46]. -/
def State.takeLostSettled (s : State) (g : Segs) : State :=
  s.forEntries s.refs fun e s =>
    if e.vol.state == .ready && segHas g e.fix.first then s.loseReady e .unsettled else s

/-! ### The steps of the minute event (R50) -/

/-- Step 1: counting and the overrun limit (R49). -/
def State.countEntry (e : Entry) (s : State) : State :=
  let seen := s.entryObserved e
  let overrun := e.vol.overrunMinutes.getD 0 + 1
  let v := { e.vol with
    occupiedMinutes :=
      if seen then some (min 65535 (e.vol.occupiedMinutes.getD 0 + 1)) else e.vol.occupiedMinutes
    overrunMinutes := if e.vol.state == .overrun then some overrun else e.vol.overrunMinutes }
  let s1 := s.mapVolatile e.fix.ref fun _ => v
  if e.vol.state == .overrun && 120 ≤ overrun then s1.endSession { e with vol := v } .overrunLimit
  else s1

/-- Step 2: the judgement at the booked end (R44). -/
def State.judgeEnd (e : Entry) (s : State) : State :=
  if e.vol.state == .inSession && e.fix.stop ≤ s.now then
    if s.entryObserved e then
      (s.mapVolatile e.fix.ref fun v =>
        { v with state := .overrun, overrunMinutes := some (v.overrunMinutes.getD 0) }).raise
        (.entryStateChange e.fix.ref (entrySegs e) false)
    else s.endSession e .schedule
  else s

/-- Step 3: no-show release (R43). -/
def State.judgeNoShow (e : Entry) (s : State) : State :=
  match noShowWait? s.comm e.fix.kind with
  | some wait =>
    if e.vol.state == .inSession && !e.fix.exempt && e.vol.presence == some false
        && e.vol.actualStart.getD 0 + wait ≤ s.now
        && (segList (entrySegs e)).any (fun i => (s.si.presenceSource.get i).isSome)
    then s.releaseEntry e else s
  | none => s

/-- Step 4: starts (R38). -/
def State.judgeStart (e : Entry) (s : State) : State :=
  if !isActive e && e.fix.start ≤ s.now then
    if e.fix.stop ≤ s.now then s.missEntry e .timePassed
    else (s.endOthers e.fix.ref (entrySegs e) .nextBooking).startSession e .schedule
  else s

/-- Step 5: leads and entry to PREPARING (R33, R34). -/
def State.judgePrepare (e : Entry) (s : State) : State :=
  if s.prepareDue e then s.enterPreparing e else s

/-- BT at the minute event in RUN (R50); step 1 takes the entries active at its arrival. R50 names table
order for steps 4 and 5; that steps 1 to 3 take the entries in that order too is the model's choice [46]. -/
def State.btMinute (s : State) : State :=
  let s1 := s.forEntries ((s.bt.table.filter isActive).map (·.fix.ref)) State.countEntry
  let s2 := s1.forEntries s1.refs State.judgeEnd
  let s3 := s2.forEntries s2.refs State.judgeNoShow
  let s4 := s3.forEntries s3.refs State.judgeStart
  s4.forEntries s4.refs State.judgePrepare

/-! ### Re-entry evaluation (R52, R53) -/

/-- One entry's treatment, once the clock is valid (R53, steps 2 to 4). A removal of any entry is
reported here (R53, last paragraph) [21]. -/
def State.reenterEntry (e : Entry) (s : State) : State :=
  if e.fix.stop ≤ s.now then
    if isActive e then s.endSession e .clock
    else
      ((s.notify (.missed e.fix.ref e.fix.kind (entrySegs e) e.fix.start e.fix.stop
        .timePassed)).dropEntry e.fix.ref).raise
        (.entryStateChange e.fix.ref (entrySegs e) false)
  else if e.vol.state == .planned && e.fix.start ≤ s.now then
    (s.endOthers e.fix.ref (entrySegs e) .nextBooking).startSession e .resumed
  else s

/-- At SERVICE exit an entry that no longer fits is removed first (R53, step 1); the rest waits for
a valid clock (R52). -/
def State.reenterAtExit (e : Entry) (s : State) : State :=
  if s.segCount < e.fix.first + e.fix.span then
    ((s.notify (.missed e.fix.ref e.fix.kind (entrySegs e) e.fix.start e.fix.stop
      .suiteChanged)).dropEntry e.fix.ref).raise (.entryStateChange e.fix.ref (entrySegs e) false)
  else if s.tb.valid then State.reenterEntry e s
  else s

def State.reenter (s : State) : State := s.forEntries s.refs State.reenterEntry
def State.reenterExit (s : State) : State := s.forEntries s.refs State.reenterAtExit

end Sys2Proof.Machine
end

