-- ==== Sys2Proof/Machine/Occupancy.lean ====
section
/-! DEFINITION. OT (sections 5.4 to 5.6): segment and group occupancy, presence events and vacancy,
the walk-in records, and what OT does with the reports of SI and LM. The derived occupancy is never
stored per segment: it follows from the timer, assumed and covered (R98). -/

namespace Sys2Proof.Machine

/-- OCCUPIED (R98). -/
def occOccupied (o : Occ) : Bool := o.vacancy.isSome || (o.assumed && o.covered)

def State.segOccupied (s : State) (i : Seg) : Bool := occOccupied (s.ot.segs.get i)
def State.groupOccupied (s : State) (g : Segs) : Bool := (segList g).any s.segOccupied

/-- A walk-in record at its initial values (R103). -/
def freshWalkIn (c : Commission) : WalkIn := ⟨0, none, c.suite.walkInSetpoint⟩

def occupancyReports (g : OtGroup) : List Instr :=
  [.occupancyReport .al g.segs g.occupied g.walkIn, .occupancyReport .lbu g.segs g.occupied g.walkIn]

/-- A group's record as its occupancy and service level now have it: a walk-in record exists exactly
while the group is occupied at PREPARE or NONE (R103). -/
def State.otGroupNow (s : State) (g : OtGroup) : OtGroup :=
  let occ := s.groupOccupied g.segs
  { g with
    occupied := occ
    walkIn := if occ && g.level != .session then some (g.walkIn.getD (freshWalkIn s.comm)) else none }

/-- OT derives every group anew and reports each change of occupancy or of the presence of a walk-in
record (R102, R103). A created record is reported ahead of LM's waiting reports [1]. -/
def State.otSettle (s : State) : State :=
  let next := s.ot.groups.map s.otGroupNow
  let pairs := s.ot.groups.zip next
  let created := pairs.filter fun p => p.1.walkIn.isNone && p.2.walkIn.isSome
  let other := pairs.filter fun p =>
    !(p.1.walkIn.isNone && p.2.walkIn.isSome)
      && (p.1.occupied != p.2.occupied || p.1.walkIn.isSome != p.2.walkIn.isSome)
  (({ s with ot := { s.ot with groups := next } }).raiseEarly
      (created.flatMap fun (p : OtGroup × OtGroup) => occupancyReports p.2)).raiseAll
    (other.flatMap fun (p : OtGroup × OtGroup) => occupancyReports p.2)

def State.setOcc (s : State) (i : Seg) (o : Occ) : State :=
  { s with ot := { s.ot with segs := s.ot.segs.set i o } }

/-- The covered items of a set as LM's in-session lists have them (R98). The lists are read as they stand
when OT takes the report, also where LM has changed them since it sent the report; the service level is
the report's. The model's choice [38]. -/
def State.otCover (s : State) (g : Segs) : State :=
  let covered (i : Seg) : Bool :=
    s.lm.groups.any fun r => r.sessions.any fun it => segHas it.segs i
  let segs := s.ot.segs.mapIdx fun i o => if segHas g i then { o with covered := covered i } else o
  { s with ot := { s.ot with segs := segs } }

/-- The length in minutes chosen at a restart of a vacancy timer (R99). Where the covering entry has
just left the table the out-of-session delay is taken [19]. -/
def State.vacancyMinutes (s : State) (i : Seg) : Nat :=
  if (s.ot.segs.get i).covered then
    match s.bt.table.find? fun e => isActive e && segHas (entrySegs e) i with
    | some e => sessionDelayOf s.comm e.fix.kind
    | none => s.suite.vacancyDelay
  else s.suite.vacancyDelay

def vacancyTimer (minutes : Nat) : VacancyTimer := ⟨minutes, Config.seconds (60 * minutes)⟩

/-- BT takes a presence event of OT (R40). -/
def State.markPresence (s : State) (i : Seg) : State :=
  s.mapEveryVolatile fun e =>
    if e.vol.state == .inSession && segHas (entrySegs e) i
    then { e.vol with presence := some true } else e.vol

/-- A presence event for a configured segment (R99). -/
def State.presence (s : State) (i : Seg) : State :=
  if s.configured i then
    let o := s.ot.segs.get i
    ((s.setOcc i { o with vacancy := some (vacancyTimer (s.vacancyMinutes i)), restored := false }
      ).markPresence i).otSettle
  else s

/-- Expiry of a running vacancy timer (R100). -/
def State.vacancyExpiry (s : State) (i : Seg) : State :=
  let o := s.ot.segs.get i
  if o.vacancy.isSome then
    ((s.setOcc i { o with vacancy := none, restored := false }).raise (.vacancyReport i)).otSettle
  else s

/-- SI's new presence source for a segment (R101). -/
def State.takePresenceSource (s : State) (i : Seg) (source : Option Seg) : State :=
  let o := s.ot.segs.get i
  match source with
  | none => (s.setOcc i { o with assumed := true }).otSettle
  | some _ =>
    let o1 := { o with assumed := false }
    let o2 :=
      if o.assumed && o.covered && o.vacancy.isNone then
        { o1 with vacancy := some (vacancyTimer (s.vacancyMinutes i)), restored := true }
      else o1
    (s.setOcc i o2).otSettle

/-- BT takes a segment's vacancy (R45, first row); several entries in table order [46]. -/
def State.takeVacancy (s : State) (i : Seg) : State :=
  s.forEntries s.refs fun e s =>
    if e.vol.state == .overrun && segHas (entrySegs e) i && !s.entryObserved e
    then s.endSession e .schedule else s

/-- The end of a group's walk-in by panel END (R105). -/
def State.endWalkIn (s : State) (g : Segs) : State :=
  let running := (segList g).filter fun i => (s.ot.segs.get i).vacancy.isSome
  let segs := s.ot.segs.mapIdx fun i o =>
    if segHas g i then { o with vacancy := none, restored := false } else o
  let groups := s.ot.groups.map fun r => if r.segs == g then { r with walkIn := none } else r
  (({ s with ot := ⟨segs, groups⟩ }).raiseAll (running.map Instr.vacancyReport)).otSettle

/-- The walk-in record of a group changed in place (R126, R145, R147, R148). -/
def State.mapWalkIn (s : State) (g : Segs) (f : WalkIn → WalkIn) : State :=
  { s with ot := { s.ot with groups := s.ot.groups.map fun r =>
      if r.segs == g then { r with walkIn := r.walkIn.map f } else r } }

/-- LM's governing change at OT (R98, R103). Of a set that OT holds no record of the level is not noted, and the
one that the regroup report carries then stands: the model's choice [61]. -/
def State.otGoverning (s : State) (g : Segs) (level : Level) : State :=
  let groups := s.ot.groups.map fun r => if r.segs == g then { r with level := level } else r
  (({ s with ot := { s.ot with groups := groups } }).otCover g).otSettle

/-- The record a formed group inherits: the lowest of the groups it came from that had one (R104). -/
def inheritedWalkIn (old : List OtGroup) (g : Segs) : Option WalkIn :=
  (old.filter fun r => segsMeet r.segs g).findSome? (·.walkIn)

def segsBefore (a b : Segs) : Bool := a.first < b.first

/-- LM's regroup report at OT (R102, R104). A record formed joins behind one of the same lowest segment [56]; one
still held of a set that is formed gives way to the new one, which inherits from it: the model's choice [62]. -/
def State.otRegroup (s : State) (gone : List Segs) (formed : List GroupRec) : State :=
  let s1 := formed.foldl (fun s r => s.otCover r.segs) s
  let made := formed.map fun r =>
    s1.otGroupNow ⟨r.segs, r.level, false, inheritedWalkIn s.ot.groups r.segs⟩
  let kept := s.ot.groups.filter fun r =>
    !gone.contains r.segs && !(formed.any fun f => f.segs == r.segs)
  let groups := made.foldl (fun l r => insertBy (fun a b => segsBefore a.segs b.segs) r l) kept
  ({ s1 with ot := { s1.ot with groups := groups } }).raiseEarly (made.flatMap occupancyReports)

/-- LM's exit report at OT (R106, step 4): every record discarded, fresh ones where the group is
occupied at PREPARE or NONE, and every group reported. -/
def State.otExit (s : State) (groups : List GroupRec) : State :=
  let s1 := groups.foldl (fun s r => s.otCover r.segs) s
  let made := groups.map fun r => s1.otGroupNow ⟨r.segs, r.level, false, none⟩
  ({ s1 with ot := { s1.ot with groups := made } }).raiseEarly (made.flatMap occupancyReports)

/-! ### Meanings -/

/-- PRESENCE_EVENT (R99, R40). -/
def execPresenceEvent (i : Seg) (s : State) : Host.Outcome State Fault Refusal :=
  .next (s.event (.presenceEvent i) fun s => s.presence i)

/-- VACANCY_TIMER_EXPIRY (R100). -/
def execVacancyTimerExpiry (i : Seg) (s : State) : Host.Outcome State Fault Refusal :=
  .next (s.event (.vacancyTimerExpiry i) fun s => s.vacancyExpiry i)

/-- VACANCY_REPORT (R45). -/
def execVacancyReport (i : Seg) (s : State) : Host.Outcome State Fault Refusal :=
  .next (s.event (.vacancyReport i) fun s => s.takeVacancy i)

/-- PRESENCE_SOURCE_REPORT (R101). -/
def execPresenceSourceReport (i : Seg) (source : Option Seg) (s : State) :
    Host.Outcome State Fault Refusal :=
  .next (s.event (.presenceSourceReport i source) fun s => s.takePresenceSource i source)

end Sys2Proof.Machine
end

