-- ==== Sys2Proof/Machine/Layout.lean ====
section
/-! DEFINITION. LM (chapter 4): partition readings and their settling, forming the groups, resolving the
governing entries, shares and people figures, the reports that follow, and the layout compare. -/

namespace Sys2Proof.Machine

/-! ### Readings and acceptance (R72 to R74) -/

/-- The reading of the two contacts (R72). -/
def readingOf (closedMade openMade : Bool) : Reading :=
  match closedMade, openMade with
  | true, false => .closed
  | false, true => .opened
  | false, false => .between
  | true, true => .fault

/-- Partitions 0 to count − 2 are configured (section 4.1). -/
def State.partConfigured (s : State) (p : Part) : Bool := p.val + 1 < s.segCount

/-- A reading that arrives at a partition (R72). -/
def takeReading (p : Partition) (r : Reading) : Partition :=
  if r = p.accepted then { p with pending := none, settle := none }
  else { p with pending := some r, settle := some (Config.seconds 3) }

/-- A new accepted state: between timer and fault-reported flag (R73, steps 1 and 2). -/
def acceptReading (p : Partition) (r : Reading) : Partition :=
  { p with
    accepted := r
    pending := none
    settle := none
    between := match r with
      | .between => some (Config.seconds 120)
      | _ => none
    reported := match r with
      | .closed => false
      | .opened => false
      | _ => p.reported }

def State.setPart (s : State) (p : Part) (r : Partition) : State :=
  { s with lm := { s.lm with parts := s.lm.parts.set p r } }

/-- PARTITION_FAULT for a partition whose fault-reported flag is clear (R74). -/
def State.reportFault (s : State) (p : Part) : State :=
  let r := s.lm.parts.get p
  if r.reported then s
  else (s.setPart p { r with reported := true }).notify (.partitionFault p r.accepted)

/-- R74, first arrival: the accepted state has become FAULT. -/
def State.faultCheck (s : State) (p : Part) : State :=
  match (s.lm.parts.get p).accepted with
  | .fault => s.reportFault p
  | _ => s

/-! ### Groups (R75) -/

/-- The runs of segments from a first segment on, for the partitions that follow: open joins. -/
def groupsFrom (first span : Nat) : List Bool → List Segs
  | [] => [⟨first, span⟩]
  | true :: rest => groupsFrom first (span + 1) rest
  | false :: rest => ⟨first, span⟩ :: groupsFrom (first + span) 1 rest

/-- The groups of the configured segments, lowest segment first (R75). -/
def State.formGroups (s : State) : List Segs :=
  groupsFrom 0 1 ((allParts.filter s.partConfigured).map fun p =>
    (s.lm.parts.get p).accepted == .opened)

/-! ### Governing (R78, R79) -/

/-- The entry with the lowest first segment; the earlier in table order among equals, which is the
earlier start and then the first in table order (R78). -/
def lowestFirst (es : List Entry) : Option Entry :=
  es.foldl (fun best e => match best with
    | none => some e
    | some b => if e.fix.first < b.fix.first then some e else some b) none

def candidatesOf (table : List Entry) (g : Segs) : List Entry :=
  table.filter fun e => segsMeet (entrySegs e) g

/-- The governing entry of a group, from the entry states alone (R78). -/
def governingOf (table : List Entry) (g : Segs) : Option Entry :=
  match lowestFirst ((candidatesOf table g).filter isActive) with
  | some e => some e
  | none => lowestFirst ((candidatesOf table g).filter isPrepared)

/-- The service level that follows the governing entry (R79). -/
def levelOf : Option Entry → Level
  | none => .none
  | some e => if isActive e then .session else .prepare

/-- The active entries on a group in ascending first segment (R82). -/
def sessionsOf (table : List Entry) (g : Segs) : List SessionItem :=
  (((candidatesOf table g).filter isActive).foldl
    (fun l e => insertBy (fun (a b : Entry) => a.fix.first < b.fix.first) e l) []).map
    fun e => ⟨e.fix.ref, entrySegs e, 0⟩

/-! ### Shares and people figures (R83, R84) -/

/-- The headcount the split uses: the panel's when present (R83). -/
def splitHeadcount (e : Entry) : Nat := e.vol.panelHeadcount.getD e.fix.headcount

/-- The sum of a basis over the segments of an entry that lie in a group. -/
def basisIn (basis : Seg → Nat) (e : Segs) (g : Segs) : Nat :=
  (((segList g).filter fun (i : Seg) => segHas e i).map basis).sum

/-- The share of an entry in a group, the groups given (R83). -/
def shareOf (c : Commission) (groups : List Segs) (e : Entry) (g : Segs) : Nat :=
  let head := splitHeadcount e
  let set := entrySegs e
  let seats (i : Seg) : Nat := (c.segments.get i).seats
  let area (i : Seg) : Nat := (c.segments.get i).area
  let basis := if sumSegs set seats = 0 then area else seats
  let total := sumSegs set basis
  if total = 0 then (if segHas g e.fix.first then head else 0)
  else
    let floorIn (x : Segs) : Nat := head * basisIn basis set x / total
    if segHas g e.fix.first then floorIn g + (head - (groups.map floorIn).sum) else floorIn g

/-- The items' shares formed anew for the entries a test names, and the people figure (R84). -/
def State.reshare (s : State) (touched : Entry → Bool) (groups : List GroupRec) : List GroupRec :=
  let sets := groups.map (·.segs)
  groups.map fun g =>
    let items := g.sessions.map fun it =>
      match s.entry? it.ref with
      | some e => if touched e then { it with share := shareOf s.comm sets e g.segs } else it
      | none => it
    { g with sessions := items, people := (items.map (·.share)).sum }

/-- Resolution of the groups a test names (R78, R79, R82 to R84). An entry on such a group has its shares
formed anew over all its groups, so that they sum to H (R83, R84): at a regroup also in a group that
keeps its record (R77, step 1), whose governing entry, level and list stand. The model's choice [37]. -/
def State.resolveGroups (s : State) (hit : Segs → Bool) (groups : List GroupRec) :
    List GroupRec :=
  let resolved := groups.map fun g =>
    if hit g.segs then
      { g with
        governing := (governingOf s.bt.table g.segs).map (·.fix.ref)
        level := levelOf (governingOf s.bt.table g.segs)
        sessions := sessionsOf s.bt.table g.segs }
    else g
  s.reshare (fun e => groups.any fun g => hit g.segs && segsMeet g.segs (entrySegs e)) resolved

/-! ### Reports (R80) -/

/-- The reports of a governing change; OT's stands first [1]. -/
def governingReports (g : GroupRec) : List Instr :=
  [.governingChange .ot g.segs g.governing g.level, .governingChange .al g.segs g.governing g.level,
    .governingChange .lbu g.segs g.governing g.level]

/-- The entry governs the group of its first segment. -/
def governsHome (groups : List GroupRec) (e : Entry) : Bool :=
  groups.any fun g => segHas g.segs e.fix.first && g.governing == some e.fix.ref

/-- Came to govern and ceased to govern, for the entries now PREPARING or READY (R80). R80 orders several
such reports of one resolution nowhere; table order is the model's choice [46]. -/
def State.governsChanges (s : State) : List Instr :=
  (s.bt.table.filter isPrepared).filterMap fun e =>
    let now := governsHome s.lm.groups e
    let before := s.lm.governsFirst.contains e.fix.ref
    if now && !before then some (Instr.cameToGovern e.fix.ref)
    else if !now && before then some (Instr.ceasedToGovern e.fix.ref)
    else none

/-- The entries that govern the group of their first segment, noted afresh (R80). -/
def State.noteGoverns (s : State) : State :=
  let governs := ((s.bt.table.filter isPrepared).filter (governsHome s.lm.groups)).map (·.fix.ref)
  { s with lm := { s.lm with governsFirst := governs } }

/-- The governing reports to BT sent on their way (R80). -/
def State.reportGoverns (s : State) : State := (s.noteGoverns).raiseAll s.governsChanges

/-- CAME_TO_GOVERN at BT (R35): READY if the loop of the group of its first segment is SETTLED. -/
def State.takeCame (s : State) (ref : Nat) : State :=
  match s.entry? ref with
  | some e =>
    if e.vol.state == .preparing && ((s.loop? (s.homeGroup e.fix)).any (·.settled))
    then s.makeReady e else s
  | none => s

/-- CEASED_TO_GOVERN at BT (R36). -/
def State.takeCeased (s : State) (ref : Nat) : State :=
  match s.entry? ref with
  | some e => if e.vol.state == .ready then s.loseReady e .notGoverning else s
  | none => s

/-- BT's answer to one governing report. -/
def State.answerGoverns (s : State) : Instr → State
  | .cameToGovern ref => s.takeCame ref
  | .ceasedToGovern ref => s.takeCeased ref
  | _ => s

/-- The governing reports of a regroup, which BT answers before the layout compare runs (section 4.7,
minute 650) [34]. -/
def State.settleGoverns (s : State) : State :=
  s.governsChanges.foldl State.answerGoverns s.noteGoverns

def State.setGroups (s : State) (groups : List GroupRec) : State :=
  { s with lm := { s.lm with groups := groups } }

/-! ### Layout compare (R85, R86) -/

/-- The compare of one active entry with the group of its first segment (R85). Where no group holds that
segment, the entry lying outside the suite after a restart, there is no found layout to compare: nothing is
done and nothing queued, the model's choice [53]. -/
def State.compareLayout (e : Entry) (s : State) : State :=
  if isActive e then
    match s.groupOf? e.fix.first with
    | none => s
    | some g =>
      if g.segs = entrySegs e then s.mapVolatile e.fix.ref fun v => { v with lastLayout := none }
      else if e.vol.lastLayout = some g.segs then s
      else
        (s.mapVolatile e.fix.ref fun v => { v with lastLayout := some g.segs }).notify
          (.layoutMismatch e.fix.ref (entrySegs e) g.segs)
  else s

/-! ### Arrivals at LM -/

/-- An entry state change (R80): the groups of its segments are resolved, each governing change is reported,
several in ascending group order, which is the model's choice [47], a change of the in-session list alone reaches
OT at once (R98), and an entry that began a session is compared (R85). -/
def State.lmEntryChange (s : State) (ref : Nat) (g : Segs) (began : Bool) : State :=
  let old := s.lm.groups
  let new := s.resolveGroups (fun x => segsMeet x g) old
  let pairs := old.zip new
  let changed := pairs.filter fun p =>
    p.1.governing != p.2.governing || p.1.level != p.2.level
  let listOnly := pairs.filter fun p =>
    p.1.governing == p.2.governing && p.1.level == p.2.level
      && p.1.sessions.map (·.ref) != p.2.sessions.map (·.ref)
  let s1 := (s.setGroups new).raiseAll
    (changed.flatMap fun (p : GroupRec × GroupRec) => governingReports p.2)
  let s2 := listOnly.foldl (fun s (p : GroupRec × GroupRec) => s.otCover p.2.segs) s1
  let s3 := (if listOnly.isEmpty then s2 else s2.otSettle).reportGoverns
  if began then
    match s3.entry? ref with
    | some e => s3.compareLayout e
    | none => s3
  else s3

/-- A change of the headcount of an active entry (R84). -/
def State.lmHeadcount (s : State) (ref : Nat) : State :=
  s.setGroups (s.reshare (fun e => e.fix.ref == ref) s.lm.groups)

def regroupReports (gone : List Segs) (formed : List GroupRec) : List Instr :=
  [Block.si, Block.ot, Block.al, Block.lbu, Block.ad].map fun b => .regroupReport b gone formed

def exitReports (groups : List GroupRec) : List Instr :=
  [Block.si, Block.ot, Block.al, Block.lbu, Block.ad].map fun b => .exitReport b groups

/-- The regroup (R77): new records for the new sets, their resolution, the reports, and the compare of
every active entry in table order. -/
def State.regroup (s : State) : State :=
  let old := s.lm.groups
  let sets := s.formGroups
  let isNew (g : Segs) : Bool := !(old.any fun r => r.segs == g)
  let fresh := sets.map fun g => (old.find? fun r => r.segs == g).getD (GroupRec.initial g)
  let new := s.resolveGroups isNew fresh
  let gone := (old.map (·.segs)).filter fun g => !sets.contains g
  let formed := new.filter fun r => isNew r.segs
  let s1 := ((s.setGroups new).raiseAll (regroupReports gone formed)).settleGoverns
  s1.forEntries s1.refs State.compareLayout

/-- A reading becomes the accepted state (R73). -/
def State.accept (s : State) (p : Part) (r : Reading) : State :=
  let before := s.lm.parts.get p
  let s1 := (s.setPart p (acceptReading before r)).faultCheck p
  if (before.accepted == .opened) != (r == .opened) then s1.regroup else s1

/-- A position as restart or SERVICE exit finds it (R71, R88): a configured one has its reading
accepted at once, another holds no state. -/
def State.readPart (s : State) (p : Part) : Partition :=
  let r := s.lm.parts.get p
  if s.partConfigured p then
    acceptReading (Partition.initial r.closedMade r.openMade) (readingOf r.closedMade r.openMade)
  else Partition.initial r.closedMade r.openMade

/-- All positions read afresh, then the faults found reported (R71, R74, R88). That several are reported in
ascending partition number is the model's choice [47]. -/
def State.readParts (s : State) : State :=
  let parts : Three Partition := ⟨s.readPart 0, s.readPart 1, s.readPart 2⟩
  ((({ s with lm := { s.lm with parts := parts } }).faultCheck 0).faultCheck 1).faultCheck 2

/-- Groups as restart forms them (R76, R87). -/
def State.lmRestart (s : State) : State :=
  let s1 := s.readParts
  { s1 with lm := { s1.lm with groups := s1.formGroups.map GroupRec.initial, governsFirst := [] } }

/-- LM at SERVICE exit (R88). -/
def State.lmExit (s : State) : State :=
  let s1 := s.readParts
  let groups := s1.resolveGroups (fun _ => true) (s1.formGroups.map GroupRec.initial)
  (({ s1 with lm := { s1.lm with groups := groups, governsFirst := [] } }).reportGoverns).raiseAll
    (exitReports groups)

/-! ### Meanings -/

/-- The levels of the two contacts of a position, noted whether or not the part is running. -/
def State.setContacts (s : State) (p : Part) (closedMade openMade : Bool) : State :=
  s.setPart p { s.lm.parts.get p with closedMade := closedMade, openMade := openMade }

/-- PARTITION_CONTACT_CHANGE (R72). The inputs of a position that is not configured are not read. -/
def execPartitionContactChange (p : Part) (closedMade openMade : Bool) (s : State) :
    Host.Outcome State Fault Refusal :=
  .next ((s.setContacts p closedMade openMade).event
    (.partitionContactChange p closedMade openMade) fun s =>
      if s.partConfigured p
      then s.setPart p (takeReading (s.lm.parts.get p) (readingOf closedMade openMade)) else s)

/-- SETTLE_TIMER_EXPIRY (R72, R73): only a running settle timer expires. -/
def execSettleTimerExpiry (p : Part) (s : State) : Host.Outcome State Fault Refusal :=
  .next (s.event (.settleTimerExpiry p) fun s =>
    match (s.lm.parts.get p).pending with
    | some r => s.accept p r
    | none => s)

/-- BETWEEN_TIMER_EXPIRY (R74): only a running between timer expires. -/
def execBetweenTimerExpiry (p : Part) (s : State) : Host.Outcome State Fault Refusal :=
  .next (s.event (.betweenTimerExpiry p) fun s =>
    let r := s.lm.parts.get p
    if r.between.isSome then (s.setPart p { r with between := none }).reportFault p else s)

/-- ENTRY_STATE_CHANGE (R80, R85). -/
def execEntryStateChange (ref : Nat) (g : Segs) (began : Bool) (s : State) :
    Host.Outcome State Fault Refusal :=
  .next (s.event (.entryStateChange ref g began) fun s => s.lmEntryChange ref g began)

/-- HEADCOUNT_CHANGE (R84). -/
def execHeadcountChange (ref : Nat) (g : Segs) (s : State) : Host.Outcome State Fault Refusal :=
  .next (s.event (.headcountChange ref g) fun s => s.lmHeadcount ref)

/-- CAME_TO_GOVERN (R35). -/
def execCameToGovern (ref : Nat) (s : State) : Host.Outcome State Fault Refusal :=
  .next (s.event (.cameToGovern ref) fun s => s.takeCame ref)

/-- CEASED_TO_GOVERN (R36). -/
def execCeasedToGovern (ref : Nat) (s : State) : Host.Outcome State Fault Refusal :=
  .next (s.event (.ceasedToGovern ref) fun s => s.takeCeased ref)

/-- SETTLED_REPORT (R35, R37). -/
def execSettledReport (g : Segs) (s : State) : Host.Outcome State Fault Refusal :=
  .next (s.event (.settledReport g) fun s => s.takeSettled g)

/-- LOST_SETTLED_REPORT (R36). -/
def execLostSettledReport (g : Segs) (s : State) : Host.Outcome State Fault Refusal :=
  .next (s.event (.lostSettledReport g) fun s => s.takeLostSettled g)

end Sys2Proof.Machine
end

