-- ==== Sys2Proof/Machine/Sensors.lean ====
section
/-! DEFINITION. SI (sections 5.1 to 5.3): polling the sensor line, judging each sample, the health of
each sensor with its notices, the substitution map, and handing the values on. -/

namespace Sys2Proof.Machine

def sensorKinds : List SensorKind := [.presence, .temperature, .co2, .daylight]

def getSensor (v : SegSensors) : SensorKind → Sensor
  | .presence => v.presence
  | .temperature => v.temperature
  | .co2 => v.co2
  | .daylight => v.daylight

def putSensor (v : SegSensors) (k : SensorKind) (r : Sensor) : SegSensors :=
  match k with
  | .presence => { v with presence := r }
  | .temperature => { v with temperature := r }
  | .co2 => { v with co2 := r }
  | .daylight => { v with daylight := r }

def State.sensor (s : State) (i : Seg) (k : SensorKind) : Sensor := getSensor (s.si.sensors.get i) k

def State.setSensor (s : State) (i : Seg) (k : SensorKind) (r : Sensor) : State :=
  { s with si := { s.si with sensors := s.si.sensors.set i (putSensor (s.si.sensors.get i) k r) } }

def State.sensorOk (s : State) (i : Seg) (k : SensorKind) : Bool := (s.sensor i k).health == .ok

/-! ### Judging a sample (R90) -/

/-- A valid sample carries the value kept as the last value; a presence value is not kept. -/
inductive Judgement where
  | valid (value : Option Int)
  | faulty (cause : SensorCause)
  deriving DecidableEq, Repr

/-- One sample judged (R90). A temperature or CO2 sample that carries its mark and lies outside its range too
is faulty by its mark, cause MARK: the model's choice [58]. -/
def judgeSample (a : Answer) : SensorKind → Judgement
  | .presence => if a.presenceMark then .faulty .mark else .valid none
  | .temperature =>
    if a.temperatureMark then .faulty .mark
    else if a.temperature < -100 ∨ 600 < a.temperature then .faulty .range
    else .valid (some a.temperature)
  | .co2 =>
    if a.co2Mark then .faulty .mark
    else if a.co2 < 250 ∨ 5000 < a.co2 then .faulty .range
    else .valid (some a.co2)
  | .daylight => if a.daylightMark then .faulty .mark else .valid (some a.daylight)

/-! ### The substitution map (R96) -/

/-- The group holding a segment: one of those a report of LM names, else LM's as it stands (R75, R96)
[43]. -/
def State.groupNamed (s : State) (named : List Segs) (i : Seg) : Option Segs :=
  match named.find? fun g => segHas g i with
  | some g => some g
  | none => (s.groupOf? i).map (·.segs)

/-- The source of segment i for a kind: itself, else the lowest of its group whose sensor is OK. -/
def State.sourceOf (s : State) (named : List Segs) (k : SensorKind) (i : Seg) : Option Seg :=
  if !s.configured i then none
  else if s.sensorOk i k then some i
  else
    match s.groupNamed named i with
    | some g => (segList g).find? fun j => s.sensorOk j k
    | none => none

/-- The presence map formed anew, the groups a report names given, each change reported to OT. -/
def State.remapPresence (s : State) (named : List Segs) : State :=
  let new := s.si.presenceSource.mapIdx fun i _ => s.sourceOf named .presence i
  let changed := s.configuredSegs.filter fun i => new.get i != s.si.presenceSource.get i
  ({ s with si := { s.si with presenceSource := new } }).raiseAll
    (changed.map fun i => .presenceSourceReport i (new.get i))

/-- The daylight map formed anew, the groups a report names given, each change reported to LBU. -/
def State.remapDaylight (s : State) (named : List Segs) : State :=
  let new := s.si.daylightSource.mapIdx fun i _ => s.sourceOf named .daylight i
  let changed := s.configuredSegs.filter fun i => new.get i != s.si.daylightSource.get i
  ({ s with si := { s.si with daylightSource := new } }).raiseAll
    (changed.map fun i => .daylightSourceReport i (new.get i))

/-- The map of both kinds formed anew (R96), the groups a report names given. -/
def State.remapNamed (s : State) (named : List Segs) : State :=
  (s.remapPresence named).remapDaylight named

/-- The whole map follows a change of health of a presence or daylight sensor (R96). -/
def State.remap (s : State) (k : SensorKind) : State :=
  match k with
  | .presence | .daylight => s.remapNamed []
  | _ => s

/-- The map formed anew on a report of LM, with the groups it names (R96, R106). -/
def State.remapOn (s : State) (groups : List GroupRec) : State := s.remapNamed (groups.map (·.segs))

/-! ### Health (R92 to R94) -/

def staleRunning : Option Nat := some (Config.seconds 120)

/-- A valid sample (R92, R94). -/
def State.takeValid (s : State) (i : Seg) (k : SensorKind) (value : Option Int) : State :=
  let r := s.sensor i k
  let r1 := { r with last := value, stale := staleRunning }
  match r.health with
  | .ok => s.setSensor i k r1
  | _ =>
    if 3 ≤ r.run + 1 then
      let s1 := s.setSensor i k { r1 with health := .ok, run := 0, reported := false }
      (if r.reported then s1.notify (.sensorRecovered i k) else s1).remap k
    else s.setSensor i k { r1 with run := r.run + 1 }

/-- A faulty sample (R92, R94). -/
def State.takeFaulty (s : State) (i : Seg) (k : SensorKind) (cause : SensorCause) : State :=
  let r := s.sensor i k
  match r.health with
  | .fault => s.setSensor i k { r with run := 0 }
  | _ =>
    let s1 := s.setSensor i k { r with health := .fault, run := 0, reported := true }
    let s2 := if r.health == .ok || !r.reported
      then s1.notify (.sensorFault i k .fault cause) else s1
    s2.remap k

/-- A missing answer (R92). -/
def State.takeMissing (s : State) (i : Seg) (k : SensorKind) : State :=
  let r := s.sensor i k
  match r.health with
  | .ok => s
  | _ => s.setSensor i k { r with run := 0 }

/-- The stale timer of a sensor expires (R93). -/
def State.staleExpiry (s : State) (i : Seg) (k : SensorKind) : State :=
  let r := s.sensor i k
  if r.stale.isNone then s
  else
    match r.health with
    | .ok =>
      ((s.setSensor i k { r with health := .stale, run := 0, stale := none, reported := true }
        ).notify (.sensorFault i k .stale .timeout)).remap k
    | .stale =>
      let s1 := s.setSensor i k { r with stale := none, reported := true }
      if r.reported then s1 else s1.notify (.sensorFault i k .stale .timeout)
    | .fault => s.setSensor i k { r with stale := none }

def State.takeSample (s : State) (i : Seg) (a : Answer) (k : SensorKind) : State :=
  match judgeSample a k with
  | .valid v => s.takeValid i k v
  | .faulty c => s.takeFaulty i k c

/-! ### Handing on (R95) -/

/-- A valid presence yes of an OK sensor, for every configured segment whose source it is. -/
def State.forwardPresence (s : State) (i : Seg) (a : Answer) : State :=
  if a.presence && !a.presenceMark && s.sensorOk i .presence then
    s.raiseAll ((s.configuredSegs.filter fun j => s.si.presenceSource.get j == some i).map
      Instr.presenceEvent)
  else s

def State.forwardDaylight (s : State) (i : Seg) (a : Answer) : State :=
  if !a.daylightMark && s.sensorOk i .daylight then
    s.raiseAll ((s.configuredSegs.filter fun j => s.si.daylightSource.get j == some i).map
      fun j => .daylightValue j a.daylight)
  else s

/-! ### Polling (R89) -/

def State.setPoll (s : State) (i : Seg) (p : Poll) : State :=
  { s with si := { s.si with polls := s.si.polls.set i p } }

/-- A poll falls due: sent when the line is free, else it waits its turn (R89). -/
def State.poll (s : State) (i : Seg) : State :=
  if s.configured i then
    let p := s.si.polls.get i
    let timer := if p.waiting then p.timer else some (Config.seconds 10)
    if s.si.outstanding.isNone then
      let s1 := s.setPoll i ⟨timer, false⟩
      { s1 with si := { s1.si with outstanding := some (i, Config.ticksPerSecond / 4) } }
    else s.setPoll i ⟨timer, true⟩
  else s

/-- The answer of a segment is awaited. -/
def State.awaits (s : State) (i : Seg) : Bool :=
  match s.si.outstanding with
  | some (j, _) => j == i
  | none => false

def State.lineFree (s : State) : State := { s with si := { s.si with outstanding := none } }

/-- A received answer (R90, R92, R95); its four samples in the order of kinds that R94 gives for
expiries: the model's choice [47]. -/
def State.takeAnswer (s : State) (i : Seg) (a : Answer) : State :=
  let s1 := sensorKinds.foldl (fun s k => s.takeSample i a k) s.lineFree
  (s1.forwardPresence i a).forwardDaylight i a

/-! ### Restart and SERVICE exit (R106, R107) -/

/-- The sensor records of a segment after restart, or of one that is not configured [15]. -/
def freshSensors (configured : Bool) : SegSensors :=
  if configured then SegSensors.initial else SegSensors.absent
def freshPoll (configured : Bool) : Poll := if configured then Poll.initial else Poll.absent

def State.siRestart (s : State) : State :=
  { s with si :=
    { sensors := (Four.all ()).mapIdx fun i _ => freshSensors (s.configured i)
      polls := (Four.all ()).mapIdx fun i _ => freshPoll (s.configured i)
      outstanding := none
      presenceSource := Four.all none
      daylightSource := Four.all none } }

/-- R106, steps 1 to 3: segments lost, gained and kept, the former segment count given. That the poll
outstanding for a segment lost ends with it, so that the line is free at once, is the model's choice [48]. -/
def State.siExit (s : State) (oldCount : Nat) : State :=
  let kept (i : Seg) : Bool := i.val < oldCount && s.configured i
  { s with si :=
    { s.si with
      sensors := s.si.sensors.mapIdx fun i v => if kept i then v else freshSensors (s.configured i)
      polls := s.si.polls.mapIdx fun i v => if kept i then v else freshPoll (s.configured i)
      outstanding := match s.si.outstanding with
        | some (i, n) => if s.configured i then some (i, n) else none
        | none => none
      presenceSource := s.si.presenceSource.mapIdx fun i v => if kept i then v else none
      daylightSource := s.si.daylightSource.mapIdx fun i v => if kept i then v else none } }

/-! ### Meanings -/

/-- SENSOR_POLL (R89). -/
def execSensorPoll (i : Seg) (s : State) : Host.Outcome State Fault Refusal :=
  .next (s.event (.sensorPoll i) fun s => s.poll i)

/-- SENSOR_ANSWER (R92): an answer is received only while its segment's poll is awaited [27]. -/
def execSensorAnswer (i : Seg) (a : Answer) (s : State) : Host.Outcome State Fault Refusal :=
  .next (s.event (.sensorAnswer i a) fun s => if s.awaits i then s.takeAnswer i a else s)

/-- ANSWER_WINDOW_EXPIRY (R89, R92). -/
def execAnswerWindowExpiry (i : Seg) (s : State) : Host.Outcome State Fault Refusal :=
  .next (s.event (.answerWindowExpiry i) fun s =>
    if s.awaits i then sensorKinds.foldl (fun s k => s.takeMissing i k) s.lineFree else s)

/-- STALE_TIMER_EXPIRY (R93). -/
def execStaleTimerExpiry (i : Seg) (k : SensorKind) (s : State) : Host.Outcome State Fault Refusal :=
  .next (s.event (.staleTimerExpiry i k) fun s => s.staleExpiry i k)

end Sys2Proof.Machine
end

