-- ==== Sys2Proof/Machine/Air.lean ====
section
/-! DEFINITION. AL (chapter 6): the active setpoint, the modes, the evaluation, the settling windows, the
setpoint a panel ADJUST moves, and what AL does with the reports of LM and OT. -/

namespace Sys2Proof.Machine

/-! ### Standing and active setpoint (R109) -/

/-- What OT last reported for a segment set, from a list of such reports. -/
def standingOf (l : List OccStanding) (g : Segs) : Option OccStanding := l.find? fun o => o.segs == g

/-- A report of OT noted for the set it names. -/
def noteStanding (l : List OccStanding) (o : OccStanding) : List OccStanding :=
  o :: l.filter fun x => x.segs != o.segs

/-- The standing of a set formed by a regroup: what OT last reported for that very set, also a report that
came when the set had gone and that is still noted [50], else that of the groups it came from [13]. -/
def inheritedStanding (l : List OccStanding) (gone : List Segs) (g : Segs) : OccStanding :=
  match standingOf l g with
  | some o => o
  | none =>
    let sources := l.filter fun o => gone.contains o.segs && segsMeet o.segs g
    ⟨g, sources.any (·.occupied), sources.any (·.walkIn), true⟩

/-- The standings kept after a regroup: those of the groups that still stand and of the formed. -/
def standingsAfter (l : List OccStanding) (gone formed : List Segs) : List OccStanding :=
  formed.map (inheritedStanding l gone)
    ++ l.filter fun o => !gone.contains o.segs && !formed.contains o.segs

def State.alOccupied (s : State) (g : Segs) : Bool := (standingOf s.al.occ g).any (·.occupied)
def State.alWalkIn (s : State) (g : Segs) : Bool := (standingOf s.al.occ g).any (·.walkIn)

/-- The group has an active setpoint by its standing. -/
def State.serves (s : State) (l : Loop) : Bool :=
  match l.level with
  | .none => s.alWalkIn l.segs
  | _ => true

def State.liveSetpointOf (s : State) (ref : Nat) : Option Nat :=
  (s.entry? ref).bind (·.vol.liveSetpoint)

/-- The active setpoint read now from BT's entry or OT's record. While the report that the entry or the
record has gone is still on its way there is no figure to read [12]; nor is there for a group at NONE that AL
has formed with an inherited walk-in standing while OT holds no record of its set: the model's choice [49]. -/
def State.activeSetpoint (s : State) (l : Loop) : Option Nat :=
  match l.level with
  | .none => if s.alWalkIn l.segs then (s.walkIn? l.segs).map (·.setpoint) else none
  | _ => l.governing.bind s.liveSetpointOf

/-! ### The evaluation (R115 to R120) -/

/-- The signed error, with a temperature and an active setpoint (R115). -/
def errorOf (temp : Option Int) (setpoint : Option Nat) : Option Int :=
  match temp, setpoint with
  | some t, some p => some (t - (p : Int))
  | _, _ => none

def coolingError (h : Nat) (e : Option Int) : Nat :=
  match e with
  | some x => (x - (h : Int)).toNat
  | none => 0

def heatingError (h : Nat) (e : Option Int) : Nat :=
  match e with
  | some x => (-x - (h : Int)).toNat
  | none => 0

def State.minOf (s : State) (g : Segs) : Nat := sumSegs g fun i => (s.segRec i).airMin
def State.maxOf (s : State) (g : Segs) : Nat := sumSegs g fun i => (s.segRec i).airMax

/-- The factor of the gains: M in ACQUIRE (R116). -/
def State.gainFactor (s : State) : LoopMode → Nat
  | .acquire => s.suite.multiplier
  | _ => 1

/-- The people figure LM records for the group now, or the last one known [28]. -/
def State.peopleOf (s : State) (l : Loop) : Nat :=
  match s.lm.groups.find? fun g => g.segs == l.segs with
  | some g => g.people
  | none => l.people

/-- The people count N (R117). -/
def State.peopleCount (s : State) (l : Loop) : Nat :=
  if s.alOccupied l.segs then
    match l.level with
    | .session => s.peopleOf l
    | _ => s.suite.walkInHeadcount
  else 0

/-- Q_vent (R117). -/
def State.ventOf (s : State) (l : Loop) : Nat :=
  ceilDiv (areaOf s.comm l.segs * s.suite.areaRate) 10 + s.peopleCount l * s.suite.perPerson

/-- The OK CO2 readings of a set (R97). -/
def State.okCo2 (s : State) (g : Segs) : List Nat :=
  (segList g).filterMap fun i =>
    match (s.si.sensors.get i).co2.health with
    | .ok => (s.si.sensors.get i).co2.last.map Int.toNat
    | _ => none

/-- The CO2 trim (R118). -/
def co2Trim (limit vent : Nat) : List Nat → Nat
  | [] => ceilDiv vent 5
  | c :: rest =>
    let worst := rest.foldl max c
    if limit - 200 < worst then min vent (vent * (worst - (limit - 200)) / 200) else 0

/-- The reheat of a PARKED group (R120). -/
def setbackReheat (low before : Nat) : Option Int → Nat
  | none => 0
  | some t => if t < low then 1000 else if t < low + 10 then before else 0

/-- One evaluation of a group, without the window step (R115 to R120; in SERVICE R128). -/
def State.evaluate (s : State) (l : Loop) : Loop :=
  let temp := meanTemp? (s.okTemps l.segs)
  let base := { l with temp := temp, noTemp := temp.isNone, people := s.peopleOf l }
  let qmin := s.minOf l.segs
  if s.inRun then
    match l.mode with
    | .parked =>
      { base with qd := qmin, qmin := qmin, qvent := 0
                  reheat := setbackReheat s.suite.setbackLow l.reheat temp }
    | mode =>
      let e := errorOf temp (s.activeSetpoint l)
      let h := s.suite.deadband / 2
      let gain := sumSegs l.segs (fun i => (s.segRec i).coolingGain) * s.gainFactor mode
      let qtemp := qmin + coolingError h e * gain
      let qvent := s.ventOf l
      let qco2 := co2Trim s.suite.co2Limit qvent (s.okCo2 l.segs)
      { base with
        qd := clampNat qmin (s.maxOf l.segs) (max (qvent + qco2) qtemp)
        qmin := qmin
        qvent := qvent
        reheat := min 1000 (heatingError h e * (s.suite.heatingGain * s.gainFactor mode)) }
  else { base with qd := qmin, qmin := qmin, qvent := 0, reheat := 0 }

/-! ### Settling windows (R122 to R124) -/

/-- The three counts at 0. -/
def zeroCounts (l : Loop) : Loop := { l with windowMinutes := 0, windowWorst := 0, good := 0 }

/-- Entry to ACQUIRE toward a setpoint (R110, R111, R124). -/
def acquire (l : Loop) (setpoint : Nat) : Loop :=
  { zeroCounts l with mode := .acquire, reference := some setpoint, settled := false }

/-- Entry to PARKED (R110). -/
def park (l : Loop) : Loop :=
  { zeroCounts l with mode := .parked, reference := none, settled := false, reheat := 0 }

/-- The end of an ACQUIRE window (R123). -/
def endAcquireWindow (l : Loop) (figure : Nat) : Loop :=
  let good := if figure ≤ 8 then l.good + 1 else 0
  if 2 ≤ good then { zeroCounts l with mode := .track }
  else { l with good := good, windowMinutes := 0, windowWorst := 0 }

/-- The end of a TRACK window (R124). -/
def endTrackWindow (l : Loop) (figure setpoint : Nat) : Loop :=
  if 15 < figure then acquire l setpoint
  else
    { l with
      windowMinutes := 0
      windowWorst := 0
      settled := if !l.settled && figure ≤ 3 then true
        else if l.settled && 6 < figure then false else l.settled }

/-- The window step of a group just evaluated (R122). Without an active setpoint there is no error, and
no step is taken [12]. -/
def State.windowStep (s : State) (l : Loop) : Loop :=
  match l.mode with
  | .parked => l
  | mode =>
    if l.noTemp then { zeroCounts l with settled := false }
    else
      match errorOf l.temp (s.activeSetpoint l), s.activeSetpoint l with
      | some e, some p =>
        let worst := max l.windowWorst e.natAbs
        let count := l.windowMinutes + 1
        let grown := { l with windowWorst := worst, windowMinutes := count }
        match mode with
        | .acquire => if 2 ≤ count then endAcquireWindow grown worst else grown
        | _ => if 8 ≤ count then endTrackWindow grown worst p else grown
      | _, _ => l

/-! ### Handing on (R121, R125) -/

def demandFigs (loops : List Loop) : List DemandFig :=
  loops.map fun l => ⟨l.segs, l.qd, l.qmin, l.qvent⟩

def State.setLoops (s : State) (loops : List Loop) : State := { s with al := { s.al with loops := loops } }

/-- The reports of the changes of SETTLED between two forms of the records, in ascending group
order (R125). -/
def settledReports (before after : List Loop) : List Instr :=
  (before.zip after).filterMap fun p =>
    if !p.1.settled && p.2.settled then some (Instr.settledReport p.2.segs)
    else if p.1.settled && !p.2.settled then some (Instr.lostSettledReport p.2.segs)
    else none

/-- The demand update with every group's figures (R121). -/
def State.handOn (s : State) : State := s.raise (.demandUpdate (demandFigs s.al.loops))

/-- An evaluation round with window steps (R114). -/
def State.evalAll (s : State) : State :=
  let loops := s.al.loops.map fun l => s.windowStep (s.evaluate l)
  ((s.setLoops loops).handOn).raiseAll (settledReports s.al.loops loops)

/-! ### Modes between minutes (R110, R111) -/

/-- A loop brought to the mode its standing asks for, and whether it was evaluated for it. In SERVICE
nothing moves a loop (R128). Between SERVICE exit and LM's exit report an OT report is held for the rebuild
(R129, step 3); that no other arrival moves one of the old records either is the model's choice [52]. -/
def State.reconcile (s : State) (l : Loop) : Loop × Bool :=
  if !s.inRun || s.al.awaitsExit then (l, false)
  else if s.serves l then
    match s.activeSetpoint l, l.mode with
    | some p, .parked => (s.evaluate (acquire l p), true)
    | some p, _ =>
      if 10 < ((p : Int) - ((l.reference.getD p : Nat) : Int)).natAbs
      then (s.evaluate (acquire l p), true) else (l, false)
    | none, _ => (l, false)
  else
    match l.mode with
    | .parked => (l, false)
    | _ => (s.evaluate (park l), true)

/-- The loops a test names are reconciled; an evaluated group hands on a demand update, then the
changes of SETTLED are reported. -/
def State.alReconcile (s : State) (hit : Loop → Bool) : State :=
  let results := s.al.loops.map fun l => if hit l then s.reconcile l else (l, false)
  let loops := results.map fun (r : Loop × Bool) => r.1
  let s1 := s.setLoops loops
  let s2 := if results.any fun (r : Loop × Bool) => r.2 then s1.handOn else s1
  s2.raiseAll (settledReports s.al.loops loops)

/-- A live setpoint of an entry has changed: every group it governs judges it (R111, R127). -/
def State.alSetpointMoved (s : State) (ref : Nat) : State :=
  s.alReconcile fun l => l.governing == some ref

/-! ### Arrivals from LM and OT -/

/-- LM's governing change at AL. One for a set of which AL holds no record, its regroup report not taken yet or
the set gone, moves nothing, and the standing that the regroup report carries then stands: the model's choice
[61]. -/
def State.alGoverning (s : State) (g : Segs) (governing : Option Nat) (level : Level) : State :=
  let loops := s.al.loops.map fun l =>
    if l.segs == g then { l with governing := governing, level := level } else l
  (s.setLoops loops).alReconcile fun l => l.segs == g

/-- OT's report at AL: noted for its set, then judged (R110, R113); before LM's exit report it is held for the
rebuild (R129). -/
def State.alTakeOcc (s : State) (o : OccStanding) : State :=
  ({ s with al := { s.al with occ := noteStanding s.al.occ o } }).alReconcile fun l => l.segs == o.segs

/-- A new record for a group, its standing from LM's report (R112). -/
def State.newLoop (s : State) (r : GroupRec) : Loop :=
  { Loop.initial r.segs (s.minOf r.segs) with
    governing := r.governing, level := r.level, people := r.people }

/-- A new record in its mode and evaluated (R112, R129). -/
def State.formLoop (s : State) (r : GroupRec) : Loop :=
  let l := s.newLoop r
  if (s.reconcile l).2 then (s.reconcile l).1 else s.evaluate l

/-- LM's regroup report at AL (R112): the losses of the discarded records, the new records, one
update. A record formed joins behind one of the same lowest segment [56]. A record still held of a set that the
report names as formed, LM's reports taken out of order, is discarded for the new one, its loss reported where it
was SETTLED (R125): the model's choice [62]. -/
def State.alRegroup (s : State) (gone : List Segs) (formed : List GroupRec) : State :=
  let sets := formed.map (·.segs)
  let lost := (s.al.loops.filter fun l => (gone.contains l.segs || sets.contains l.segs) && l.settled).map
    fun l => Instr.lostSettledReport l.segs
  let kept := s.al.loops.filter fun l => !gone.contains l.segs && !sets.contains l.segs
  let s1 := (({ s with al := { s.al with occ := standingsAfter s.al.occ gone sets } }).raiseAll lost)
  let made := formed.map s1.formLoop
  let loops := made.foldl (fun l r => insertBy (fun (a b : Loop) => segsBefore a.segs b.segs) r l) kept
  (s1.setLoops loops).handOn

/-! ### SERVICE and restart (R128 to R130) -/

/-- SERVICE entry (R128): every loop parked and evaluated; the losses of SETTLED are answered by BT
within the same command. -/
def State.alService (s : State) : State :=
  let lost := s.al.loops.filter (·.settled)
  let s1 := (s.setLoops (s.al.loops.map fun l => s.evaluate (park l))).handOn
  lost.foldl (fun s l => s.takeLostSettled l.segs) s1

/-- The interval a live setpoint may move in (R127). -/
def adjustLow (stored range : Nat) : Nat := max 160 (stored - range)
def adjustHigh (stored range : Nat) : Nat := min 280 (stored + range)

/-- The live setpoints held at SERVICE exit, clamped to the figures now in effect (R129, step 2). -/
def State.clampLive (s : State) : State :=
  s.mapEveryVolatile fun e =>
    let stored := storedSetpoint s.comm e.fix
    let low := adjustLow stored s.suite.adjustRange
    let high := adjustHigh stored s.suite.adjustRange
    { e.vol with liveSetpoint := e.vol.liveSetpoint.map (clampNat low high) }

/-- SERVICE exit at AL: LM's exit report is awaited (R129), and no exit evaluation has been handed on yet [40].
The old records stay PARKED until then, evaluated as PARKED records in RUN: the model's choice [52]. -/
def State.alLeave (s : State) : State :=
  { s with al := { s.al with exitFigs := none, awaitsExit := true } }

/-- LM's exit report at AL (R129). Where OT has not reported an exit group yet, its standing is the one AL
held for the same set before, else vacant without a walk-in record: the model's choice [39]. -/
def State.alExit (s : State) (groups : List GroupRec) : State :=
  let s1 := s.clampLive
  let sets := groups.map (·.segs)
  let occ := sets.map fun g => (standingOf s1.al.occ g).getD ⟨g, false, false, true⟩
  let s2 := { s1 with al := { s1.al with occ := occ, awaitsExit := false } }
  let loops := groups.map s2.formLoop
  ({ s2 with al := { s2.al with loops := loops, exitFigs := some (demandFigs loops) } }).handOn

/-- AL at every restart (R130, R114): the records as R108 gives them, evaluated and handed on. -/
def State.alRestart (s : State) : State :=
  let sets := s.lm.groups.map (·.segs)
  let occ := sets.map fun g => (⟨g, false, false, false⟩ : OccStanding)
  let timer := if s.tb.valid then none else some (Config.seconds 60)
  let s1 := { s with al := ⟨[], occ, timer, none, false⟩ }
  (s1.setLoops (sets.map fun g => s1.evaluate (Loop.initial g (s1.minOf g)))).handOn

/-! ### ADJUST (R126, R127) -/

def adjusted (current stored range : Nat) (d : Int) : Nat :=
  clampInt (adjustLow stored range) (adjustHigh stored range)
    ((current : Int) + max (-30) (min 30 d))

/-- The setpoint ADJUST acts on, moved: the new figure, or none where the group has no such setpoint.
The service level is LM's for the group, the record OT's [10]. -/
def State.adjust (s : State) (g : GroupRec) (d : Int) : State × Option Nat :=
  match g.level with
  | .session =>
    match g.governing.bind s.entry? with
    | some e =>
      match e.vol.liveSetpoint with
      | some live =>
        let p := adjusted live (storedSetpoint s.comm e.fix) s.suite.adjustRange d
        let moved := s.mapVolatile e.fix.ref fun v => { v with liveSetpoint := some p }
        (moved.alSetpointMoved e.fix.ref, some p)
      | none => (s, none)
    | none => (s, none)
  | _ =>
    match s.walkIn? g.segs with
    | some w =>
      let p := adjusted w.setpoint s.suite.walkInSetpoint s.suite.adjustRange d
      let moved := s.mapWalkIn g.segs fun w => { w with setpoint := p }
      (moved.alReconcile fun l => l.segs == g.segs, some p)
    | none => (s, none)

/-! ### Meanings -/

/-- LOOP_TIMER_EXPIRY (R114): the timer runs only while the clock is invalid, and restarts itself. -/
def execLoopTimerExpiry (s : State) : Host.Outcome State Fault Refusal :=
  .next (s.event .loopTimerExpiry fun s =>
    if s.al.loopTimer.isSome then
      ({ s with al := { s.al with loopTimer := some (Config.seconds 60) } }).evalAll
    else s)

end Sys2Proof.Machine
end

