-- ==== Sys2Proof/Machine/Divider.lean ====
section
/-! DEFINITION. AD (chapter 7): the granted total, its division among the groups and their segments, the
shortage judgement, and what AD does with demand updates and the reports of LM. -/

namespace Sys2Proof.Machine

/-! ### The division (R136 to R138) -/

def sumOf {α : Type} (f : α → Nat) (l : List α) : Nat := (l.map f).sum

/-- The granted total (R136). -/
def grantedTotal (qd qmin grant : Nat) : Nat := max qmin (qd * grant / 1000)

/-- The leftover of R137, step 4, given to groups of weight above 0 in order, one each. -/
def giveLeftover : Nat → List (AdGroup × Nat) → List Nat
  | _, [] => []
  | left, (g, share) :: rest =>
    if 0 < left ∧ g.qmin < g.qd then (share + 1) :: giveLeftover (left - 1) rest
    else share :: giveLeftover left rest

/-- The allocation of every group (R136, R137). -/
def allocations (total : Nat) (groups : List AdGroup) : List Nat :=
  let qd := sumOf (·.qd) groups
  let qmin := sumOf (·.qmin) groups
  if qd ≤ total then groups.map (·.qd)
  else
    let surplus := total - qmin
    let weights := sumOf (fun g => g.qd - g.qmin) groups
    let floors := groups.map fun g =>
      if weights = 0 then 0 else surplus * (g.qd - g.qmin) / weights
    let shares := (groups.zip floors).map fun (p : AdGroup × Nat) => (p.1, p.1.qmin + p.2)
    giveLeftover (surplus - floors.sum) shares

/-- The leftover of R138, step 4, given to segments below their maximum in order, one each. -/
def topUp : Nat → List (Seg × Nat × Nat) → List (Seg × Nat)
  | _, [] => []
  | left, (i, target, high) :: rest =>
    if 0 < left ∧ target < high then (i, target + 1) :: topUp (left - 1) rest
    else (i, target) :: topUp left rest

/-- A segment's part of the spare (R138, step 3), within its own range: R138 keeps every target at or
below the segment's maximum, also under a record formed before a SERVICE exit changed the figures [45]. -/
def State.spareOf (s : State) (spare range : Nat) (i : Seg) : Nat :=
  let own := (s.segRec i).airMax - (s.segRec i).airMin
  min own (spare * own / range)

/-- The targets of a group's segments (R138): spare and range are those of the group's record. A Q_max now in
effect at or below the record's older Q_min counts as a range of 0: the model's reading [45]. -/
def State.splitGroup (s : State) (g : AdGroup) : List (Seg × Nat) :=
  let spare := g.alloc - g.qmin
  let range := g.qmax - g.qmin
  let segs := segList g.segs
  if range = 0 then segs.map fun i => (i, (s.segRec i).airMin)
  else
    let floors := segs.map (s.spareOf spare range)
    topUp (spare - floors.sum) ((segs.zip floors).map fun (p : Seg × Nat) =>
      (p.1, (s.segRec p.1).airMin + p.2, (s.segRec p.1).airMax))

/-! ### The recompute (R139, R140, R142) -/

/-- The shortage judgement of one group: its flag and its notice (R140). -/
def judgeShort (grant : Nat) (g : AdGroup) : AdGroup × List Notice :=
  if g.alloc < g.qvent then
    ({ g with short := true }, if g.short then [] else [.airShort g.segs g.alloc g.qvent grant])
  else
    ({ g with short := false }, if g.short then [.airRestored g.segs g.alloc g.qvent] else [])

def State.setAdGroups (s : State) (groups : List AdGroup) : State :=
  { s with ad := { s.ad with groups := groups } }

/-- The targets handed to OS; a segment that no record names keeps its target, one that is not
configured has none (R139). Of two records that name one segment, the later in group order gives its target:
the model's choice [56]. -/
def State.newTargets (s : State) : Four Nat :=
  let split := s.ad.groups.flatMap s.splitGroup
  let given := split.foldl (fun (v : Four Nat) p => v.set p.1 p.2) s.ad.targets
  given.mapIdx fun i n => if s.configured i then n else 0

/-- The targets of the configured segments at their minima, the others at 0. -/
def State.minimaTargets (s : State) : Four Nat :=
  (Four.all ()).mapIdx fun i _ => if s.configured i then (s.segRec i).airMin else 0

/-- A recompute: division, split and judgement. In SERVICE every group and every segment stands at its
minimum and nothing is judged (R142). -/
def State.recompute (s : State) : State :=
  let groups := s.ad.groups
  let qmin := sumOf (·.qmin) groups
  let total := if s.inRun then grantedTotal (sumOf (·.qd) groups) qmin s.ad.grant else qmin
  let allocs := if s.inRun then allocations total groups else groups.map (·.qmin)
  let given := (groups.zip allocs).map fun (p : AdGroup × Nat) => { p.1 with alloc := p.2 }
  let s1 := { s with ad := { s.ad with total := total, groups := given } }
  let s2 := { s1 with ad :=
    { s1.ad with targets := if s.inRun then s1.newTargets else s.minimaTargets } }
  if s.inRun then
    let judged := given.map (judgeShort s.ad.grant)
    (s2.setAdGroups (judged.map fun (p : AdGroup × List Notice) => p.1)).notifyAll
      (judged.flatMap fun (p : AdGroup × List Notice) => p.2)
  else s2

/-! ### Records (R132, R133, R143) -/

/-- A record with the provisional figures of R133. -/
def State.provisional (s : State) (g : Segs) : AdGroup :=
  ⟨g, s.minOf g, s.minOf g, 0, s.maxOf g, s.minOf g, false⟩

def State.adGroup? (s : State) (g : Segs) : Option AdGroup := s.ad.groups.find? fun r => r.segs == g

/-- A demand update (R132): the complete set of groups. The update of AL's exit evaluation is known by
its figures (R143) [40]. -/
def State.takeDemand (s : State) (figs : List DemandFig) : State :=
  let groups := figs.map fun f =>
    { (s.adGroup? f.segs).getD (s.provisional f.segs) with
      qd := f.qd, qmin := f.qmin, qvent := f.qvent, qmax := s.maxOf f.segs }
  let exitUpdate := s.ad.exitUpdate || s.al.exitFigs == some figs
  ({ s with ad := { s.ad with groups := groups, exitUpdate := exitUpdate } }).recompute

/-- LM's regroup report at AD (R133). Where a record of the same lowest segment stands, of a later regroup
whose update has come first, a record made here is placed behind it: the model's choice [56]. -/
def State.adRegroup (s : State) (gone : List Segs) (formed : List GroupRec) : State :=
  let kept := s.ad.groups.filter fun g => !gone.contains g.segs
  let made := (formed.filter fun r => (s.adGroup? r.segs).isNone).map fun r => s.provisional r.segs
  let groups := made.foldl (fun l g => insertBy (fun (a b : AdGroup) => segsBefore a.segs b.segs) g l) kept
  (s.setAdGroups groups).recompute

/-- LM's exit report at AD (R143): the records that the update of AL's exit evaluation formed are kept. -/
def State.adExit (s : State) (groups : List GroupRec) : State :=
  let made := groups.map fun r =>
    let fresh := s.provisional r.segs
    if s.ad.exitUpdate then (s.adGroup? r.segs).getD fresh else fresh
  (s.setAdGroups made).recompute

/-- AD at SERVICE entry (R142). -/
def State.adService (s : State) : State :=
  (s.setAdGroups (s.ad.groups.map fun g => { g with short := false })).recompute

/-- AD as SERVICE ends, before LM's exit report: each record's Q_max is that of the segment records now in
effect (R131), and a segment no longer configured loses its target (R143). Until AD takes the report the
model's choice is [40]: a segment gained stands at its minimum, and one that stays keeps its target, brought
within its minimum and maximum now in effect (R138). -/
def State.adLeave (s : State) (oldCount : Nat) : State :=
  let targets := s.ad.targets.mapIdx fun i n =>
    let r := s.segRec i
    if !s.configured i then 0
    else if i.val < oldCount then clampNat r.airMin r.airMax n
    else r.airMin
  let groups := s.ad.groups.map fun g => { g with qmax := s.maxOf g.segs }
  { s with ad := { s.ad with targets := targets, groups := groups, exitUpdate := false } }

/-- AD at every restart (R131, R143). -/
def State.adRestart (s : State) : State :=
  let groups := s.lm.groups.map fun r => s.provisional r.segs
  { s with ad :=
    { grant := 1000
      source := .default
      age := none
      total := sumOf (·.qmin) groups
      groups := groups
      targets := s.minimaTargets
      exitUpdate := false } }

/-! ### The grant (R134, R135) -/

def State.takeGrant (s : State) (g : Nat) : State :=
  ({ s with ad :=
    { s.ad with grant := min 1000 g, source := .plant, age := some (Config.seconds 600) } }).recompute

/-- Whole seconds since the last accepted GRANT, 0 to 599, absent at DEFAULT (R141). -/
def grantElapsed (a : Ad) : Option Nat :=
  match a.source with
  | .plant => a.age.map fun left => min 599 ((Config.seconds 600 - left) / Config.ticksPerSecond)
  | .default => none

/-! ### Meanings -/

/-- GRANT_AGE_EXPIRY (R135): only a running age timer expires. -/
def execGrantAgeExpiry (s : State) : Host.Outcome State Fault Refusal :=
  .next (s.event .grantAgeExpiry fun s =>
    if s.ad.age.isSome then
      ({ s with ad := { s.ad with grant := 1000, source := .default, age := none } }).recompute
    else s)

/-- DEMAND_UPDATE (R132). -/
def execDemandUpdate (figs : List DemandFig) (s : State) : Host.Outcome State Fault Refusal :=
  .next (s.event (.demandUpdate figs) fun s => s.takeDemand figs)

end Sys2Proof.Machine
end

