-- ==== Sys2Proof/Machine/Blinds.lean ====
section
/-! DEFINITION. The blinds of LBU (sections 8.5 and 8.6): the scene owner and its scene, the resolved
target, motion by tenths of a second, the dead time, the travel budget and the restart drive-up. -/

namespace Sys2Proof.Machine

/-! ### The scene owner (R145) -/

inductive Owner where
  | nobody | entry (ref : Nat) | walkIn
  deriving DecidableEq, Repr

/-- What can be read of a group's applied scene: nothing to show, a scene, or an owner that has left
while the report that it has is still on its way [12]. -/
inductive Shown where
  | nothing | scene (i : Nat) | unread
  deriving DecidableEq, Repr

def State.lbuOccupied (s : State) (g : Segs) : Bool := (standingOf s.lbu.occ g).any (·.occupied)
/-- People may be in the group: LBU holds it occupied, or waits for OT's report of it [41]. -/
def State.lbuPeople (s : State) (g : Segs) : Bool :=
  (standingOf s.lbu.occ g).any fun o => o.occupied || o.inherited
def State.lbuWalkIn (s : State) (g : Segs) : Bool := (standingOf s.lbu.occ g).any (·.walkIn)

/-- The scene owner of a group by LBU's standing (R145). -/
def State.ownerOf (s : State) (g : LbuGroup) : Owner :=
  match g.level with
  | .session =>
    match g.governing with
    | some ref => .entry ref
    | none => .nobody
  | _ => if s.lbuWalkIn g.segs then .walkIn else .nobody

/-- The current scene of an entry. -/
def State.sceneOfEntry (s : State) (ref : Nat) : Shown :=
  match (s.entry? ref).bind (·.vol.currentScene) with
  | some i => .scene i
  | none => .unread

/-- The applied scene of a group (R145). -/
def State.shownOf (s : State) (g : LbuGroup) : Shown :=
  match s.ownerOf g with
  | .nobody => .nothing
  | .entry ref => s.sceneOfEntry ref
  | .walkIn =>
    match s.walkIn? g.segs with
    | some w => .scene w.scene
    | none => .unread

/-- The group of LBU's standing that holds a segment. -/
def State.lbuGroupOf? (s : State) (i : Seg) : Option LbuGroup :=
  s.lbu.groups.find? fun g => segHas g.segs i

def State.mapLbuSeg (s : State) (i : Seg) (f : LbuSeg → LbuSeg) : State :=
  { s with lbu := { s.lbu with segs := s.lbu.segs.modify i f } }

def State.mapBlind (s : State) (i : Seg) (f : Blind → Blind) : State :=
  s.mapLbuSeg i fun l => { l with blind := f l.blind }

def State.blind (s : State) (i : Seg) : Blind := (s.lbu.segs.get i).blind

/-! ### Motion (R160, R161) -/

/-- A run starts toward a target that lies away from the position; the time at rest ends. -/
def startRun (b : Blind) (target : Nat) : Blind :=
  let up := target < b.position
  { b with
    target := target
    motion := if up then .movingUp else .movingDown
    lastDir := if up then .up else .down
    rest := 0
    runStart := b.position
    runSteps := 0
    reversing := none }

/-- A blind at rest and free to move takes a target (R160, STOPPED; R161, end of the second). -/
def takeAtRest (b : Blind) (target : Nat) : Blind :=
  if target = b.position then { b with target := target, motion := .stopped, reversing := none }
  else if 1 ≤ b.budget then startRun b target
  else { b with target := target, motion := .held, reversing := none }

/-- The dead time begins (R161). -/
def startReversing (b : Blind) (target : Nat) : Blind :=
  { b with target := target, motion := .reversing, reversing := some (Config.seconds 1) }

/-- A target that reaches a moving blind (R160). -/
def takeMoving (b : Blind) (target : Nat) (ahead : Bool) : Blind :=
  if target = b.position then { b with target := target, motion := .stopped }
  else if ahead then { b with target := target, runStart := b.position, runSteps := 0 }
  else startReversing b target

/-- A target handed to a blind (R160); during a drive-up it is recorded only (R164). -/
def handTarget (b : Blind) (target : Nat) : Blind :=
  if b.driveUp.isSome then { b with target := target }
  else
    match b.motion with
    | .stopped => takeAtRest b target
    | .movingUp => takeMoving b target (target < b.position)
    | .movingDown => takeMoving b target (b.position < target)
    | .reversing => { b with target := target }
    | .held =>
      if target = b.position then { b with target := target, motion := .stopped }
      else { b with target := target }

/-- The place a run reaches after k tenths (R160). -/
def runPlace (start target k full : Nat) : Nat :=
  if target ≤ start then max target (start - 100 * k / full) else min target (start + 100 * k / full)

/-- One tenth of a second of a blind in motion (R160, R162). A drive-up goes toward 0, drives on
against the stop and charges nothing (R164). -/
def stepBlind (full : Nat) (b : Blind) : Blind :=
  let k := b.runSteps + 1
  if b.driveUp.isSome then { b with runSteps := k, position := runPlace b.runStart 0 k full }
  else
    match b.motion with
    | .movingUp | .movingDown =>
      let p := runPlace b.runStart b.target k full
      { b with
        runSteps := k
        position := p
        uncharged := b.uncharged + 1
        motion := if p = b.target then .stopped else b.motion }
    | _ => b

/-- The dead time ends (R161). -/
def endReversing (b : Blind) : Blind :=
  match b.motion with
  | .reversing => takeAtRest b b.target
  | _ => b

/-! ### Travel budget (R162, R163) -/

def isMoving (b : Blind) : Bool :=
  match b.motion with
  | .movingUp => true
  | .movingDown => true
  | _ => false

/-- A full second of motion is charged; a moving blind whose budget it ends is HELD (R162). -/
def chargeBlind (b : Blind) : Blind :=
  if b.driveUp.isNone && (isMoving b || 10 ≤ b.uncharged) then
    let budget := b.budget - 1
    { b with
      budget := budget
      uncharged := b.uncharged - 10
      motion := if isMoving b && budget == 0 then .held else b.motion }
  else b

/-- A HELD blind whose budget has come back leaves HELD (R163). -/
def leaveHeld (full : Nat) (b : Blind) : Blind :=
  if b.motion == .held && full / 2 ≤ b.budget then
    if b.target = b.position then { b with motion := .stopped }
    else if (b.target < b.position) = (b.lastDir = .up) then startRun b b.target
    else startReversing b b.target
  else b

/-- Four seconds of rest refill the budget by 1, up to its capacity (R162). -/
def refillBlind (full : Nat) (b : Blind) : Blind :=
  if b.driveUp.isNone && !isMoving b then
    leaveHeld full { b with budget := min (3 * full) (b.budget + 1), rest := b.rest - 40 }
  else b

/-- The end of the drive-up (R164): at the top, budget and counters fresh. -/
def endDriveUp (full : Nat) (b : Blind) : Blind :=
  { b with
    position := 0
    budget := 3 * full
    uncharged := 0
    rest := 0
    lastDir := .up
    motion := .stopped
    runStart := 0
    runSteps := 0
    driveUp := none }

/-! ### Resolution (R157) -/

/-- Base and target that a resolution gives, and the base it keeps for a passing loss of the owner. -/
structure Aim where
  base : Nat
  target : Nat
  kept : Option Nat
  deriving DecidableEq, Repr

/-- The base that LEAVE keeps: the base as it stands, or the one from before a passing loss of the
owner. -/
def leftBase (b : Blind) : Nat := b.keptBase.getD b.base

/-- The base that a scene gives (R157). -/
def State.sceneBase (s : State) (scene : Nat) (b : Blind) : Nat :=
  ((s.comm.scene scene).blind).getD (leftBase b)

/-- Base and target of a segment (R157); none where the figure cannot be read just now [12].
R157 makes the base the vacant position in every group of case 4, while R165, R166 and R168 have LM's and
OT's reports leave the same targets in either order, so that LEAVE keeps the blinds where the room left
them. An occupied group without an owner, or a group that OT has not reported since LM formed it, is such a
pair of reports half taken: the base from before it is kept beside the table's, and the next LEAVE goes back
to it [41]. A group that goes vacant while SESSION stands keeps its scene's blind target by case 2, where the
third row of R166 says the vacant position: the model follows R157 until LM's report [54]. -/
def State.resolved (s : State) (i : Seg) (g : LbuGroup) : Option Aim :=
  let l := s.lbu.segs.get i
  let raised (base : Nat) : Nat :=
    if l.glare.active then max base (s.segRec i).glarePosition else base
  let byScene (scene : Nat) (kept : Option Nat) : Aim :=
    ⟨s.sceneBase scene l.blind, raised (s.sceneBase scene l.blind), kept⟩
  let passing := if s.lbuPeople g.segs then some (leftBase l.blind) else none
  match l.blind.override with
  | some o => some ⟨o, o, none⟩
  | none =>
    match s.shownOf g with
    | .scene n => some (byScene n none)
    | .unread => none
    | .nothing =>
      match g.level, g.governing with
      | .prepare, some ref =>
        match s.sceneOfEntry ref with
        | .scene n => some (byScene n passing)
        | _ => none
      | _, _ => some ⟨(s.segRec i).vacantPosition, (s.segRec i).vacantPosition, passing⟩

/-- A new base and target; a target the blind already has changes nothing else (R157). -/
def setTarget (b : Blind) (a : Aim) : Blind :=
  let b1 := { b with base := a.base, keptBase := a.kept }
  if a.target = b.target then b1 else handTarget b1 a.target

/-- The blind target of a segment resolved afresh; in SERVICE no target is formed (R167). -/
def State.resolveBlind (s : State) (i : Seg) : State :=
  if s.inRun && s.configured i then
    match (s.lbuGroupOf? i).bind (s.resolved i) with
    | some a => s.mapBlind i fun b => setTarget b a
    | none => s
  else s

def State.resolveBlinds (s : State) (g : Segs) : State :=
  (segList g).foldl State.resolveBlind s

/-- The manual overrides of a set removed and its targets resolved (R159). -/
def State.clearOverrides (s : State) (g : Segs) : State :=
  ((segList g).foldl (fun s i => s.mapBlind i fun b => { b with override := none }) s).resolveBlinds g

/-! ### BLIND (R158) -/

/-- The three requests of panel BLIND on every configured segment of the group. -/
def State.blindRequest (s : State) (g : Segs) (override : Blind → Option Nat) : State :=
  ((segList g).foldl (fun s i =>
    if s.configured i then s.mapBlind i fun b => { b with override := override b } else s)
      s).resolveBlinds g

/-! ### Glare (R154, R155) -/

/-- A daylight value judged against the thresholds (R154). -/
def judgeGlare (c : SuiteRec) (lux : Nat) (g : Glare) : Glare :=
  if g.active then
    { g with offTimer :=
        if lux < c.glareOff then some (g.offTimer.getD (Config.seconds 900)) else none }
  else
    { g with onTimer :=
        if c.glareOn < lux then some (g.onTimer.getD (Config.seconds 300)) else none }

def State.mapGlare (s : State) (i : Seg) (f : Glare → Glare) : State :=
  s.mapLbuSeg i fun l => { l with glare := f l.glare }

def glareOn (g : Glare) : Glare :=
  if g.onTimer.isSome then ⟨true, none, none⟩ else g
def glareOff (g : Glare) : Glare :=
  if g.offTimer.isSome then ⟨false, none, none⟩ else g

/-! ### Meanings -/

/-- GLARE_ON_EXPIRY (R154): only a running on timer expires. -/
def execGlareOnExpiry (i : Seg) (s : State) : Host.Outcome State Fault Refusal :=
  .next (s.event (.glareOnExpiry i) fun s => (s.mapGlare i glareOn).resolveBlind i)

/-- GLARE_OFF_EXPIRY (R154): only a running off timer expires. -/
def execGlareOffExpiry (i : Seg) (s : State) : Host.Outcome State Fault Refusal :=
  .next (s.event (.glareOffExpiry i) fun s => (s.mapGlare i glareOff).resolveBlind i)

/-- BLIND_STEP (R160, R164). -/
def execBlindStep (i : Seg) (s : State) : Host.Outcome State Fault Refusal :=
  .next (s.event (.blindStep i) fun s => s.mapBlind i (stepBlind (s.segRec i).fullTravel))

/-- REVERSING_END (R161). -/
def execReversingEnd (i : Seg) (s : State) : Host.Outcome State Fault Refusal :=
  .next (s.event (.reversingEnd i) fun s => s.mapBlind i endReversing)

/-- BUDGET_CHARGE (R162). -/
def execBudgetCharge (i : Seg) (s : State) : Host.Outcome State Fault Refusal :=
  .next (s.event (.budgetCharge i) fun s => s.mapBlind i chargeBlind)

/-- BUDGET_REFILL (R162, R163). -/
def execBudgetRefill (i : Seg) (s : State) : Host.Outcome State Fault Refusal :=
  .next (s.event (.budgetRefill i) fun s =>
    if s.configured i then s.mapBlind i (refillBlind (s.segRec i).fullTravel) else s)

/-- DRIVE_UP_END (R164): the latest recorded target is handed on; in SERVICE the blind stands at 0. -/
def execDriveUpEnd (i : Seg) (s : State) : Host.Outcome State Fault Refusal :=
  .next (s.event (.driveUpEnd i) fun s =>
    if (s.blind i).driveUp.isSome then
      s.mapBlind i fun b =>
        let up := endDriveUp (s.segRec i).fullTravel b
        if s.inRun then handTarget up b.target else { up with target := 0 }
    else s)

end Sys2Proof.Machine
end

