-- ==== Sys2Proof/Machine/Lighting.lean ====
section
/-! DEFINITION. LBU's luminaire rows and scenes (sections 8.2, 8.3, 8.7, 8.8): row targets and fades,
daylight, scene changes, the reports of LM and OT, SERVICE and restart. -/

namespace Sys2Proof.Machine

/-! ### Row targets (R150) -/

/-- The window target of a scene reduced by daylight (R150). -/
def windowTarget (c : SuiteRec) (r : SceneRec) (daylight : Option Nat) : Nat :=
  if r.harvesting then
    match daylight with
    | some lux =>
      let reduction := lux * c.harvestGain / 256
      max (r.window - reduction) (min r.window c.minimumLevel)
    | none => r.window
  else r.window

/-- The two targets of a segment and the fade length of their scene. An unread scene gives none: the
rows are left as they are [12]. -/
structure RowAim where
  window : Nat
  inner : Nat
  fade : Nat
  dark : Bool
  deriving DecidableEq, Repr

/-- Rows that go dark because the group is vacant or has no applied scene fade over 10 seconds (R152). -/
def darkAim : RowAim := ⟨0, 0, 10, true⟩

def State.rowAim (s : State) (g : LbuGroup) (i : Seg) : Option RowAim :=
  if s.lbuOccupied g.segs then
    match s.shownOf g with
    | .scene n =>
      let r := s.comm.scene n
      some ⟨windowTarget s.suite r (s.lbu.segs.get i).daylight, r.inner, r.fade, false⟩
    | .nothing => some darkAim
    | .unread => none
  else some darkAim

/-! ### Fades (R153) -/

/-- A new target with its fade length. The row's present target starts nothing new (R152). -/
def applyRow (target fade : Nat) (r : LampRow) : LampRow :=
  if target = r.target then r
  else if target = r.level then { r with target := target, fade := none }
  else if fade = 0 then ⟨target, target, none⟩
  else { r with target := target, fade := some ⟨r.level, fade, 0⟩ }

/-- The level after k tenths of a fade. -/
def fadeLevel (start target length k : Nat) : Nat :=
  if target ≤ start then start - (start - target) * k / (10 * length)
  else start + (target - start) * k / (10 * length)

/-- One tenth of a second of a row. -/
def stepRow (r : LampRow) : LampRow :=
  match r.fade with
  | none => r
  | some f =>
    let k := f.elapsed + 1
    if 10 * f.length ≤ k then { r with level := r.target, fade := none }
    else { r with level := fadeLevel f.start r.target f.length k, fade := some { f with elapsed := k } }

def stepSide (side : RowSide) (l : LbuSeg) : LbuSeg :=
  match side with
  | .window => { l with window := stepRow l.window }
  | .inner => { l with inner := stepRow l.inner }

/-- Both rows of a segment brought to the group's scene; in SERVICE no target is formed (R167). -/
def State.formRows (s : State) (g : LbuGroup) (i : Seg) : State :=
  if s.inRun && s.configured i then
    match s.rowAim g i with
    | some a =>
      s.mapLbuSeg i fun l =>
        { l with window := applyRow a.window a.fade l.window
                 inner := applyRow a.inner a.fade l.inner }
    | none => s
  else s

/-- The rows of a group formed anew. -/
def State.formGroupRows (s : State) (g : LbuGroup) : State :=
  (segList g.segs).foldl (fun s i => s.formRows g i) s

/-! ### Daylight (R151) -/

/-- The window row alone, after a daylight arrival: fade 20 seconds, or 10 where the group is vacant or
has no applied scene (R152). An exact arrival is judged for its size first. -/
def State.formWindow (s : State) (i : Seg) (judged : Bool) : State :=
  if s.inRun && s.configured i then
    match s.lbuGroupOf? i with
    | some g =>
      match s.rowAim g i with
      | some a =>
        let present := (s.lbu.segs.get i).window.target
        let drift := (a.window - present) + (present - a.window)
        if judged && drift < 20 then s
        else
          s.mapLbuSeg i fun l =>
            { l with window := applyRow a.window (if a.dark then 10 else 20) l.window }
      | none => s
    | none => s
  else s

/-- A sensor's last daylight value, read while it is OK (R90). -/
def State.daylightOf (s : State) (j : Seg) : Option Nat :=
  if s.sensorOk j .daylight then (s.sensor j .daylight).last.map Int.toNat else none

/-- A daylight value for a segment (R151, R154). -/
def State.takeDaylight (s : State) (i : Seg) (lux : Nat) : State :=
  if s.configured i then
    let s1 := s.mapLbuSeg i fun l =>
      { l with daylight := some lux, glare := judgeGlare s.suite lux l.glare }
    s1.formWindow i true
  else s

/-- A change of a segment's daylight source (R151, R155). The source's last value is read while its
sensor is OK alone (R90); where it has left OK since the report was sent there is nothing to read, and
the reading stands until SI's next report [42]. -/
def State.takeDaylightSource (s : State) (i : Seg) (source : Option Seg) : State :=
  if s.configured i then
    match source with
    | none =>
      let s1 := s.mapLbuSeg i fun l => { l with daylight := none, glare := Glare.initial }
      (s1.formWindow i false).resolveBlind i
    | some j =>
      match s.daylightOf j with
      | some lux => (s.takeDaylight i lux).resolveBlind i
      | none => s
  else s

/-! ### Scene changes (R148) -/

/-- A scene change of the owner of the groups a test names: overrides removed, rows and blinds formed
anew. -/
def State.sceneChanged (s : State) (owned : LbuGroup → Bool) : State :=
  (s.lbu.groups.filter owned).foldl (fun s g => (s.formGroupRows g).clearOverrides g.segs) s

/-- A scene change of an entry: the groups it owns, and the blinds of those it governs at PREPARE. -/
def State.entrySceneChanged (s : State) (ref : Nat) (also : Segs → Bool) : State :=
  let s1 := s.sceneChanged fun g => s.ownerOf g == .entry ref || also g.segs
  (s1.lbu.groups.filter fun g => g.governing == some ref && g.level == .prepare).foldl
    (fun s g => s.resolveBlinds g.segs) s1

/-- BT's report of a scene set anew by BOOK CHANGE (R20, R148): rows and blinds of the groups the entry owns
are formed anew, and the overrides of every group it governs, owned or not, are cleared, which resolves its
blinds [17]. -/
def State.bookedSceneChanged (s : State) (ref : Nat) : State :=
  let s1 := s.sceneChanged fun g => s.ownerOf g == .entry ref
  (s1.lbu.groups.filter fun g => g.governing == some ref).foldl
    (fun s g => s.clearOverrides g.segs) s1

/-- What SCENE does to the two scenes of an owner (R146). -/
def chooseScene (c : Commission) (i current : Nat) (saved : Option Nat) : Nat × Option Nat :=
  if (c.scene i).temporary then
    (i, if (c.scene current).temporary then saved else some current)
  else (i, none)

/-- What RESTORE does to them, the scene to fall back on given (R147). -/
def restoreScene (saved : Option Nat) (fallback : Nat) : Nat × Option Nat := (saved.getD fallback, none)

/-- The owner's scenes changed by a panel in a group, and the scene now current; none where the group
has no scene owner. The owner is read from LM's and OT's records [10]. While LBU has not formed the group,
LM's regroup or exit report on its way, the walk-in record's scenes change, no override is removed and no
target formed: the model's choice [60]. -/
def State.panelScene (s : State) (g : GroupRec)
    (act : Nat → Option Nat → Nat → Nat × Option Nat) : State × Option Nat :=
  match g.level with
  | .session =>
    match g.governing.bind s.entry? with
    | some e =>
      match e.vol.currentScene with
      | some current =>
        let r := act current e.vol.savedScene (bookedScene s.comm e.fix)
        let s1 := s.mapVolatile e.fix.ref fun v =>
          { v with currentScene := some r.1, savedScene := r.2 }
        (s1.entrySceneChanged e.fix.ref fun x => x == g.segs, some r.1)
      | none => (s, none)
    | none => (s, none)
  | _ =>
    match s.walkIn? g.segs with
    | some w =>
      let r := act w.scene w.saved 0
      let s1 := s.mapWalkIn g.segs fun w => { w with scene := r.1, saved := r.2 }
      (s1.sceneChanged fun x => x.segs == g.segs, some r.1)
    | none => (s, none)

/-! ### Reports of LM and OT (R152, R157, R165, R166) -/

def State.lbuGroup? (s : State) (g : Segs) : Option LbuGroup := s.lbu.groups.find? fun r => r.segs == g

/-- LM's governing change at LBU. One for a set that LBU holds no standing of moves nothing, and the standing that
the regroup report carries then stands: the model's choice [61]. -/
def State.lbuGoverning (s : State) (g : Segs) (governing : Option Nat) (level : Level) : State :=
  match s.lbuGroup? g with
  | none => s
  | some old =>
    let new : LbuGroup := ⟨g, governing, level⟩
    let groups := s.lbu.groups.map fun r => if r.segs == g then new else r
    let s1 := { s with lbu := { s.lbu with groups := groups } }
    let moved := s.ownerOf old != s.ownerOf new || s.shownOf old != s.shownOf new
    (if moved then s1.formGroupRows new else s1).resolveBlinds g

/-- The report says that the group has become vacant (R159). -/
def becameVacant (before : Option OccStanding) (after : OccStanding) : Bool :=
  match before with
  | none => false
  | some b => !b.inherited && b.occupied && !after.occupied

/-- OT's report at LBU. One for a set that LBU no longer holds is only noted, and removes no override: the
model's choice [50]. Else rows and blinds are resolved from the standing it leaves, whether it moves an item
of the standing or, after a regroup or a SERVICE exit, only names a record formed anew (R152, R165, R166,
R168). -/
def State.lbuTakeOcc (s : State) (o : OccStanding) : State :=
  let before := standingOf s.lbu.occ o.segs
  let s1 := { s with lbu := { s.lbu with occ := noteStanding s.lbu.occ o } }
  match s1.lbuGroup? o.segs with
  | none => s1
  | some g =>
    let s2 := s1.formGroupRows g
    if becameVacant before o then s2.clearOverrides g.segs else s2.resolveBlinds g.segs

def lbuGroupOfRec (r : GroupRec) : LbuGroup := ⟨r.segs, r.governing, r.level⟩

/-- LM's regroup report at LBU (R165). A record formed joins behind one of the same lowest segment [56]; one still
held of a set that is formed gives way to the new one: the model's choice [62]. -/
def State.lbuRegroup (s : State) (gone : List Segs) (formed : List GroupRec) : State :=
  let sets := formed.map (·.segs)
  let made := formed.map lbuGroupOfRec
  let kept := s.lbu.groups.filter fun g => !gone.contains g.segs && !sets.contains g.segs
  let groups := made.foldl (fun l g => insertBy (fun (a b : LbuGroup) => segsBefore a.segs b.segs) g l) kept
  let s1 := { s with lbu :=
    { s.lbu with groups := groups, occ := standingsAfter s.lbu.occ gone sets } }
  made.foldl (fun s g => (s.formGroupRows g).resolveBlinds g.segs) s1

/-- LM's exit report at LBU (R168, step 3). The standing of a group OT has not reported yet is the one
State.lbuLeaveOcc has left, else vacant [39]; OT's report then resolves rows and blinds anew. -/
def State.lbuExit (s : State) (groups : List GroupRec) : State :=
  let made := groups.map lbuGroupOfRec
  let occ := made.map fun g => (standingOf s.lbu.occ g.segs).getD ⟨g.segs, false, false, true⟩
  let s1 := { s with lbu := { s.lbu with groups := made, occ := occ } }
  made.foldl (fun s g => (s.formGroupRows g).resolveBlinds g.segs) s1

/-! ### SERVICE and restart (R164, R167, R168) -/

/-- A row at the service lighting level at once. -/
def serviceRow (level : Nat) : LampRow := ⟨level, level, none⟩

/-- A blind at SERVICE entry: it stops where it stands; a drive-up goes on (R167, R164). -/
def serviceBlind (b : Blind) : Blind :=
  if b.driveUp.isSome then { b with override := none }
  else { b with override := none, motion := .stopped, target := b.position, reversing := none }

/-- SERVICE entry (R167). -/
def State.lbuService (s : State) : State :=
  let level := s.suite.serviceLevel
  let segs := s.lbu.segs.mapIdx fun i l =>
    if s.configured i then
      { l with
        window := serviceRow level
        inner := serviceRow level
        blind := serviceBlind l.blind }
    else l
  { s with lbu := { s.lbu with segs := segs } }

/-- The segment records as SERVICE ends (R168, step 1), the former segment count given. A drive-up that runs
on keeps the time it began with, and counts by the T_full now in effect: the model's choice [51]. -/
def State.lbuLeaveSegs (s : State) (oldCount : Nat) : State :=
  let segs := s.lbu.segs.mapIdx fun i l =>
    if !s.configured i then LbuSeg.absent
    else if i.val < oldCount then
      let cap := 3 * (s.segRec i).fullTravel
      { l with blind := { l.blind with budget := min cap l.blind.budget } }
    else LbuSeg.initial (s.segRec i)
  { s with lbu := { s.lbu with segs := segs } }

/-- Saved scenes behind a scene that is no longer temporary are removed (R168, step 2). -/
def State.pruneSaved (s : State) : State :=
  s.mapEveryVolatile fun e =>
    let temporary := e.vol.currentScene.any fun i => (s.comm.scene i).temporary
    { e.vol with savedScene := if temporary then e.vol.savedScene else none }

/-- OT's reports as LBU keeps them when SERVICE ends. OT makes every walk-in record afresh (R168, step 2),
so none is held here; a group held vacant awaits OT's report. The model's choice [39]. -/
def State.lbuLeaveOcc (s : State) : State :=
  let occ := s.lbu.occ.map fun o => ⟨o.segs, o.occupied, false, o.inherited || !o.occupied⟩
  { s with lbu := { s.lbu with occ := occ } }

/-- LBU as SERVICE ends, before LM's exit report. Until LBU takes that report its old groups stand, and a
daylight value, a glare timer, an OT report, a governing change or a panel's BLIND taken in that time forms
targets on their standing: the model's choice [59]. -/
def State.lbuLeave (s : State) (oldCount : Nat) : State :=
  ((s.lbuLeaveSegs oldCount).lbuLeaveOcc).pruneSaved

/-- LBU at every restart (R149, R154, R156, R164). -/
def State.lbuRestart (s : State) : State :=
  let segs := (Four.all ()).mapIdx fun i _ =>
    if s.configured i then LbuSeg.initial (s.segRec i) else LbuSeg.absent
  let groups := s.lm.groups.map fun r => (⟨r.segs, none, .none⟩ : LbuGroup)
  let occ := s.lm.groups.map fun r => (⟨r.segs, false, false, false⟩ : OccStanding)
  { s with lbu := ⟨groups, occ, segs⟩ }

/-! ### Meanings -/

/-- SCENE_CHANGE (R20, R148): BT has set an entry's current scene anew. -/
def execSceneChange (ref : Nat) (s : State) : Host.Outcome State Fault Refusal :=
  .next (s.event (.sceneChange ref) fun s => s.bookedSceneChanged ref)

/-- SESSION_END_OVERRIDES (R159). -/
def execSessionEndOverrides (ref : Nat) (groups : List Segs) (s : State) :
    Host.Outcome State Fault Refusal :=
  .next (s.event (.sessionEndOverrides ref groups) fun s => groups.foldl State.clearOverrides s)

/-- DAYLIGHT_VALUE (R151, R154). -/
def execDaylightValue (i : Seg) (lux : Nat) (s : State) : Host.Outcome State Fault Refusal :=
  .next (s.event (.daylightValue i lux) fun s => s.takeDaylight i lux)

/-- DAYLIGHT_SOURCE_REPORT (R151, R155). -/
def execDaylightSourceReport (i : Seg) (source : Option Seg) (s : State) :
    Host.Outcome State Fault Refusal :=
  .next (s.event (.daylightSourceReport i source) fun s => s.takeDaylightSource i source)

/-- FADE_STEP (R153). -/
def execFadeStep (i : Seg) (side : RowSide) (s : State) : Host.Outcome State Fault Refusal :=
  .next (s.event (.fadeStep i side) fun s => s.mapLbuSeg i (stepSide side))

end Sys2Proof.Machine
end

