-- ==== Sys2Proof/Machine/Wire.lean ====
section
/-! DEFINITION. The byte formats of section 9.4: integers and optional fields (R178), the records replies
carry, the CRC (R169), the bytes of a reply, and finding frames in a run of received bytes. -/

namespace Sys2Proof.Machine

/-! ### Integers and optional fields (R178) -/

def byteOf (n : Nat) : Byte := BitVec.ofNat 8 n

/-- n in the given number of bytes, most significant first. -/
def be : Nat → Nat → List Byte
  | 0, _ => []
  | k + 1, n => byteOf (n / 256 ^ k) :: be k n

/-- A signed figure in two's complement. -/
def beInt (k : Nat) (n : Int) : List Byte := be k (n % (256 ^ k : Int)).toNat

/-- A flag byte (R178). R178 lets yes be any value but 0; the model sends 1 [55]. -/
def flagByte (b : Bool) : Byte := if b then 1 else 0

/-- An optional field: presence byte and value bytes (R178). That present is sent as 1, and the value bytes of
an absent field as 0, is the model's choice [55]. -/
def optBytes (k : Nat) : Option Nat → List Byte
  | some n => 1 :: be k n
  | none => 0 :: be k 0

def segsBytes (g : Segs) : List Byte := be 1 g.first ++ be 1 g.span

/-- Reading an integer, most significant byte first. -/
def unbe (bytes : List Byte) : Nat := bytes.foldl (fun n b => n * 256 + b.toNat) 0

/-- The signed reading in two's complement of a figure of k bytes. -/
def signedOf (k n : Nat) : Int := if n < 256 ^ k / 2 then n else (n : Int) - (256 ^ k : Int)

/-! ### Entry record (section 9.4) -/

def stateCode : EntryState → Nat
  | .planned => 0
  | .preparing => 1
  | .ready => 2
  | .inSession => 3
  | .overrun => 4

def startCauseCode : StartCause → Nat
  | .schedule => 0
  | .panel => 1
  | .resumed => 2

def endCauseCode : EndCause → Nat
  | .schedule => 0
  | .panel => 1
  | .supervisor => 2
  | .overrunLimit => 3
  | .nextBooking => 4
  | .service => 5
  | .clock => 6

/-- The fixed part, 26 bytes. -/
def fixedBytes (f : Fixed) : List Byte :=
  be 4 f.ref ++ be 4 f.start ++ be 4 f.stop ++ be 1 f.first ++ be 1 f.span ++ be 1 (kindCode f.kind)
    ++ be 2 f.headcount ++ [flagByte f.held, flagByte f.exempt] ++ optBytes 1 f.scene
    ++ optBytes 2 f.setpoint ++ optBytes 1 f.lead

/-- An optional segment set, as optBytes sends a figure [55]. -/
def optSegs : Option Segs → List Byte
  | some g => 1 :: segsBytes g
  | none => [0, 0, 0]

/-- The full entry record, 74 bytes (R22). -/
def entryBytes (c : Commission) (e : Entry) : List Byte :=
  let v := e.vol
  fixedBytes e.fix ++ be 2 (storedSetpoint c e.fix) ++ be 1 (bookedScene c e.fix)
    ++ be 1 (stateCode v.state) ++ optBytes 1 v.leadUsed ++ optBytes 4 v.prepStart
    ++ optBytes 2 v.initialError ++ optSegs v.stamp ++ optBytes 2 v.liveSetpoint
    ++ optBytes 1 v.currentScene ++ optBytes 1 v.savedScene ++ optBytes 4 v.actualStart
    ++ optBytes 1 (v.startCause.map startCauseCode) ++ optBytes 1 (v.presence.map flagNat)
    ++ optBytes 2 v.occupiedMinutes ++ optBytes 2 v.panelHeadcount ++ optBytes 2 v.peakHeadcount
    ++ optBytes 2 v.overrunMinutes ++ optSegs v.lastLayout

/-! ### Suite record (R174) -/

def readingCode : Reading → Nat
  | .closed => 0
  | .opened => 1
  | .between => 2
  | .fault => 3

def healthCode : Health → Nat
  | .ok => 0
  | .stale => 1
  | .fault => 2

def motionCode : Motion → Nat
  | .stopped => 0
  | .movingUp => 1
  | .movingDown => 2
  | .reversing => 3
  | .held => 4

def levelCode : Level → Nat
  | .none => 0
  | .prepare => 1
  | .session => 2

def loopModeCode : LoopMode → Nat
  | .parked => 0
  | .acquire => 1
  | .track => 2

def State.partByte (s : State) (p : Part) : Byte :=
  if s.partConfigured p then byteOf (readingCode (s.lm.parts.get p).accepted) else 0xFF

/-- One segment of the suite record, 13 bytes. -/
def State.segmentBytes (s : State) (i : Seg) : List Byte :=
  let h := s.si.sensors.get i
  let l := s.lbu.segs.get i
  let occupied := flagNat (s.segOccupied i)
  let assumed := flagNat (s.si.presenceSource.get i).isNone
  let health := healthCode h.presence.health + 4 * healthCode h.temperature.health
    + 16 * healthCode h.co2.health + 64 * healthCode h.daylight.health
  be 1 (occupied + 2 * assumed) ++ be 1 health ++ be 2 (s.ad.targets.get i) ++ be 2 (s.reheatOf i)
    ++ be 2 l.window.level ++ be 2 l.inner.level ++ be 2 l.blind.position
    ++ be 1 (motionCode l.blind.motion)

/-- A group's active setpoint as the two reads show it: from LM's level, BT's entry and OT's
record [10]. -/
def State.readSetpoint (s : State) (g : GroupRec) : Option Nat :=
  match g.level with
  | .none => (s.walkIn? g.segs).map (·.setpoint)
  | _ => g.governing.bind s.liveSetpointOf

/-- One group of the suite record, 13 bytes. A group whose loop AL has not formed yet shows a record as
R108 gives it [10]. -/
def State.groupBytes (s : State) (g : GroupRec) : List Byte :=
  let l := (s.loop? g.segs).getD (Loop.initial g.segs 0)
  be 1 (g.segs.first * 16 + g.segs.span) ++ be 4 (g.governing.getD 0) ++ be 1 (levelCode g.level)
    ++ be 1 (loopModeCode l.mode) ++ [flagByte l.settled] ++ be 2 ((s.readSetpoint g).getD 0)
    ++ [flagByte l.temp.isSome] ++ beInt 2 (l.temp.getD 0)

/-- The suite record: 13 bytes, 13 for each segment and 13 for each group. -/
def State.suiteBytes (s : State) : List Byte :=
  [flagByte !s.inRun, flagByte s.cs.lock, flagByte s.tb.valid] ++ be 4 s.tb.minutes
    ++ [flagByte s.load.isSome] ++ allParts.map s.partByte ++ be 1 s.segCount
    ++ s.configuredSegs.flatMap s.segmentBytes ++ be 1 s.lm.groups.length
    ++ s.lm.groups.flatMap s.groupBytes

/-! ### Demand record (R141) -/

def adGroupBytes (g : AdGroup) : List Byte :=
  segsBytes g.segs ++ be 2 g.qd ++ be 2 g.qmin ++ be 2 g.qvent ++ be 2 g.alloc ++ [flagByte g.short]

def sourceCode : GrantSource → Nat
  | .default => 0
  | .plant => 1

def demandBytes (a : Ad) : List Byte :=
  be 2 (sumOf (·.qd) a.groups) ++ be 2 (sumOf (·.qmin) a.groups) ++ be 2 (sumOf (·.qvent) a.groups)
    ++ be 2 a.grant ++ be 1 (sourceCode a.source) ++ optBytes 2 (grantElapsed a) ++ be 2 a.total
    ++ be 1 a.groups.length ++ a.groups.flatMap adGroupBytes

/-! ### Notice record (section 9.4) -/

def sensorKindCode : SensorKind → Nat
  | .presence => 0
  | .temperature => 1
  | .co2 => 2
  | .daylight => 3

def sensorCauseCode : SensorCause → Nat
  | .mark => 0
  | .range => 1
  | .timeout => 2

def missedCauseCode : MissedCause → Nat
  | .timePassed => 0
  | .suiteChanged => 1

def notReadyCode : NotReadyCause → Nat
  | .unsettled => 0
  | .notGoverning => 1
  | .changed => 2

def abortCode : AbortCause → Nat
  | .timeout => 0
  | .service => 1

def restartCode : RestartCause → Nat
  | .power => 0
  | .request => 1
  | .line => 2

def noticeCode : Notice → Nat
  | .sessionStarted _ => 1
  | .sessionEnded _ => 2
  | .released _ => 3
  | .missed _ _ _ _ _ _ => 4
  | .ready _ _ _ => 5
  | .notReady _ _ => 6
  | .layoutMismatch _ _ _ => 7
  | .sensorFault _ _ _ _ => 8
  | .sensorRecovered _ _ => 9
  | .partitionFault _ _ => 10
  | .airShort _ _ _ _ => 11
  | .airRestored _ _ _ => 12
  | .loadDone _ _ _ _ _ _ => 13
  | .loadAborted _ _ _ _ => 14
  | .restarted _ => 15

def startedBytes (f : StartedFields) : List Byte :=
  be 4 f.ref ++ be 1 (kindCode f.kind) ++ segsBytes f.segs ++ be 4 f.start ++ be 4 f.stop
    ++ be 4 f.actualStart ++ be 1 (startCauseCode f.cause)

def endedBytes (f : EndedFields) : List Byte :=
  be 4 f.ref ++ be 1 (kindCode f.kind) ++ be 4 f.start ++ be 4 f.stop ++ be 4 f.actualStart
    ++ be 4 f.actualEnd ++ be 2 f.occupied ++ be 2 f.overrun ++ optBytes 2 f.peak
    ++ be 1 (startCauseCode f.startCause) ++ be 1 (endCauseCode f.endCause)

/-- The fields of a notice. -/
def noticeFields : Notice → List Byte
  | .sessionStarted f => startedBytes f
  | .sessionEnded f => endedBytes f
  | .released f => startedBytes f
  | .missed ref kind g start stop cause =>
    be 4 ref ++ be 1 (kindCode kind) ++ segsBytes g ++ be 4 start ++ be 4 stop
      ++ be 1 (missedCauseCode cause)
  | .ready ref elapsed learned => be 4 ref ++ be 2 elapsed ++ [flagByte learned]
  | .notReady ref cause => be 4 ref ++ be 1 (notReadyCode cause)
  | .layoutMismatch ref expected found => be 4 ref ++ segsBytes expected ++ segsBytes found
  | .sensorFault i k health cause =>
    be 1 i ++ be 1 (sensorKindCode k) ++ be 1 (healthCode health) ++ be 1 (sensorCauseCode cause)
  | .sensorRecovered i k => be 1 i ++ be 1 (sensorKindCode k)
  | .partitionFault p r => be 1 p ++ be 1 (readingCode r)
  | .airShort g alloc qvent grant => segsBytes g ++ be 2 alloc ++ be 2 qvent ++ be 2 grant
  | .airRestored g alloc qvent => segsBytes g ++ be 2 alloc ++ be 2 qvent
  | .loadDone lo hi removed added past conflict =>
    be 4 lo ++ be 4 hi ++ be 1 removed ++ be 1 added ++ be 1 past ++ be 1 conflict
  | .loadAborted lo hi cause staged => be 4 lo ++ be 4 hi ++ be 1 (abortCode cause) ++ be 1 staged
  | .restarted cause => be 1 (restartCode cause)

/-- The notice record: 8 bytes and the fields. -/
def noticeBytes (r : NoticeRec) : List Byte :=
  be 2 r.counter ++ be 1 (noticeCode r.notice) ++ be 4 r.minute
    ++ be 1 (noticeFields r.notice).length ++ noticeFields r.notice

/-! ### Frames (R169, R173) -/

/-- One bit of the CRC: shift left, with the polynomial 0x1021 where a 1 leaves at the top. -/
def crcBit (c : BitVec 16) : BitVec 16 := if c.msb then (c <<< 1) ^^^ 0x1021#16 else c <<< 1

def crcByte (c : BitVec 16) (b : Byte) : BitVec 16 :=
  let x := c ^^^ (b.zeroExtend 16 <<< 8)
  crcBit (crcBit (crcBit (crcBit (crcBit (crcBit (crcBit (crcBit x)))))))

/-- CRC-16 with polynomial 0x1021, initial value 0xFFFF, no reflection and no final inversion. -/
def crc16 (bytes : List Byte) : Nat := (bytes.foldl crcByte 0xFFFF#16).toNat

def statusByte (r : WingReply) : Nat := reasonCode r.reason + if r.attention then 0x80 else 0

/-- The bytes of a wing reply, SYNC first (section 9.4). -/
def wingReplyBytes (address : Nat) (r : WingReply) : List Byte :=
  let body := be 1 address ++ be 1 (r.function + 0x80) ++ be 1 (statusByte r)
    ++ be 1 r.payload.length ++ r.payload
  byteOf 0x7E :: body ++ be 2 (crc16 body)

/-- The bytes of a room link reply (section 9.4). -/
def linkReplyBytes (r : LinkReply) : List Byte :=
  be 1 (reasonCode r.reason) ++ be 1 r.payload.length ++ r.payload

/-- A completed request frame: address, function and payload. -/
structure Frame where
  address : Nat
  function : Nat
  payload : List Byte
  deriving DecidableEq, Repr

/-- What a frame's bytes after the SYNC amount to: still short, dropped, or complete with what
follows it. -/
inductive Scan where
  | short | bad | done (f : Frame) (rest : List Byte)
  deriving DecidableEq, Repr

/-- One frame judged (R169). -/
def scanFrame (bytes : List Byte) : Scan :=
  match bytes with
  | a :: fn :: len :: rest =>
    let n := len.toNat
    if 120 < n then .bad
    else if rest.length < n + 2 then .short
    else if crc16 (a :: fn :: len :: rest.take n) = unbe ((rest.drop n).take 2)
    then .done ⟨a.toNat, fn.toNat, rest.take n⟩ (rest.drop (n + 2))
    else .bad
  | _ => .short

/-- HUNT and RECEIVE over a run of bytes: the frames completed, in order, and the receive state left.
Where the run ended in a gap or a framing error (the flag), a frame begun in it and still short is itself
dropped by that, and the bytes after its own SYNC are searched in turn. The first figure bounds the
search; the length of the run and one suffices. -/
def hunt (ended : Bool) : Nat → List Byte → List Frame × WpRx
  | 0, _ => ([], .hunt)
  | _, [] => ([], .hunt)
  | k + 1, b :: rest =>
    if b = byteOf 0x7E then
      match scanFrame rest with
      | .short => if ended then hunt ended k rest else ([], .receive rest)
      | .bad => hunt ended k rest
      | .done f after =>
        let r := hunt ended k after
        (f :: r.1, r.2)
    else hunt ended k rest

/-- The frames found inside a dropped frame's bytes (R169, last paragraph), and the frame in progress that
is left; whether a gap or a framing error ended the bytes is given. -/
def rescan (ended : Bool) (bytes : List Byte) : List Frame × WpRx := hunt ended (bytes.length + 1) bytes

end Sys2Proof.Machine
end

