-- ==== Sys2Proof/Machine/Requests.lean ====
section
/-! DEFINITION. How WP takes a request (R171 to R173): the wrapper every wing request runs in, the reply
and its attention mark, and the two checks WP makes itself. -/

namespace Sys2Proof.Machine

/-- What an owner answers: the state it leaves, the reason code and the payload. -/
abbrev Answered := State × Reason × List Byte

/-- A refusal changes nothing and carries no payload. -/
def refuse (s : State) (r : Reason) : Answered := (s, r, [])

/-- An accepted request without payload. -/
def answerOk (s : State) : Answered := (s, .ok, [])

/-- The reply to a request, built after the owner's action (R173). -/
def State.replyOf (s : State) (code : Nat) (reason : Reason) (payload : List Byte) : WingReply :=
  ⟨code, reason, !s.nq.list.isEmpty, payload⟩

/-- WP holds the request; the frame it came in is complete and no bytes remain (R169, R171). -/
def State.hold (s : State) (code : Nat) : State :=
  { s with wp := { s.wp with rx := .hunt, held := some code } }

/-- The reply is built and waits for its last byte to be sent (R171). -/
def putReply (code : Nat) (a : Answered) : State :=
  { a.1 with wp := { a.1.wp with held := some code, reply := some (a.1.replyOf code a.2.1 a.2.2) } }

/-- A request addressed to the part. A part without supply or in reset receives nothing [6]; a frame
that completes while a request is held is discarded [5]. -/
def State.request (s : State) (code : Nat) (act : State → Answered) : State :=
  if s.alive && s.wp.held.isNone then
    let s1 := s.hold code
    (putReply code (act s1)).drive
  else s

/-- WP's length check before the owner's checks (R172). -/
def ofReq {α : Type} (p : Req α) (owner : α → State → Answered) (s : State) : Answered :=
  match p with
  | .fields a => owner a s
  | .wrongLength _ => refuse s .badLength

/-- A table of checks in order: the first that fails refuses, else the action is taken. -/
def judged (s : State) (checks : List (Bool × Reason)) (act : State → Answered) : Answered :=
  match firstFault checks with
  | .ok => act s
  | r => refuse s r

/-! ### Meaning of a request whose function is not listed -/

/-- UNKNOWN_FUNCTION (R172, check 1). -/
def execUnknownFunction (code : Nat) (s : State) : Host.Outcome State Fault Refusal :=
  .next (s.request code fun x => refuse x .unknownFunction)

/-- WING_FRAME_DISCARDED (R170, R171): the frame is complete, and WP looks for the next SYNC. -/
def execWingFrameDiscarded (s : State) : Host.Outcome State Fault Refusal :=
  .next (s.event .wingFrameDiscarded fun s => { s with wp := { s.wp with rx := .hunt } })

/-- WING_REPLY_END (R171, R169): the held request is released, WP is in HUNT, and a bit rate that took
effect at SERVICE exit is used from now on. -/
def execWingReplyEnd (s : State) : Host.Outcome State Fault Refusal :=
  .next (s.event .wingReplyEnd fun s =>
    match s.wp.reply with
    | some r =>
      { s with wp :=
        { s.wp with
          rx := .hunt
          bitRate := s.suite.bitRate
          held := none
          reply := none
          lastSent := some r } }
    | none => s)

end Sys2Proof.Machine
end

