-- ==== Sys2Proof/Machine/Booking.lean ====
section
/-! DEFINITION. The single-entry requests of the booking table (chapter 1): BOOK ADD, BOOK CHANGE,
BOOK CANCEL, and the reads with their cursor. -/

namespace Sys2Proof

/-! ### One field of BOOK CHANGE (R179) -/

/-- The field as changed; an indicator without a value leaves it, having been refused before. -/
def Change.apply {α : Type} (c : Change α) (old : α) : α :=
  match c with
  | .set a => a
  | _ => old

def Change.applyOpt {α : Type} (c : Change α) (old : Option α) : Option α :=
  match c with
  | .set a => some a
  | .clear => none
  | _ => old

/-- The indicator is not one the field takes (R179). -/
def Change.badPlain {α : Type} : Change α → Bool
  | .clear => true
  | .bad _ => true
  | _ => false

def Change.badOptional {α : Type} : Change α → Bool
  | .bad _ => true
  | _ => false

def Change.isKeep {α : Type} : Change α → Bool
  | .keep => true
  | _ => false

end Sys2Proof

namespace Sys2Proof.Machine

/-! ### BOOK ADD (R14) -/

def addChecks (s : State) (w : FixedWire) : List (Bool × Reason) :=
  let f := offered s.comm w
  [(badOffer w, .outOfRange), (badSegs s.segCount (fixedSegs f), .noSegment),
    (badDuration f, .badDuration), (isPast s f, .past), (inLoad s f.start, .loading),
    ((s.entry? f.ref).isSome, .duplicate), (overlapsLive s f, .overlap),
    (Config.tableCapacity ≤ s.bt.table.length, .full)]

def State.bookAdd (w : FixedWire) (s : State) : Answered :=
  judged s (addChecks s w) fun s => answerOk (s.addEntry ⟨offered s.comm w, Volatile.planned⟩)

/-! ### BOOK CHANGE (R15 to R20) -/

/-- Every indicator leaves its field as it is (R15). -/
def allKept (c : ChangeWire) : Bool :=
  c.start.isKeep && c.stop.isKeep && c.first.isKeep && c.span.isKeep && c.kind.isKeep
    && c.headcount.isKeep && c.held.isKeep && c.exempt.isKeep && c.scene.isKeep
    && c.setpoint.isKeep && c.lead.isKeep

def badIndicators (c : ChangeWire) : Bool :=
  c.start.badPlain || c.stop.badPlain || c.first.badPlain || c.span.badPlain || c.kind.badPlain
    || c.headcount.badPlain || c.held.badPlain || c.exempt.badPlain || c.scene.badOptional
    || c.setpoint.badOptional || c.lead.badOptional

/-- The kind carried is none a supervisor may write, or the entry is ADHOC (R15, check 1). -/
def badKindChange (c : ChangeWire) (old : Kind) : Bool :=
  match c.kind with
  | .set code => (supervisorKind? code).isNone || old == .adhoc
  | _ => false

def badSceneChange (c : ChangeWire) : Bool :=
  match c.scene with
  | .set i => 15 < i
  | _ => false

def changedKind (c : ChangeWire) (old : Kind) : Kind :=
  match c.kind with
  | .set code => (supervisorKind? code).getD old
  | _ => old

/-- The setpoint as changed, clamped (R10). -/
def changedSetpoint (c : ChangeWire) (old : Option Nat) : Option Nat :=
  match c.setpoint with
  | .set n => some (clampInt 160 280 n)
  | .clear => none
  | _ => old

/-- The candidate (R15): changes applied, flags settled, figures clamped. -/
def candidate (comm : Commission) (c : ChangeWire) (f : Fixed) : Fixed :=
  clampFixed comm <| settleFlags
    { ref := f.ref
      start := c.start.apply f.start
      stop := c.stop.apply f.stop
      first := c.first.apply f.first
      span := c.span.apply f.span
      kind := changedKind c f.kind
      headcount := c.headcount.apply f.headcount
      scene := c.scene.applyOpt f.scene
      setpoint := changedSetpoint c f.setpoint
      lead := c.lead.applyOpt f.lead
      held := c.held.apply f.held
      exempt := c.exempt.apply f.exempt }

/-- A field that an active entry keeps would change (R18). -/
def altersActive (f g : Fixed) : Bool :=
  f.start != g.start || f.first != g.first || f.span != g.span || f.kind != g.kind
    || f.lead != g.lead || f.exempt != g.exempt

/-- The request sets the end of an active entry to a minute at or before now (R19). -/
def endsNow (s : State) (c : ChangeWire) (e : Entry) : Bool :=
  match c.stop with
  | .set m => isActive e && m ≤ s.now
  | _ => false

def changeChecks (s : State) (c : ChangeWire) (e : Entry) : List (Bool × Reason) :=
  let g := candidate s.comm c e.fix
  [(badIndicators c || badKindChange c e.fix.kind || badSceneChange c, .outOfRange),
    (isActive e && altersActive e.fix g, .active), (badSegs s.segCount (fixedSegs g), .noSegment),
    (badDuration g && !endsNow s c e, .badDuration), (!isActive e && isPast s g, .past),
    (inLoad s e.fix.start || inLoad s g.start, .loading),
    (s.bt.table.any (fun x => x.fix.ref != e.fix.ref && overlaps g x.fix), .overlap)]

/-- The entry goes back to PLANNED (R17). -/
def State.backToPlanned (s : State) (e : Entry) : State :=
  let s1 := s.mapVolatile e.fix.ref fun _ => Volatile.planned
  let s2 := if e.vol.state == .ready then s1.notify (.notReady e.fix.ref .changed) else s1
  s2.raise (.entryStateChange e.fix.ref (entrySegs e) false)

/-- The live copies reloaded where the derived values have altered (R20). -/
def State.reload (s : State) (e : Entry) (g : Fixed) : State :=
  let moved := storedSetpoint s.comm e.fix != storedSetpoint s.comm g
  let lit := bookedScene s.comm e.fix != bookedScene s.comm g
  let s1 := if moved then
      (s.mapVolatile e.fix.ref fun v =>
        { v with liveSetpoint := some (storedSetpoint s.comm g) }).alSetpointMoved e.fix.ref
    else s
  if lit then
    (s1.mapVolatile e.fix.ref fun v =>
      { v with currentScene := some (bookedScene s.comm g), savedScene := none }).raise
      (.sceneChange e.fix.ref)
  else s1

/-- An OVERRUN entry given a new end that lies ahead returns to IN_SESSION (R18); an end left at its
value, or set to it, is no new end [16]. -/
def State.resumeSession (s : State) (e : Entry) (g : Fixed) : State :=
  if e.vol.state == .overrun && e.fix.stop != g.stop && s.now < g.stop then
    (s.mapVolatile e.fix.ref fun v => { v with state := .inSession }).raise
      (.entryStateChange e.fix.ref (entrySegs e) false)
  else s

/-- The entry moves in time or place (R17). -/
def movesEntry (f g : Fixed) : Bool := f.start != g.start || f.first != g.first || f.span != g.span

/-- An accepted change taken by the entry as it stood (R16 to R20). -/
def State.applyChange (s : State) (c : ChangeWire) (e : Entry) : State :=
  let g := candidate s.comm c e.fix
  let s1 := s.replaceFixed e g
  match e.vol.state with
  | .planned => s1
  | .preparing | .ready => if movesEntry e.fix g then s1.backToPlanned e else s1.reload e g
  | .inSession | .overrun =>
    let s2 := s1.reload e g
    let s3 := if e.fix.headcount != g.headcount then
        s2.raise (.headcountChange e.fix.ref (entrySegs e)) else s2
    if endsNow s c e then
      match s3.entry? e.fix.ref with
      | some x => s3.endSession x .supervisor
      | none => s3
    else s3.resumeSession e g

def State.bookChange (c : ChangeWire) (s : State) : Answered :=
  match s.entry? c.ref with
  | none => refuse s .notFound
  | some e =>
    if allKept c then answerOk s
    else judged s (changeChecks s c e) fun s => answerOk (s.applyChange c e)

/-! ### BOOK CANCEL (R21) -/

def State.bookCancel (p : Nat × Bool) (s : State) : Answered :=
  match s.entry? p.1 with
  | none => refuse s .notFound
  | some e =>
    if inLoad s e.fix.start then refuse s .loading
    else if isActive e then
      if p.2 then answerOk (s.endSession e .supervisor) else refuse s .active
    else answerOk ((s.dropEntry e.fix.ref).reportRemoval e)

/-! ### Reading the table (R22 to R24) -/

def keyOf (e : Entry) : Key := ⟨e.fix.start, e.fix.ref⟩

/-- The entry's key follows a key in table order. -/
def follows (k : Key) (e : Entry) : Bool :=
  k.start < e.fix.start || (k.start == e.fix.start && k.ref < e.fix.ref)

def State.bookFind (ref : Nat) (s : State) : Answered :=
  match s.entry? ref with
  | some e => (s, .ok, entryBytes s.comm e)
  | none => refuse s .notFound

/-- The reply with an entry, the book-read cursor set to it. -/
def State.returnEntry (s : State) (found : Option Entry) : Answered :=
  match found with
  | some e => ({ s with wp := { s.wp with cursor := some (keyOf e) } }, .ok, entryBytes s.comm e)
  | none => refuse s .notFound

def State.bookFirst (minute : Nat) (s : State) : Answered :=
  s.returnEntry (s.bt.table.find? fun e => minute ≤ e.fix.start)

def State.bookNext (_ : Unit) (s : State) : Answered :=
  match s.wp.cursor with
  | none => refuse s .noCursor
  | some k => s.returnEntry (s.bt.table.find? (follows k))

/-! ### Meanings -/

/-- BOOK_ADD (R14). -/
def execBookAdd (p : Req FixedWire) (s : State) : Host.Outcome State Fault Refusal :=
  .next (s.request 0x10 (ofReq p State.bookAdd))

/-- BOOK_CHANGE (R15 to R20, R179). -/
def execBookChange (p : Req ChangeWire) (s : State) : Host.Outcome State Fault Refusal :=
  .next (s.request 0x11 (ofReq p State.bookChange))

/-- BOOK_CANCEL (R21). -/
def execBookCancel (p : Req (Nat × Bool)) (s : State) : Host.Outcome State Fault Refusal :=
  .next (s.request 0x12 (ofReq p State.bookCancel))

/-- BOOK_FIND (R22). -/
def execBookFind (p : Req Nat) (s : State) : Host.Outcome State Fault Refusal :=
  .next (s.request 0x13 (ofReq p State.bookFind))

/-- BOOK_FIRST (R23). -/
def execBookFirst (p : Req Nat) (s : State) : Host.Outcome State Fault Refusal :=
  .next (s.request 0x14 (ofReq p State.bookFirst))

/-- BOOK_NEXT (R24). -/
def execBookNext (p : Req Unit) (s : State) : Host.Outcome State Fault Refusal :=
  .next (s.request 0x15 (ofReq p State.bookNext))

end Sys2Proof.Machine
end

