-- ==== Sys2Proof/Machine/Loads.lean ====
section
/-! DEFINITION. LB and the commit of a load (chapter 3). -/

namespace Sys2Proof.Machine

def idleTime : Nat := Config.seconds 60

def State.closeLoad (s : State) : State := { s with load := none }

/-! ### Opening and staging (R57, R58) -/

def State.loadOpen (p : Nat × Nat) (s : State) : Answered :=
  judged s [(!s.inRun, .wrongMode), (s.load.isSome, .loading), (p.2 ≤ p.1, .badRange)] fun s =>
    answerOk { s with load := some ⟨p.1, p.2, [], idleTime⟩ }

def stageChecks (s : State) (l : Load) (w : FixedWire) : List (Bool × Reason) :=
  let f := offered s.comm w
  [(badOffer w || !inLoad s f.start, .outOfRange), (badSegs s.segCount (fixedSegs f), .noSegment),
    (badDuration f, .badDuration), (isPast s f, .past),
    (l.staged.any (fun x => x.ref == f.ref), .duplicate), (l.staged.any (overlaps f), .overlap),
    (Config.stagingCapacity ≤ l.staged.length, .full)]

def State.loadEntry (w : FixedWire) (s : State) : Answered :=
  match s.load with
  | none => refuse s .noLoad
  | some l =>
    judged s (stageChecks s l w) fun s =>
      let staged := insertFixed (offered s.comm w) l.staged
      ({ s with load := some { l with staged := staged, idle := idleTime } }, .ok, be 1 staged.length)

/-! ### The commit (R62 to R65) -/

/-- Marked for removal (R62). -/
def State.marked (s : State) (e : Entry) : Bool :=
  inLoad s e.fix.start && e.vol.state == .planned && e.fix.kind != .adhoc

/-- A conflict with a kept entry (R63). -/
def conflicts (kept : List Entry) (f : Fixed) : Bool :=
  kept.any fun e => overlaps f e.fix || e.fix.ref == f.ref

/-- The figures of a commit as judged against the table as it stands. -/
structure Commit where
  kept : List Entry
  removed : Nat
  past : Nat
  conflict : Nat
  survivors : List Fixed
  deriving DecidableEq, Repr

def State.judgeCommit (s : State) (l : Load) : Commit :=
  let kept := s.bt.table.filter fun e => !s.marked e
  let ahead := l.staged.filter fun f => !isPast s f
  { kept := kept
    removed := (s.bt.table.filter s.marked).length
    past := (l.staged.filter (isPast s)).length
    conflict := (ahead.filter (conflicts kept)).length
    survivors := ahead.filter fun f => !conflicts kept f }

def State.loadClose (_ : Unit) (s : State) : Answered :=
  match s.load with
  | none => refuse s .noLoad
  | some l =>
    let c := s.judgeCommit l
    let added := c.survivors.length
    if Config.tableCapacity < c.kept.length + added then
      refuse { s with load := some { l with idle := idleTime } } .full
    else
      let table := c.survivors.foldl (fun t f => insertEntry ⟨f, Volatile.planned⟩ t) c.kept
      let s1 := (s.setTable table).notify (.loadDone l.lo l.hi c.removed added c.past c.conflict)
      (s1.closeLoad, .ok, be 1 c.removed ++ be 1 added ++ be 1 c.past ++ be 1 c.conflict)

/-! ### Aborting (R59, R67, R68) -/

def State.loadAbort (_ : Unit) (s : State) : Answered :=
  match s.load with
  | none => refuse s .noLoad
  | some _ => answerOk s.closeLoad

/-- The load discarded with its notice. -/
def State.abortLoad (s : State) (cause : AbortCause) : State :=
  match s.load with
  | none => s
  | some l => (s.closeLoad).notify (.loadAborted l.lo l.hi cause l.staged.length)

/-! ### Meanings -/

/-- LOAD_OPEN (R57). -/
def execLoadOpen (p : Req (Nat × Nat)) (s : State) : Host.Outcome State Fault Refusal :=
  .next (s.request 0x20 (ofReq p State.loadOpen))

/-- LOAD_ENTRY (R58). -/
def execLoadEntry (p : Req FixedWire) (s : State) : Host.Outcome State Fault Refusal :=
  .next (s.request 0x21 (ofReq p State.loadEntry))

/-- LOAD_CLOSE (R62 to R65). -/
def execLoadClose (p : Req Unit) (s : State) : Host.Outcome State Fault Refusal :=
  .next (s.request 0x22 (ofReq p State.loadClose))

/-- LOAD_ABORT (R67). -/
def execLoadAbort (p : Req Unit) (s : State) : Host.Outcome State Fault Refusal :=
  .next (s.request 0x23 (ofReq p State.loadAbort))

/-- LOAD_IDLE_TIMEOUT (R59): the timer runs while a load is open. -/
def execLoadIdleTimeout (s : State) : Host.Outcome State Fault Refusal :=
  .next (s.event .loadIdleTimeout fun s => s.abortLoad .timeout)

end Sys2Proof.Machine
end

