-- ==== Sys2Proof/Machine/Reads.lean ====
section
/-! DEFINITION. The requests of NQ, WP's own read, AD's two requests and the commissioning records
(R174, R176, R141, R134, R188, R189). -/

namespace Sys2Proof.Machine

def State.suiteRead (_ : Unit) (s : State) : Answered := (s, .ok, s.suiteBytes)

/-- NOTICE TAKE (R176). -/
def State.noticeTake (_ : Unit) (s : State) : Answered :=
  match s.nq.list with
  | [] => refuse s .notFound
  | n :: rest =>
    ({ s with nq := { s.nq with list := rest, overflow := false } }, .ok,
      flagByte s.nq.overflow :: be 1 rest.length ++ noticeBytes n)

def State.demandRead (_ : Unit) (s : State) : Answered := (s, .ok, demandBytes s.ad)

/-- GRANT (R134). -/
def State.grantRequest (g : Nat) (s : State) : Answered :=
  (s.takeGrant g, .ok, be 2 (s.takeGrant g).ad.grant ++ be 2 (s.takeGrant g).ad.total)

/-! ### Commissioning records (R180, R188, R189) -/

/-- The pending copy of a record's place. -/
def State.pendingAt (s : State) (selector : Nat) : Option Record :=
  s.cs.pending.find? fun r => r.selector == selector

def recordBytes (r : Record) : List Byte := r.values.flatMap (be 2)

def State.commissionRead (selector : Nat) (s : State) : Answered :=
  if 24 < selector then refuse s .outOfRange
  else
    let r := (s.pendingAt selector).getD (s.comm.recordAt selector)
    (s, .ok, be 1 selector ++ recordBytes r)

/-- The pending copy replaced or created (R189). -/
def State.putPending (s : State) (r : Record) : State :=
  { s with cs := { s.cs with
      pending := s.cs.pending.filter (fun x => x.selector != r.selector) ++ [r] } }

/-- COMMISSION WRITE: length and selector (R180), mode, fields (R189). The bad field's number is one
byte [30]; a refused selector names none [22]. -/
def State.commissionWrite (p : Nat × List Nat) (s : State) : Answered :=
  match fieldCount p.1 with
  | none => refuse s .outOfRange
  | some n =>
    if p.2.length ≠ n then refuse s .badLength
    else if s.inRun then refuse s .wrongMode
    else
      match firstBadField 1 p.2 (fieldRanges p.1 p.2) with
      | some pos => (s, .outOfRange, be 1 pos)
      | none => answerOk (s.putPending (Record.ofValues p.1 p.2))

/-! ### Meanings -/

/-- SUITE_READ (R174). -/
def execSuiteRead (p : Req Unit) (s : State) : Host.Outcome State Fault Refusal :=
  .next (s.request 0x30 (ofReq p State.suiteRead))

/-- NOTICE_TAKE (R176). -/
def execNoticeTake (p : Req Unit) (s : State) : Host.Outcome State Fault Refusal :=
  .next (s.request 0x31 (ofReq p State.noticeTake))

/-- DEMAND_READ (R141). -/
def execDemandRead (p : Req Unit) (s : State) : Host.Outcome State Fault Refusal :=
  .next (s.request 0x40 (ofReq p State.demandRead))

/-- GRANT (R134). -/
def execGrant (p : Req Nat) (s : State) : Host.Outcome State Fault Refusal :=
  .next (s.request 0x41 (ofReq p State.grantRequest))

/-- COMMISSION_READ (R188, R180). -/
def execCommissionRead (p : Req Nat) (s : State) : Host.Outcome State Fault Refusal :=
  .next (s.request 0x51 (ofReq p State.commissionRead))

/-- COMMISSION_WRITE (R189, R180). -/
def execCommissionWrite (p : Req (Nat × List Nat)) (s : State) : Host.Outcome State Fault Refusal :=
  .next (s.request 0x52 (ofReq p State.commissionWrite))

end Sys2Proof.Machine
end

