-- ==== Sys2Proof/Machine/Modes.lean ====
section
/-! DEFINITION. The clock's arrivals (R28, R29), SERVICE entry and exit (R190, R191), the lock (R192),
and restart with its triggers (R193). -/

namespace Sys2Proof.Machine

/-! ### The clock (R27 to R29) -/

/-- An accepted TIME SET: the counts, the valid flag, the loop timer stopped (R114), and the re-entry
evaluation where it is due. A rollover that was due does not occur (R29). That the running second begins
anew (ticks 0) is the model's choice [3]: R29 sets the two counts and says nothing of the fraction. -/
def State.applyTime (s : State) (minutes seconds : Nat) : State :=
  let due := !s.tb.valid || s.tb.minutes != minutes
  let tb : Tb := ⟨minutes, seconds, true, 0, false⟩
  let s1 := { s with tb := tb, al := { s.al with loopTimer := none } }
  if due && s1.inRun then s1.reenter else s1

def State.timeSet (p : Nat × Nat) (s : State) : Answered :=
  if 59 < p.2 then refuse s .outOfRange else answerOk (s.applyTime p.1 p.2)

/-- A broadcast TIME SET is acted on and never answered; a bad length or seconds count is ignored
(R29, R170). -/
def State.broadcastTime (s : State) (p : Req (Nat × Nat)) : State :=
  if s.alive && s.wp.held.isNone then
    let s1 := { s with wp := { s.wp with rx := .hunt } }
    match p with
    | .fields t => (if 59 < t.2 then s1 else s1.applyTime t.1 t.2).drive
    | .wrongLength _ => s1
  else s

/-- The rollover of the seconds count and the minute event (R27, R28): AL's round and BT's steps; in
SERVICE BT takes none. AL is taken first [11]. -/
def State.minuteEvent (s : State) : State :=
  if s.tb.valid then
    let tb : Tb := ⟨min Config.lastMinute (s.tb.minutes + 1), 0, true, 0, false⟩
    let s1 := ({ s with tb := tb }).evalAll
    if s1.inRun then s1.btMinute else s1
  else s

/-! ### SERVICE entry (R190) -/

/-- The settled reports on their way reach BT before the loops park [18]. -/
def State.flushSettled (s : State) : State :=
  let isSettled (c : Instr) : Bool :=
    match c with
    | .settledReport _ => true
    | .lostSettledReport _ => true
    | _ => false
  let mine := s.reports.filter isSettled
  let s1 := { s with reports := s.reports.filter fun c => !isSettled c }
  mine.foldl (fun s c =>
    match c with
    | .settledReport g => s.takeSettled g
    | .lostSettledReport g => s.takeLostSettled g
    | _ => s) s1

/-- Every active entry ends with the cause, in table order [46]. -/
def State.endEvery (s : State) (cause : EndCause) : State :=
  s.forEntries ((s.bt.table.filter isActive).map (·.fix.ref)) fun e s => s.endSession e cause

/-- SERVICE entry of every block. The order of their notices, SESSION_ENDED, then LOAD_ABORTED, then the
NOT_READY of the parked loops, is the model's choice [36]: R54, R68 and R190 give none. -/
def State.enterService (s : State) : State :=
  let s1 := s.flushSettled
  let s2 := { s1 with cs := { s1.cs with mode := .service } }
  ((((s2.endEvery .service).abortLoad .service).alService).adService).lbuService

def State.modeService (force : Bool) (s : State) : Answered :=
  if !s.inRun then answerOk s
  else
    judged s [(!s.cs.serviceLine, .wrongMode), (s.cs.lock, .locked),
      (s.bt.table.any isActive && !force, .active)] fun s => answerOk s.enterService

/-! ### SERVICE exit (R191) -/

/-- Pending records taken into effect (R188). -/
def State.takePending (s : State) : State :=
  { s with cs := { s.cs with effective := s.cs.effective.takePending s.cs.pending, pending := [] } }

/-- Stored headcounts clamped against the seats now in effect (R10). -/
def State.clampHeadcounts (s : State) : State :=
  s.setTable <| s.bt.table.map fun e =>
    { e with fix := { e.fix with
        headcount := clampHeadcount s.comm (entrySegs e) e.fix.headcount } }

/-- OT's occupancy records as SERVICE ends (R106, steps 1 to 3). -/
def State.otLeave (s : State) (oldCount : Nat) : State :=
  let kept (i : Seg) : Bool := i.val < oldCount && s.configured i
  let segs := s.ot.segs.mapIdx fun i o => if kept i then o else Occ.initial
  { s with ot := { s.ot with segs := segs } }

/-- The cursor of an address whose segment is no longer configured is cleared (R187). -/
def State.rlLeave (s : State) : State :=
  let cursors := s.rl.cursors.mapIdx fun i k => if s.configured i then k else none
  { s with rl := { s.rl with cursors := cursors } }

/-- SERVICE exit: records, mode, every block's rebuild, LM's exit report, the re-entry evaluation. -/
def State.leaveService (s : State) : State :=
  let oldCount := s.segCount
  let s1 := s.takePending
  let s2 := { s1 with cs := { s1.cs with mode := .run } }
  let s3 := (((((s2.clampHeadcounts.siExit oldCount).otLeave oldCount).alLeave).adLeave
    oldCount).lbuLeave oldCount).rlLeave
  s3.lmExit.reenterExit

def State.modeRun (_ : Bool) (s : State) : Answered :=
  if s.inRun then answerOk s else answerOk s.leaveService

/-- MODE SET LOCK, and a mode code that is not assigned (R192, R172) [31]. -/
def State.modeLock (p : Nat × Bool) (s : State) : Answered :=
  if 2 < p.1 then refuse s .outOfRange
  else if s.inRun then answerOk { s with cs := { s.cs with lock := true } }
  else refuse s .wrongMode

/-- Release of the service line (R191): in SERVICE it makes the exit, and the bit rate follows at
once (R169). -/
def State.lineReleased (s : State) : State :=
  if s.inRun then s
  else
    let s1 := s.leaveService
    { s1 with wp := { s1.wp with bitRate := s1.suite.bitRate } }

def State.setServiceLine (s : State) (asserted : Bool) : State :=
  { s with cs := { s.cs with serviceLine := asserted } }

/-! ### Restart (R193) -/

/-- The address read from the straps (R170). -/
def addressOf (straps : Nat) : Nat := if straps % 64 = 0 ∨ straps % 64 = 63 then 62 else straps % 64

def Tb.initial : Tb := ⟨0, 0, false, 0, false⟩
def Rl.initial : Rl := ⟨.idle, [], Four.all none, none, none, [], false⟩

/-- The clock as a restart leaves it (R27). -/
def State.clockAfter (s : State) (cause : RestartCause) : Tb :=
  match cause with
  | .request => s.tb
  | _ => Tb.initial

/-- The parts of the state that a restart sets without reading another block (R13, R27, R56, R169,
R170, R177, R181, R188, R190). -/
def State.cleared (s : State) (cause : RestartCause) : State :=
  let comm := s.cs.effective.takePending s.cs.pending
  let table := s.bt.stored.map fun f => (⟨f, Volatile.planned⟩ : Entry)
  let nq : Nq := ⟨[], false, 0⟩
  let sent := if cause == .request then s.wp.lastSent else none
  let wp : Wp := ⟨.hunt, addressOf s.pins.straps, comm.suite.bitRate, none, none, sent, none⟩
  { s with
    tb := s.clockAfter cause
    bt := ⟨table, s.bt.stored, Config.adhocFirst, s.bt.rates⟩
    load := none
    nq := nq
    cs := ⟨comm, [], .run, false, s.cs.serviceLine⟩
    wp := wp
    rl := Rl.initial
    tenth := false
    reports := [] }

/-- OT at every restart (R98, R107). -/
def State.otRestart (s : State) : State :=
  let groups := s.lm.groups.map fun r => (⟨r.segs, .none, false, none⟩ : OtGroup)
  { s with ot := ⟨Four.all Occ.initial, groups⟩ }

/-- SI's report of every daylight source at restart (R107). -/
def State.reportSources (s : State) : State :=
  s.raiseAll (s.configuredSegs.map fun i => .daylightSourceReport i none)

/-- A restart: RESTARTED first, every block's restart values, and after a RESTART request with the
clock valid the re-entry evaluation (R52, R193). -/
def State.restart (s : State) (cause : RestartCause) : State :=
  let s1 := (((s.cleared cause).notify (.restarted cause)).lmRestart).siRestart
  let s2 := ((s1.otRestart.lbuRestart.reportSources).alRestart).adRestart
  (if s2.tb.valid then s2.reenter else s2).drive

/-! ### Outputs and ports while the part is not running (R193) -/

/-- Every field output at 0, every blind motor stopped. -/
def State.holdOutputs (s : State) : State := { s with os := Four.all Outs.zero }

/-- Neither port is driven: a request held and a reply on its way are gone. A bit rate that waits for the end
of a reply so lost goes on waiting for the next one [7]. -/
def State.dropPorts (s : State) : State :=
  { s with
    wp := { s.wp with rx := .hunt, held := none, reply := none }
    rl := { s.rl with state := .idle, frame := [], reply := none, breakEcho := false } }

/-- A powered part held in reset keeps its outputs at 0. -/
def State.driveOrHold (s : State) : State := if s.alive then s.drive else s.holdOutputs

def State.setPins (s : State) (powered resetLow : Bool) : State :=
  { s with pins := { s.pins with powered := powered, resetLow := resetLow } }

/-- RESTART (R193, R171): the reply is sent first, then the part restarts. -/
def State.restartRequest (s : State) (p : Req Unit) : State :=
  match p with
  | .wrongLength _ => s.request 0x5F fun s => refuse s .badLength
  | .fields _ =>
    if s.alive && s.wp.held.isNone then
      let sent := s.replyOf 0x5F .ok []
      ({ s with wp := { s.wp with lastSent := some sent } }).restart .request
    else s

/-! ### Meanings -/

/-- POWER_ON (R193). -/
def execPowerOn (s : State) : Host.Outcome State Fault Refusal :=
  .next ((s.setPins true s.pins.resetLow).restart .power).driveOrHold

/-- RESET_LINE_ASSERT (R193). -/
def execResetLineAssert (s : State) : Host.Outcome State Fault Refusal :=
  .next ((s.setPins s.pins.powered true).dropPorts).holdOutputs

/-- RESET_LINE_RELEASE (R193): a line held low for 1 ms or more restarts the part; a shorter pulse only
ends the hold of the outputs [7]. -/
def execResetLineRelease (lowMicros : Nat) (s : State) : Host.Outcome State Fault Refusal :=
  let s1 := s.setPins s.pins.powered false
  .next (if s1.alive && 1000 ≤ lowMicros then s1.restart .line else s1.driveOrHold)

/-- POWER_LOSS (R12): writes to non-volatile storage are whole in every state [25]; the outputs fall and
the ports are silent. -/
def execPowerLoss (s : State) : Host.Outcome State Fault Refusal :=
  .next ((s.setPins false s.pins.resetLow).dropPorts).holdOutputs

/-- RESTART (R193). -/
def execRestart (p : Req Unit) (s : State) : Host.Outcome State Fault Refusal :=
  .next (s.restartRequest p)

/-- TIME_SET (R29). -/
def execTimeSet (broadcast : Bool) (p : Req (Nat × Nat)) (s : State) :
    Host.Outcome State Fault Refusal :=
  .next (if broadcast then s.broadcastTime p else s.request 0x01 (ofReq p State.timeSet))

/-- MINUTE_EVENT (R28, R50, R114). -/
def execMinuteEvent (s : State) : Host.Outcome State Fault Refusal :=
  .next (s.event .minuteEvent fun s => s.minuteEvent)

/-- MODE_SET_SERVICE (R190). -/
def execModeSetService (p : Req Bool) (s : State) : Host.Outcome State Fault Refusal :=
  .next (s.request 0x50 (ofReq p State.modeService))

/-- MODE_SET_RUN (R191). -/
def execModeSetRun (p : Req Bool) (s : State) : Host.Outcome State Fault Refusal :=
  .next (s.request 0x50 (ofReq p State.modeRun))

/-- MODE_SET_LOCK (R192). -/
def execModeSetLock (p : Req (Nat × Bool)) (s : State) : Host.Outcome State Fault Refusal :=
  .next (s.request 0x50 (ofReq p State.modeLock))

/-- SERVICE_LINE_ASSERT (R190): the level is noted and nothing else changes. -/
def execServiceLineAssert (s : State) : Host.Outcome State Fault Refusal :=
  .next (s.setServiceLine true)

/-- SERVICE_LINE_RELEASE (R191). -/
def execServiceLineRelease (s : State) : Host.Outcome State Fault Refusal :=
  .next ((s.setServiceLine false).event .serviceLineRelease fun s => s.lineReleased)

end Sys2Proof.Machine
end

