-- ==== Sys2Proof/Machine/Panels.lean ====
section
/-! DEFINITION. RL and the panel commands (chapters 2, 6, 8 and 10): the wrapper every complete panel
frame runs in, BT's commands, ADJUST, the scene and blind commands, STATUS and the UPCOMING reads. -/

namespace Sys2Proof.Machine

/-! ### A complete frame (R183 to R185) -/

/-- The bytes of a panel frame. -/
def frameBytes (i : Seg) (code : Nat) (payload : List Byte) : List Byte :=
  be 1 (0xA0 + i) ++ be 1 code ++ be 1 payload.length ++ payload

/-- RL takes every byte of a frame and echoes each (R181); the state is REPLY from its completion
(R184). -/
def State.echoFrame (s : State) (bytes : List Byte) : State :=
  { s with rl := { s.rl with state := .reply, frame := [], echo := bytes, breakEcho := false } }

/-- The reply waits to be sent; a refusal carries no payload (R184). -/
def linkReply (a : Answered) : State :=
  { a.1 with rl := { a.1.rl with reply := some ⟨a.2.1, a.2.2⟩ } }

/-- LM's group for a panel's segment (R185). -/
def State.panelGroup (s : State) (i : Seg) : GroupRec :=
  (s.groupOf? i).getD (GroupRec.initial ⟨i, 1⟩)

/-- A complete panel frame: the segment check, the press, the command, the reply (R183 to R185). A
frame that would complete while a reply is in progress is not received [5]. A frame received whole says
that the 2 ms in which RL echoes a break are over [44]. -/
def State.panel (s : State) (i : Seg) (bytes : List Byte) (act : State → Answered) : State :=
  if s.alive && s.rl.state != .reply then
    let s1 := s.echoFrame bytes
    if s1.configured i then (linkReply (act (s1.presence i))).drive
    else linkReply (refuse s1 .noSegment)
  else s

/-- A command that SERVICE refuses before any other check (R185, R190). -/
def inRunOnly (act : State → Answered) (s : State) : Answered :=
  if s.inRun then act s else refuse s .wrongMode

/-- The active entry that governs a group now, by BT's own table [9]. -/
def State.activeGovernor (s : State) (g : Segs) : Option Entry :=
  (governingOf s.bt.table g).filter isActive

/-! ### BEGIN (R41, R42, R6) -/

/-- The entry a BEGIN brings forward (R41, step 2). -/
def State.toBringForward (s : State) (i : Seg) : Option Entry :=
  s.bt.table.find? fun e => segHas (entrySegs e) i && !isActive e && e.fix.start ≤ s.now + 30

/-- The k-th reference from the counter on, round the ad-hoc range. -/
def adhocRef (counter k : Nat) : Nat :=
  if counter + k ≤ Config.adhocLast then counter + k
  else Config.adhocFirst + (counter + k - (Config.adhocLast + 1))

/-- The first reference from the counter on that no live entry holds (R6). -/
def State.freeRef (s : State) : Nat :=
  (((List.range (Config.tableCapacity + 1)).map (adhocRef s.bt.nextAdhoc)).find? fun r =>
    (s.entry? r).isNone).getD s.bt.nextAdhoc

/-- The end of an ad-hoc entry (R42). -/
def State.adhocEnd (s : State) (g : Segs) : Nat :=
  ((s.bt.table.filter fun e => segsMeet (entrySegs e) g && s.now < e.fix.stop).map
    (·.fix.start)).foldl min (s.now + 60)

/-- The fixed fields of an ad-hoc entry (R42). -/
def State.adhocFixed (s : State) (g : Segs) : Fixed where
  ref := s.freeRef
  start := s.now
  stop := s.adhocEnd g
  first := g.first
  span := g.span
  kind := .adhoc
  headcount := clampHeadcount s.comm g s.suite.walkInHeadcount
  scene := none
  setpoint := none
  lead := none
  held := false
  exempt := false

/-- The live copies an ad-hoc entry takes over from the group's walk-in record (R42). -/
def adhocVolatile (w : Option WalkIn) : Volatile :=
  match w with
  | some w =>
    { Volatile.planned with
      liveSetpoint := some w.setpoint, currentScene := some w.scene, savedScene := w.saved }
  | none => Volatile.planned

def State.createAdhoc (s : State) (g : Segs) : Answered :=
  judged s [(s.adhocEnd g < s.now + 10, .conflict),
    (Config.tableCapacity ≤ s.bt.table.length, .full)] fun s =>
    let e : Entry := ⟨s.adhocFixed g, adhocVolatile (s.walkIn? g)⟩
    let s1 := { s with bt := { s.bt with nextAdhoc := adhocRef e.fix.ref 1 } }
    ((s1.addEntry e).startSession e .panel, .ok, be 4 e.fix.ref)

def State.begin_ (i : Seg) (s : State) : Answered :=
  let g := (s.panelGroup i).segs
  if !s.tb.valid then refuse s .noClock
  else
    match s.activeGovernor g with
    | some e => (s, .ok, be 4 e.fix.ref)
    | none =>
      match s.toBringForward i with
      | some e =>
        if s.bt.table.any fun x => isActive x && segsMeet (entrySegs x) (entrySegs e)
        then refuse s .conflict
        else (s.startSession e .panel, .ok, be 4 e.fix.ref)
      | none => s.createAdhoc g

/-! ### END, EXTEND, HEADCOUNT (R47, R48, R51) -/

def State.end_ (i : Seg) (s : State) : Answered :=
  let g := (s.panelGroup i).segs
  match s.activeGovernor g with
  | some e => if e.fix.held then refuse s .held else answerOk (s.endSession e .panel)
  | none => answerOk (s.endWalkIn g)

/-- The end an EXTEND asks for (R48, step 4). -/
def extendedEnd (f : Fixed) (minutes : Nat) : Nat :=
  min (f.stop + clampNat 5 60 minutes) (f.start + 600)

def State.extend (i : Seg) (minutes : Nat) (s : State) : Answered :=
  match s.activeGovernor (s.panelGroup i).segs with
  | none => refuse s .noSession
  | some e =>
    let stop := extendedEnd e.fix minutes
    let f := { e.fix with stop := stop }
    let clash := s.bt.table.any fun x => x.fix.ref != e.fix.ref && overlaps f x.fix
    judged s [(e.fix.held, .held), (e.vol.state == .overrun, .limit), (stop ≤ e.fix.stop, .limit),
      (clash, .conflict)] fun s => (s.replaceFixed e f, .ok, be 4 stop)

def State.headcount (i : Seg) (count : Nat) (s : State) : Answered :=
  match s.activeGovernor (s.panelGroup i).segs with
  | none => refuse s .noSession
  | some e =>
    let n := clampHeadcount s.comm (entrySegs e) count
    let s1 := s.mapVolatile e.fix.ref fun v =>
      { v with panelHeadcount := some n, peakHeadcount := some (max n (v.peakHeadcount.getD 0)) }
    (s1.raise (.headcountChange e.fix.ref (entrySegs e)), .ok, be 2 n)

/-! ### ADJUST, SCENE, RESTORE, BLIND (R126, R146, R147, R158) -/

def State.panelAdjust (i : Seg) (d : Int) (s : State) : Answered :=
  match s.adjust (s.panelGroup i) d with
  | (s1, some p) => (s1, .ok, be 2 p)
  | (s1, none) => refuse s1 .noSession

/-- The group's governing entry, by LM's record, is an active EXAM entry (R26). -/
def State.examRuns (s : State) (g : GroupRec) : Bool :=
  match g.governing.bind s.entry? with
  | some e => isActive e && e.fix.kind == .exam
  | none => false

def sceneReply (r : State × Option Nat) : Answered :=
  match r with
  | (s, some i) => (s, .ok, be 1 i)
  | (s, none) => refuse s .noSession

def State.sceneCommand (i : Seg) (n : Nat) (s : State) : Answered :=
  let g := s.panelGroup i
  judged s [(15 < n, .outOfRange), (s.examRuns g && !(s.comm.scene n).examAllowed, .held)] fun s =>
    sceneReply (s.panelScene g fun current saved _ => chooseScene s.comm n current saved)

def State.restore (i : Seg) (s : State) : Answered :=
  sceneReply (s.panelScene (s.panelGroup i) fun _ saved fallback => restoreScene saved fallback)

/-- BLIND with a target; a request code that names no request is refused [31]. -/
def State.blindTo (i : Seg) (request target : Nat) (s : State) : Answered :=
  if request ≠ 0 then refuse s .outOfRange
  else answerOk (s.blindRequest (s.panelGroup i).segs fun _ => some (min 1000 target))

def State.blindHalt (i : Seg) (s : State) : Answered :=
  answerOk (s.blindRequest (s.panelGroup i).segs fun b => some b.position)

def State.blindFree (i : Seg) (s : State) : Answered :=
  answerOk (s.blindRequest (s.panelGroup i).segs fun _ => none)

/-! ### STATUS (R186) -/

/-- The applied scene as STATUS shows it: from LM's level, BT's entry and OT's record [10]. -/
def State.readScene (s : State) (g : GroupRec) : Option Nat :=
  match g.level with
  | .session => (g.governing.bind s.entry?).bind (·.vol.currentScene)
  | _ => (s.walkIn? g.segs).map (·.scene)

/-- The STATUS payload, 17 bytes. -/
def State.statusBytes (s : State) (g : GroupRec) : List Byte :=
  let e := g.governing.bind s.entry?
  let l := (s.loop? g.segs).getD (Loop.initial g.segs 0)
  be 1 (levelCode g.level) ++ be 4 (g.governing.getD 0)
    ++ be 1 ((e.map fun x => kindCode x.fix.kind).getD 0) ++ be 4 ((e.map (·.fix.stop)).getD 0)
    ++ be 2 ((s.readSetpoint g).getD 0) ++ be 1 ((s.readScene g).getD 0xFF) ++ [flagByte l.settled]
    ++ [flagByte l.temp.isSome] ++ beInt 2 (l.temp.getD 0)

def State.status (i : Seg) (s : State) : Answered := (s, .ok, s.statusBytes (s.panelGroup i))

/-! ### UPCOMING (R187) -/

/-- The entry concerns a segment. -/
def State.concerns (s : State) (i : Seg) (e : Entry) : Bool :=
  segHas (entrySegs e) i && (!s.tb.valid || s.now < e.fix.stop)

/-- The UPCOMING payload, 16 bytes. -/
def upcomingBytes (e : Entry) : List Byte :=
  be 4 e.fix.ref ++ be 1 (kindCode e.fix.kind) ++ be 4 e.fix.start ++ be 4 e.fix.stop
    ++ segsBytes (entrySegs e) ++ be 1 (stateCode e.vol.state)

def State.returnUpcoming (s : State) (i : Seg) (found : Option Entry) : Answered :=
  match found with
  | some e =>
    ({ s with rl := { s.rl with cursors := s.rl.cursors.set i (some (keyOf e)) } }, .ok,
      upcomingBytes e)
  | none => refuse s .notFound

def State.upcomingFirst (i : Seg) (s : State) : Answered :=
  s.returnUpcoming i (s.bt.table.find? (s.concerns i))

def State.upcomingNext (i : Seg) (s : State) : Answered :=
  match s.rl.cursors.get i with
  | none => refuse s .noCursor
  | some k => s.returnUpcoming i (s.bt.table.find? fun e => s.concerns i e && follows k e)

/-! ### A frame by its bytes (R183, R185) -/

/-- The fixed payload length of each panel command code 0x01 to 0x0B (R183); none if not listed. -/
def panelLength (code : Nat) : Option Nat :=
  match code with
  | 1 => some 0
  | 2 => some 0
  | 3 => some 1
  | 4 => some 2
  | 5 => some 1
  | 6 => some 1
  | 7 => some 0
  | 8 => some 3
  | 9 => some 0
  | 10 => some 0
  | 11 => some 0
  | _ => none

/-- BLIND by its request code, which the payload's first byte carries (R158, section 9.4). -/
def State.blindFrame (i : Seg) (payload : List Byte) (s : State) : Answered :=
  match unbe (payload.take 1) with
  | 1 => s.blindHalt i
  | 2 => s.blindFree i
  | r => s.blindTo i r (unbe (payload.drop 1))

/-- The owner's answer to a command code of the list with a payload of its length (R185). -/
def routed (i : Seg) (code : Nat) (payload : List Byte) : State → Answered :=
  match code with
  | 0x01 => inRunOnly (State.begin_ i)
  | 0x02 => inRunOnly (State.end_ i)
  | 0x03 => inRunOnly (State.extend i (unbe payload))
  | 0x04 => inRunOnly (State.headcount i (unbe payload))
  | 0x05 => inRunOnly (State.panelAdjust i (signedOf 1 (unbe payload)))
  | 0x06 => inRunOnly (State.sceneCommand i (unbe payload))
  | 0x07 => inRunOnly (State.restore i)
  | 0x08 => inRunOnly (State.blindFrame i payload)
  | 0x09 => State.status i
  | 0x0A => State.upcomingFirst i
  | _ => State.upcomingNext i

/-- Checks 2 and 3 of R183 on a frame's code and payload, then the routing of R185. -/
def frameAnswer (i : Seg) (code : Nat) (payload : List Byte) (s : State) : Answered :=
  match panelLength code with
  | none => refuse s .unknownFunction
  | some n => if payload.length = n then routed i code payload s else refuse s .badLength

/-- A complete frame taken by its bytes' meaning (R183 to R185). -/
def State.takePanelFrame (s : State) (i : Seg) (code : Nat) (payload : List Byte) : State :=
  s.panel i (frameBytes i code payload) (frameAnswer i code payload)

/-! ### Meanings -/

/-- BEGIN (R41, R42). -/
def execPanelBegin (i : Seg) (s : State) : Host.Outcome State Fault Refusal :=
  .next (s.panel i (frameBytes i 0x01 []) (inRunOnly (State.begin_ i)))

/-- END (R47, R105). -/
def execPanelEnd (i : Seg) (s : State) : Host.Outcome State Fault Refusal :=
  .next (s.panel i (frameBytes i 0x02 []) (inRunOnly (State.end_ i)))

/-- EXTEND (R48). -/
def execPanelExtend (i : Seg) (minutes : Nat) (s : State) : Host.Outcome State Fault Refusal :=
  .next (s.panel i (frameBytes i 0x03 (be 1 minutes)) (inRunOnly (State.extend i minutes)))

/-- HEADCOUNT (R51). -/
def execPanelHeadcount (i : Seg) (count : Nat) (s : State) : Host.Outcome State Fault Refusal :=
  .next (s.panel i (frameBytes i 0x04 (be 2 count)) (inRunOnly (State.headcount i count)))

/-- ADJUST (R126, R127). -/
def execPanelAdjust (i : Seg) (d : Int) (s : State) : Host.Outcome State Fault Refusal :=
  .next (s.panel i (frameBytes i 0x05 (beInt 1 d)) (inRunOnly (State.panelAdjust i d)))

/-- SCENE (R146, R26). -/
def execPanelScene (i : Seg) (n : Nat) (s : State) : Host.Outcome State Fault Refusal :=
  .next (s.panel i (frameBytes i 0x06 (be 1 n)) (inRunOnly (State.sceneCommand i n)))

/-- RESTORE (R147). -/
def execPanelRestore (i : Seg) (s : State) : Host.Outcome State Fault Refusal :=
  .next (s.panel i (frameBytes i 0x07 []) (inRunOnly (State.restore i)))

/-- BLIND_TARGET (R158). -/
def execBlindTarget (i : Seg) (request target : Nat) (s : State) : Host.Outcome State Fault Refusal :=
  .next (s.panel i (frameBytes i 0x08 (be 1 request ++ be 2 target))
    (inRunOnly (State.blindTo i request target)))

/-- BLIND_STOP (R158): the target bytes are carried and ignored. -/
def execBlindStop (i : Seg) (ignored : Nat) (s : State) : Host.Outcome State Fault Refusal :=
  .next (s.panel i (frameBytes i 0x08 (be 1 1 ++ be 2 ignored)) (inRunOnly (State.blindHalt i)))

/-- BLIND_AUTO (R158): the target bytes are carried and ignored. -/
def execBlindAuto (i : Seg) (ignored : Nat) (s : State) : Host.Outcome State Fault Refusal :=
  .next (s.panel i (frameBytes i 0x08 (be 1 2 ++ be 2 ignored)) (inRunOnly (State.blindFree i)))

/-- STATUS (R186). -/
def execPanelStatus (i : Seg) (s : State) : Host.Outcome State Fault Refusal :=
  .next (s.panel i (frameBytes i 0x09 []) (State.status i))

/-- UPCOMING_FIRST (R187). -/
def execUpcomingFirst (i : Seg) (s : State) : Host.Outcome State Fault Refusal :=
  .next (s.panel i (frameBytes i 0x0A []) (State.upcomingFirst i))

/-- UPCOMING_NEXT (R187). -/
def execUpcomingNext (i : Seg) (s : State) : Host.Outcome State Fault Refusal :=
  .next (s.panel i (frameBytes i 0x0B []) (State.upcomingNext i))

/-- PANEL_FRAME_REFUSED (R183); a frame that passes the three checks is routed like the row of its
command. -/
def execPanelFrameRefused (i : Seg) (code : Nat) (payload : List Byte) (s : State) :
    Host.Outcome State Fault Refusal :=
  .next (s.takePanelFrame i code payload)

end Sys2Proof.Machine
end

