-- ==== Sys2Proof/Machine/Link.lean ====
section
/-! DEFINITION. The events of the room link line (R181, R182, R184): RL's byte table, and what ends a frame
in progress or a reply. A row carries the bytes that came with its event; RECEIVE lies inside these
bytes [32]. -/

namespace Sys2Proof.Machine

/-! ### The byte table (R181) -/

/-- RL in a receive state with a frame in progress, the byte just received echoed. -/
def State.linkStore (s : State) (b : Byte) (state : RlState) (frame : List Byte) : State :=
  { s with rl := { s.rl with state := state, frame := frame, echo := s.rl.echo ++ [b] } }

/-- An address byte of a panel: 0xA0 to 0xA3. -/
def isPanelAddress (b : Byte) : Bool := 0xA0 ≤ b.toNat && b.toNat ≤ 0xA3

/-- The segment of a panel's address byte. -/
def panelSeg (b : Byte) : Seg := ⟨b.toNat % 4, Nat.mod_lt _ (by decide)⟩

/-- A byte that joins the frame in progress (R181): a length above 6 discards the frame, the last byte
completes it, and RL takes it under R183. -/
def State.linkJoin (s : State) (b : Byte) : State :=
  match s.rl.frame ++ [b] with
  | [a, code, len] =>
    if 6 < len.toNat then s.linkStore b .idle []
    else if len.toNat = 0 then s.takePanelFrame (panelSeg a) code.toNat []
    else s.linkStore b .receive [a, code, len]
  | a :: code :: len :: payload =>
    if len.toNat ≤ payload.length then s.takePanelFrame (panelSeg a) code.toNat payload
    else s.linkStore b .receive (a :: code :: len :: payload)
  | frame => s.linkStore b .receive frame

/-- RL takes a byte: no reply of its own is in progress (R184), and it is not echoing a break (R182). -/
def State.hears (s : State) : Bool := s.rl.state != .reply && !s.rl.breakEcho

/-- One byte at RL: the table of R181; in REPLY (R184) and while RL echoes a break (R182) it is
discarded without an echo. -/
def State.linkByte (s : State) (b : Byte) : State :=
  if s.hears then
    match s.rl.state with
    | .receive => s.linkJoin b
    | _ => if isPanelAddress b then s.linkStore b .receive [b] else s.linkStore b .idle []
  else s

/-- The bytes of a row, one after the other; what RL drives on the line for them is noted from here on. -/
def State.linkBytes (s : State) (bytes : List Byte) : State :=
  if s.hears then bytes.foldl State.linkByte { s with rl := { s.rl with echo := [] } } else s

/-! ### Ends of frames and replies -/

/-- RL back in IDLE with no frame and no reply. -/
def State.linkIdle (s : State) (echo : List Byte) (breakEcho : Bool) : State :=
  { s with rl :=
    { s.rl with
      state := .idle, frame := [], reply := none, echo := echo, breakEcho := breakEcho } }

/-- A frame in progress is discarded (R181, R182); in IDLE and REPLY there is none. -/
def State.dropLinkFrame (s : State) : State :=
  match s.rl.state with
  | .receive => s.linkIdle s.rl.echo s.rl.breakEcho
  | _ => s

/-- The bytes of a row whose last frame is lost. -/
def State.loseFrame (s : State) (bytes : List Byte) : State := (s.linkBytes bytes).dropLinkFrame

/-- A byte with a framing error (R181): echoed as received, no frame is left and RL is in IDLE; in REPLY and
while RL echoes a break it is discarded without an echo. -/
def State.spoiltByte (s : State) (b : Byte) : State := if s.hears then s.linkStore b .idle [] else s

/-- The bytes of a row whose last byte discards the frame, by its framing error or as a length above 6,
which have the same effect (R181) [32]. -/
def State.discardFrame (s : State) (bytes : List Byte) : State :=
  match bytes.getLast? with
  | some b => (s.linkBytes bytes.dropLast).spoiltByte b
  | none => s.loseFrame []

/-- A break (R182, R184): a frame in progress or the rest of a reply is gone, and RL echoes the break. -/
def State.takeBreak (s : State) (bytes : List Byte) : State :=
  let s1 := s.loseFrame bytes
  match s1.rl.state with
  | .reply => s1.linkIdle [] true
  | _ => s1.linkIdle s1.rl.echo true

/-! ### Meanings -/

/-- LINE BREAK (R182). -/
def execLineBreak (bytes : List Byte) (s : State) : Host.Outcome State Fault Refusal :=
  .next (s.event (.lineBreak bytes) fun s => s.takeBreak bytes)

/-- LINK_GAP_TIMEOUT (R182). -/
def execLinkGapTimeout (bytes : List Byte) (s : State) : Host.Outcome State Fault Refusal :=
  .next (s.event (.linkGapTimeout bytes) fun s => s.loseFrame bytes)

/-- LINK_FRAME_DISCARDED (R181): the last byte is the one that discards. -/
def execLinkFrameDiscarded (bytes : List Byte) (s : State) : Host.Outcome State Fault Refusal :=
  .next (s.event (.linkFrameDiscarded bytes) fun s => s.discardFrame bytes)

/-- REPLY_COLLISION (R184): the rest of the reply is discarded and RL sends a break. -/
def execReplyCollision (s : State) : Host.Outcome State Fault Refusal :=
  .next (s.event .replyCollision fun s =>
    match s.rl.state with
    | .reply => s.linkIdle [] true
    | _ => s)

/-- LINK_REPLY_END (R184): the whole reply was read back unchanged. -/
def execLinkReplyEnd (s : State) : Host.Outcome State Fault Refusal :=
  .next (s.event .linkReplyEnd fun s =>
    match s.rl.reply with
    | some r =>
      let s1 := s.linkIdle s.rl.echo false
      { s1 with rl := { s1.rl with lastSent := some r } }
    | none => s)

end Sys2Proof.Machine
end

