-- ==== Sys2Proof/Machine/Reports.lean ====
section
/-! DEFINITION. The reports that several blocks receive: each receiver's reaction, the receiver given. -/

namespace Sys2Proof.Machine

/-- OT's report of a group at one receiver (R109, R145). -/
def State.takeOccupancy (s : State) (dst : Block) (g : Segs) (occupied : Bool) (w : Option WalkIn) :
    State :=
  match dst with
  | .al => s.alTakeOcc ⟨g, occupied, w.isSome, false⟩
  | .lbu => s.lbuTakeOcc ⟨g, occupied, w.isSome, false⟩
  | .si | .ot | .ad => s

/-- LM's governing change at one receiver (R80). -/
def State.takeGoverning (s : State) (dst : Block) (g : Segs) (governing : Option Nat)
    (level : Level) : State :=
  match dst with
  | .ot => s.otGoverning g level
  | .al => s.alGoverning g governing level
  | .lbu => s.lbuGoverning g governing level
  | .si | .ad => s

/-- LM's regroup report at one receiver (R77, R96, R104, R112, R133, R165). -/
def State.takeRegroup (s : State) (dst : Block) (gone : List Segs) (formed : List GroupRec) : State :=
  match dst with
  | .si => s.remapOn formed
  | .ot => s.otRegroup gone formed
  | .al => s.alRegroup gone formed
  | .lbu => s.lbuRegroup gone formed
  | .ad => s.adRegroup gone formed

/-- LM's exit report at one receiver (R88, R106, R129, R143, R168). -/
def State.takeExit (s : State) (dst : Block) (groups : List GroupRec) : State :=
  match dst with
  | .si => s.remapOn groups
  | .ot => s.otExit groups
  | .al => s.alExit groups
  | .lbu => s.lbuExit groups
  | .ad => s.adExit groups

/-- OCCUPANCY_REPORT (R102). -/
def execOccupancyReport (dst : Block) (g : Segs) (occupied : Bool) (w : Option WalkIn) (s : State) :
    Host.Outcome State Fault Refusal :=
  .next (s.event (.occupancyReport dst g occupied w) fun s => s.takeOccupancy dst g occupied w)

/-- GOVERNING_CHANGE (R80). -/
def execGoverningChange (dst : Block) (g : Segs) (governing : Option Nat) (level : Level)
    (s : State) : Host.Outcome State Fault Refusal :=
  .next (s.event (.governingChange dst g governing level) fun s =>
    s.takeGoverning dst g governing level)

/-- REGROUP_REPORT (R77, R112). -/
def execRegroupReport (dst : Block) (gone : List Segs) (formed : List GroupRec) (s : State) :
    Host.Outcome State Fault Refusal :=
  .next (s.event (.regroupReport dst gone formed) fun s => s.takeRegroup dst gone formed)

/-- EXIT_REPORT (R88). -/
def execExitReport (dst : Block) (groups : List GroupRec) (s : State) :
    Host.Outcome State Fault Refusal :=
  .next (s.event (.exitReport dst groups) fun s => s.takeExit dst groups)

end Sys2Proof.Machine
end

