-- ==== Sys2Proof/Machine/Frames.lean ====
section
/-! DEFINITION. Frames that WP finds inside the bytes of a dropped frame (R169): reading a request's
payload (R178 to R180) and taking the request as if it had arrived by itself. -/

namespace Sys2Proof.Machine

/-! ### Reading payloads -/

/-- The figure of k bytes at an offset. -/
def field (bytes : List Byte) (offset k : Nat) : Nat := unbe ((bytes.drop offset).take k)

def fieldFlag (bytes : List Byte) (offset : Nat) : Bool := field bytes offset 1 != 0

/-- An optional field: a presence byte of 0 means absent (R178). -/
def fieldOpt (bytes : List Byte) (offset k : Nat) : Option Nat :=
  if fieldFlag bytes offset then some (field bytes (offset + 1) k) else none

/-- A payload of the right length, read. -/
def reqOf {α : Type} (right : Nat) (read : List Byte → α) (bytes : List Byte) : Req α :=
  if bytes.length = right then .fields (read bytes) else .wrongLength bytes.length

def readUnit (_ : List Byte) : Unit := ()

/-- The fixed part of the entry record, 26 bytes. -/
def readFixed (b : List Byte) : FixedWire where
  ref := field b 0 4
  start := field b 4 4
  stop := field b 8 4
  first := field b 12 1
  span := field b 13 1
  kind := field b 14 1
  headcount := field b 15 2
  held := fieldFlag b 17
  exempt := fieldFlag b 18
  scene := fieldOpt b 19 1
  setpoint := (fieldOpt b 21 2).map (signedOf 2)
  lead := fieldOpt b 24 1

/-- One field of BOOK CHANGE: indicator byte and value (R179). -/
def readChange {α : Type} (b : List Byte) (offset k : Nat) (read : Nat → α) : Change α :=
  match field b offset 1 with
  | 0 => .keep
  | 1 => .set (read (field b (offset + 1) k))
  | 2 => .clear
  | n => .bad n

/-- The payload of BOOK CHANGE, 34 bytes (R179). -/
def readChangeWire (b : List Byte) : ChangeWire where
  ref := field b 0 4
  start := readChange b 4 4 id
  stop := readChange b 9 4 id
  first := readChange b 14 1 id
  span := readChange b 16 1 id
  kind := readChange b 18 1 id
  headcount := readChange b 20 2 id
  held := readChange b 23 1 (· != 0)
  exempt := readChange b 25 1 (· != 0)
  scene := readChange b 27 1 id
  setpoint := readChange b 29 2 (signedOf 2)
  lead := readChange b 32 1 id

/-- The two-byte fields of a commissioning record (R180). -/
def readFields (b : List Byte) : List Nat :=
  (List.range (b.length / 2)).map fun k => field b (2 * k) 2

/-- COMMISSION WRITE: a selector and whole fields. Of a selector above 24, which has no record to give the
field count, an even length or one outside 9 to 39 is a wrong length and another is left to the owner,
who refuses the selector OUT_OF_RANGE: the model's reading [22] (R172, R180, R189). -/
def readWrite (b : List Byte) : Req (Nat × List Nat) :=
  if b.length % 2 = 1 ∧ 9 ≤ b.length ∧ b.length ≤ 39 then
    .fields (field b 0 1, readFields (b.drop 1))
  else .wrongLength b.length

/-! ### Taking a completed frame (R170, R172) -/

/-- MODE SET by its code. -/
def State.modeSet (b : List Byte) (s : State) : Answered :=
  match field b 0 1 with
  | 0 => s.modeRun (fieldFlag b 1)
  | 1 => s.modeService (fieldFlag b 1)
  | n => s.modeLock (n, fieldFlag b 1)

/-- The owner's answer to a function of the catalogue; RESTART stands apart. -/
def requestAnswer (code : Nat) (b : List Byte) : State → Answered :=
  let pair : List Byte → Nat × Nat := fun x => (field x 0 4, field x 4 4)
  let minute : List Byte → Nat × Nat := fun x => (field x 0 4, field x 4 1)
  let forced : List Byte → Nat × Bool := fun x => (field x 0 4, fieldFlag x 4)
  let four : List Byte → Nat := fun x => field x 0 4
  match code with
  | 0x01 => ofReq (reqOf 5 minute b) State.timeSet
  | 0x10 => ofReq (reqOf 26 readFixed b) State.bookAdd
  | 0x11 => ofReq (reqOf 34 readChangeWire b) State.bookChange
  | 0x12 => ofReq (reqOf 5 forced b) State.bookCancel
  | 0x13 => ofReq (reqOf 4 four b) State.bookFind
  | 0x14 => ofReq (reqOf 4 four b) State.bookFirst
  | 0x15 => ofReq (reqOf 0 readUnit b) State.bookNext
  | 0x20 => ofReq (reqOf 8 pair b) State.loadOpen
  | 0x21 => ofReq (reqOf 26 readFixed b) State.loadEntry
  | 0x22 => ofReq (reqOf 0 readUnit b) State.loadClose
  | 0x23 => ofReq (reqOf 0 readUnit b) State.loadAbort
  | 0x30 => ofReq (reqOf 0 readUnit b) State.suiteRead
  | 0x31 => ofReq (reqOf 0 readUnit b) State.noticeTake
  | 0x40 => ofReq (reqOf 0 readUnit b) State.demandRead
  | 0x41 => ofReq (reqOf 2 (fun x => field x 0 2) b) State.grantRequest
  | 0x50 => ofReq (reqOf 2 id b) State.modeSet
  | 0x51 => ofReq (reqOf 1 (fun x => field x 0 1) b) State.commissionRead
  | 0x52 => ofReq (readWrite b) State.commissionWrite
  | _ => fun s => refuse s .unknownFunction

/-- A completed frame treated by its address and function (R170). -/
def State.takeFrame (s : State) (f : Frame) : State :=
  if 128 ≤ f.function then s
  else if f.address = s.wp.address then
    if f.function = 0x5F then s.restartRequest (reqOf 0 readUnit f.payload)
    else s.request f.function (requestAnswer f.function f.payload)
  else if f.address = 0 ∧ f.function = 0x01 then
    s.broadcastTime (reqOf 5 (fun x => (field x 0 4, field x 4 1)) f.payload)
  else s

/-! ### Dropped frames (R169) -/

/-- The bytes of the frame in progress. -/
def heldBytes : WpRx → List Byte
  | .hunt => []
  | .receive bytes => bytes

/-- The frame that the bytes begin is itself one to drop. -/
def selfDropped (bytes : List Byte) : Bool :=
  match scanFrame bytes with
  | .bad => true
  | _ => false

/-- The frame is a RESTART that the part takes now. -/
def State.restartsOn (s : State) (f : Frame) : Bool :=
  f.address == s.wp.address && f.function == 0x5F && f.payload.isEmpty && s.wp.held.isNone

/-- The frames taken in order; a RESTART ends the search with the bytes that follow it gone, the model's
reading [26]. -/
def State.takeFrames (s : State) (leftover : WpRx) : List Frame → State
  | [] => { s with wp := { s.wp with rx := leftover } }
  | f :: rest =>
    if s.restartsOn f then s.takeFrame f else (s.takeFrame f).takeFrames leftover rest

/-- The bytes after a dropped frame's SYNC searched in order (R169). A frame begun among them goes on
where the frame's own length or CRC was the cause; a framing error and a gap drop every frame they fall
in, each searched after its own SYNC [26]. -/
def State.dropFrame (s : State) (bytes : List Byte) (own : Bool) : State :=
  let r := rescan (!own) bytes
  s.takeFrames r.2 r.1

/-- WING_FRAME_DROPPED (R169). -/
def execWingFrameDropped (bytes : List Byte) (s : State) : Host.Outcome State Fault Refusal :=
  .next (s.event (.wingFrameDropped bytes) fun s =>
    let all := heldBytes s.wp.rx ++ bytes
    s.dropFrame all (selfDropped all))

/-- WING_GAP_TIMEOUT (R169). -/
def execWingGapTimeout (bytes : List Byte) (s : State) : Host.Outcome State Fault Refusal :=
  .next (s.event (.wingGapTimeout bytes) fun s =>
    s.dropFrame (heldBytes s.wp.rx ++ bytes) false)

end Sys2Proof.Machine
end

