-- ==== Sys2Proof/Machine/Timers.lean ====
section
/-! DEFINITION. Time and the reports that wait: what an empty queue brings about [2], and one tick of
50 ms of every timer the blocks hold [3]. -/

namespace Sys2Proof.Machine

/-! ### Timers that are due -/

/-- The event, when a timer has run out. -/
def whenDue (timer : Option Nat) (c : Instr) : List Instr := if timer = some 0 then [c] else []

def whenTrue (b : Bool) (c : Instr) : List Instr := if b then [c] else []

def duePart (s : State) (p : Part) : List Instr :=
  let r := s.lm.parts.get p
  (if r.pending.isSome then whenDue r.settle (.settleTimerExpiry p) else [])
    ++ whenDue r.between (.betweenTimerExpiry p)

def dueSensors (s : State) (i : Seg) : List Instr :=
  (sensorKinds.flatMap fun k => whenDue (s.sensor i k).stale (.staleTimerExpiry i k))
    ++ whenTrue (s.configured i && (s.si.polls.get i).waiting && s.si.outstanding.isNone)
      (.sensorPoll i)

/-- The answer window of the segment polled. -/
def dueWindow (s : State) : List Instr :=
  match s.si.outstanding with
  | some (i, n) => whenTrue (n == 0) (.answerWindowExpiry i)
  | none => []

def dueVacancy (s : State) (i : Seg) : List Instr :=
  whenDue ((s.ot.segs.get i).vacancy.map (·.left)) (.vacancyTimerExpiry i)

def dueBlind (s : State) (i : Seg) : List Instr :=
  let l := s.lbu.segs.get i
  let b := l.blind
  whenDue l.glare.onTimer (.glareOnExpiry i) ++ whenDue l.glare.offTimer (.glareOffExpiry i)
    ++ whenDue b.driveUp (.driveUpEnd i)
    ++ (if b.motion = .reversing then whenDue b.reversing (.reversingEnd i) else [])
    ++ whenTrue (b.driveUp.isNone && 10 ≤ b.uncharged) (.budgetCharge i)
    ++ whenTrue (s.configured i && b.driveUp.isNone && !isMoving b && 40 ≤ b.rest) (.budgetRefill i)

/-- Every event that is due, in the order in which an empty queue takes them [2]. -/
def State.due (s : State) : List Instr :=
  whenTrue (s.tb.valid && s.tb.rolloverDue) .minuteEvent
    ++ whenDue s.al.loopTimer .loopTimerExpiry
    ++ whenDue (s.load.map (·.idle)) .loadIdleTimeout
    ++ whenDue s.ad.age .grantAgeExpiry
    ++ allParts.flatMap (duePart s) ++ dueWindow s ++ allSegs.flatMap (dueSensors s)
    ++ allSegs.flatMap (dueVacancy s) ++ allSegs.flatMap (dueBlind s)

/-- What an empty queue takes next: the oldest report, else the first event that is due. -/
def State.nextInternal (s : State) : Option Instr :=
  if s.alive then
    match s.reports with
    | c :: _ => some c
    | [] => s.due.head?
  else none

/-! ### One tick -/

def down (timer : Option Nat) : Option Nat := timer.map (· - 1)

/-- The clock counts while it is valid (R27). -/
def tickClock (t : Tb) : Tb :=
  if !t.valid then t
  else if t.ticks + 1 < Config.ticksPerSecond then { t with ticks := t.ticks + 1 }
  else if t.seconds < 59 then { t with ticks := 0, seconds := t.seconds + 1 }
  else { t with ticks := 0, rolloverDue := true }

def tickPart (p : Partition) : Partition := { p with settle := down p.settle, between := down p.between }

def tickSensor (r : Sensor) : Sensor := { r with stale := down r.stale }

def tickSensors (v : SegSensors) : SegSensors :=
  ⟨tickSensor v.presence, tickSensor v.temperature, tickSensor v.co2, tickSensor v.daylight⟩

/-- A poll timer that runs out restarts itself, and its poll waits for the line (R89). -/
def tickPoll (p : Poll) : Poll :=
  match p.timer with
  | none => p
  | some n => if n ≤ 1 then ⟨some (Config.seconds 10), true⟩ else ⟨some (n - 1), p.waiting⟩

def tickOcc (o : Occ) : Occ :=
  { o with vacancy := o.vacancy.map fun v => { v with left := v.left - 1 } }

def tickBlind (tenth : Bool) (b : Blind) : Blind :=
  let atRest := tenth && b.driveUp.isNone && !isMoving b
  { b with
    reversing := down b.reversing
    driveUp := down b.driveUp
    rest := if atRest then b.rest + 1 else b.rest }

def tickLbuSeg (tenth : Bool) (l : LbuSeg) : LbuSeg :=
  { l with
    glare := { l.glare with onTimer := down l.glare.onTimer, offTimer := down l.glare.offTimer }
    blind := tickBlind tenth l.blind }

/-- The steps of a tenth of a second that rows and blinds take (R153, R160) [29]. -/
def tenthSteps (s : State) (i : Seg) : List Instr :=
  let l := s.lbu.segs.get i
  whenTrue l.window.fade.isSome (.fadeStep i .window) ++ whenTrue l.inner.fade.isSome (.fadeStep i .inner)
    ++ whenTrue (isMoving l.blind) (.blindStep i)

/-- One tick of 50 ms of a running part. -/
def State.ticked (s : State) : State :=
  let tenth := s.tenth
  let parts : Three Partition :=
    ⟨tickPart s.lm.parts.p0, tickPart s.lm.parts.p1, tickPart s.lm.parts.p2⟩
  let sensors := s.si.sensors.mapIdx fun _ v => tickSensors v
  let polls := s.si.polls.mapIdx fun _ p => tickPoll p
  let outstanding := s.si.outstanding.map fun (o : Seg × Nat) => (o.1, o.2 - 1)
  let segs := s.lbu.segs.mapIdx fun i l => tickLbuSeg (tenth && s.configured i) l
  { s with
    tb := tickClock s.tb
    load := s.load.map fun l => { l with idle := l.idle - 1 }
    lm := { s.lm with parts := parts }
    si := { s.si with sensors := sensors, polls := polls, outstanding := outstanding }
    ot := { s.ot with segs := s.ot.segs.mapIdx fun _ o => tickOcc o }
    al := { s.al with loopTimer := down s.al.loopTimer }
    ad := { s.ad with age := down s.ad.age }
    lbu := { s.lbu with segs := segs }
    rl := { s.rl with breakEcho := false }
    tenth := !tenth
    reports := if tenth then s.reports ++ allSegs.flatMap (tenthSteps s) else s.reports }

/-- A part without supply or held in reset keeps no time [6]. -/
def State.tick (s : State) : State := if s.alive then s.ticked else s

end Sys2Proof.Machine
end

