-- ==== Sys2Proof/Machine/Dispatch.lean ====
section
/-! DEFINITION. exec: the meaning of each command, one arm for each. -/

namespace Sys2Proof.Machine

/-- What a command does to everything but the queue of waiting commands. -/
def exec (i : Instr) (s : State) : Host.Outcome State Fault Refusal :=
  match i with
  | .powerOn => Sys2Proof.Machine.execPowerOn s
  | .resetLineAssert => Sys2Proof.Machine.execResetLineAssert s
  | .resetLineRelease lowMicros => Sys2Proof.Machine.execResetLineRelease lowMicros s
  | .timeSet broadcast p => Sys2Proof.Machine.execTimeSet broadcast p s
  | .bookAdd p => Sys2Proof.Machine.execBookAdd p s
  | .bookChange p => Sys2Proof.Machine.execBookChange p s
  | .bookCancel p => Sys2Proof.Machine.execBookCancel p s
  | .bookFind p => Sys2Proof.Machine.execBookFind p s
  | .bookFirst p => Sys2Proof.Machine.execBookFirst p s
  | .bookNext p => Sys2Proof.Machine.execBookNext p s
  | .loadOpen p => Sys2Proof.Machine.execLoadOpen p s
  | .loadEntry p => Sys2Proof.Machine.execLoadEntry p s
  | .loadClose p => Sys2Proof.Machine.execLoadClose p s
  | .loadAbort p => Sys2Proof.Machine.execLoadAbort p s
  | .loadIdleTimeout => Sys2Proof.Machine.execLoadIdleTimeout s
  | .suiteRead p => Sys2Proof.Machine.execSuiteRead p s
  | .noticeTake p => Sys2Proof.Machine.execNoticeTake p s
  | .demandRead p => Sys2Proof.Machine.execDemandRead p s
  | .grant p => Sys2Proof.Machine.execGrant p s
  | .grantAgeExpiry => Sys2Proof.Machine.execGrantAgeExpiry s
  | .modeSetService p => Sys2Proof.Machine.execModeSetService p s
  | .modeSetRun p => Sys2Proof.Machine.execModeSetRun p s
  | .modeSetLock p => Sys2Proof.Machine.execModeSetLock p s
  | .commissionRead p => Sys2Proof.Machine.execCommissionRead p s
  | .commissionWrite p => Sys2Proof.Machine.execCommissionWrite p s
  | .restart p => Sys2Proof.Machine.execRestart p s
  | .unknownFunction code => Sys2Proof.Machine.execUnknownFunction code s
  | .wingFrameDiscarded => Sys2Proof.Machine.execWingFrameDiscarded s
  | .wingFrameDropped bytes => Sys2Proof.Machine.execWingFrameDropped bytes s
  | .wingGapTimeout bytes => Sys2Proof.Machine.execWingGapTimeout bytes s
  | .panelBegin g => Sys2Proof.Machine.execPanelBegin g s
  | .panelEnd g => Sys2Proof.Machine.execPanelEnd g s
  | .panelExtend g minutes => Sys2Proof.Machine.execPanelExtend g minutes s
  | .panelHeadcount g count => Sys2Proof.Machine.execPanelHeadcount g count s
  | .panelAdjust g delta => Sys2Proof.Machine.execPanelAdjust g delta s
  | .panelScene g scene => Sys2Proof.Machine.execPanelScene g scene s
  | .panelRestore g => Sys2Proof.Machine.execPanelRestore g s
  | .blindTarget g request target => Sys2Proof.Machine.execBlindTarget g request target s
  | .blindStop g ignored => Sys2Proof.Machine.execBlindStop g ignored s
  | .blindAuto g ignored => Sys2Proof.Machine.execBlindAuto g ignored s
  | .panelStatus g => Sys2Proof.Machine.execPanelStatus g s
  | .upcomingFirst g => Sys2Proof.Machine.execUpcomingFirst g s
  | .upcomingNext g => Sys2Proof.Machine.execUpcomingNext g s
  | .lineBreak bytes => Sys2Proof.Machine.execLineBreak bytes s
  | .linkGapTimeout bytes => Sys2Proof.Machine.execLinkGapTimeout bytes s
  | .replyCollision => Sys2Proof.Machine.execReplyCollision s
  | .minuteEvent => Sys2Proof.Machine.execMinuteEvent s
  | .loopTimerExpiry => Sys2Proof.Machine.execLoopTimerExpiry s
  | .partitionContactChange p closedMade openMade => Sys2Proof.Machine.execPartitionContactChange p closedMade openMade s
  | .settleTimerExpiry p => Sys2Proof.Machine.execSettleTimerExpiry p s
  | .betweenTimerExpiry p => Sys2Proof.Machine.execBetweenTimerExpiry p s
  | .sensorPoll g => Sys2Proof.Machine.execSensorPoll g s
  | .sensorAnswer g x => Sys2Proof.Machine.execSensorAnswer g x s
  | .answerWindowExpiry g => Sys2Proof.Machine.execAnswerWindowExpiry g s
  | .staleTimerExpiry g k => Sys2Proof.Machine.execStaleTimerExpiry g k s
  | .presenceEvent g => Sys2Proof.Machine.execPresenceEvent g s
  | .vacancyTimerExpiry g => Sys2Proof.Machine.execVacancyTimerExpiry g s
  | .vacancyReport g => Sys2Proof.Machine.execVacancyReport g s
  | .presenceSourceReport g source => Sys2Proof.Machine.execPresenceSourceReport g source s
  | .occupancyReport dst segs occupied walkIn => Sys2Proof.Machine.execOccupancyReport dst segs occupied walkIn s
  | .entryStateChange ref segs began => Sys2Proof.Machine.execEntryStateChange ref segs began s
  | .governingChange dst segs governing level => Sys2Proof.Machine.execGoverningChange dst segs governing level s
  | .cameToGovern ref => Sys2Proof.Machine.execCameToGovern ref s
  | .ceasedToGovern ref => Sys2Proof.Machine.execCeasedToGovern ref s
  | .settledReport segs => Sys2Proof.Machine.execSettledReport segs s
  | .lostSettledReport segs => Sys2Proof.Machine.execLostSettledReport segs s
  | .regroupReport dst gone formed => Sys2Proof.Machine.execRegroupReport dst gone formed s
  | .exitReport dst groups => Sys2Proof.Machine.execExitReport dst groups s
  | .demandUpdate figs => Sys2Proof.Machine.execDemandUpdate figs s
  | .headcountChange ref segs => Sys2Proof.Machine.execHeadcountChange ref segs s
  | .sceneChange ref => Sys2Proof.Machine.execSceneChange ref s
  | .sessionEndOverrides ref groups => Sys2Proof.Machine.execSessionEndOverrides ref groups s
  | .daylightValue g lux => Sys2Proof.Machine.execDaylightValue g lux s
  | .daylightSourceReport g source => Sys2Proof.Machine.execDaylightSourceReport g source s
  | .glareOnExpiry g => Sys2Proof.Machine.execGlareOnExpiry g s
  | .glareOffExpiry g => Sys2Proof.Machine.execGlareOffExpiry g s
  | .fadeStep g row => Sys2Proof.Machine.execFadeStep g row s
  | .blindStep g => Sys2Proof.Machine.execBlindStep g s
  | .reversingEnd g => Sys2Proof.Machine.execReversingEnd g s
  | .budgetCharge g => Sys2Proof.Machine.execBudgetCharge g s
  | .budgetRefill g => Sys2Proof.Machine.execBudgetRefill g s
  | .driveUpEnd g => Sys2Proof.Machine.execDriveUpEnd g s
  | .serviceLineAssert => Sys2Proof.Machine.execServiceLineAssert s
  | .serviceLineRelease => Sys2Proof.Machine.execServiceLineRelease s
  | .powerLoss => Sys2Proof.Machine.execPowerLoss s
  | .wingReplyEnd => Sys2Proof.Machine.execWingReplyEnd s
  | .linkReplyEnd => Sys2Proof.Machine.execLinkReplyEnd s
  | .linkFrameDiscarded bytes => Sys2Proof.Machine.execLinkFrameDiscarded bytes s
  | .panelFrameRefused g code payload => Sys2Proof.Machine.execPanelFrameRefused g code payload s

end Sys2Proof.Machine
end

