-- ==== Sys2Proof/Safety.lean ====
section
/-! DEFINITION. The terms in which statements about the part are made: when it takes an arrival, what a
state looks like with a reply in place, the checks of the admission rules as the spec words them, and
the invariants. -/

namespace Sys2Proof.Machine

/-! ### Taking arrivals -/

/-- WP takes a request addressed to the part: supplied, not in reset, no request held (R171). -/
abbrev State.TakesRequest (s : State) : Prop := s.alive = true ∧ s.wp.held = none

/-- RL takes a whole frame: supplied, not in reset, no reply in progress (R184). -/
abbrev State.Hears (s : State) : Prop := s.alive = true ∧ s.rl.state ≠ .reply

/-- RL takes a frame of the panel of a configured segment (R183, R184). -/
abbrev State.TakesPanel (s : State) (i : Seg) : Prop := s.Hears ∧ s.configured i = true

/-- The reply of a wing request in place; nothing else of the state is touched (R171, R173). -/
def State.replied (s : State) (code : Nat) (reason : Reason) (payload : List Byte) : State :=
  { s with wp :=
    { s.wp with
      rx := .hunt
      held := some code
      reply := some ⟨code, reason, !s.nq.list.isEmpty, payload⟩ } }

/-- The reply of a panel frame in place, its bytes echoed; nothing else is touched (R181, R184). -/
def State.panelReplied (s : State) (bytes : List Byte) (reason : Reason) (payload : List Byte) :
    State :=
  { s with rl :=
    { s.rl with
      state := .reply
      frame := []
      reply := some ⟨reason, payload⟩
      echo := bytes
      breakEcho := false } }

/-- The rows that are requests addressed to the part, or a broadcast TIME SET. -/
def isWingRequest : Instr → Bool
  | .timeSet _ _ | .bookAdd _ | .bookChange _ | .bookCancel _ | .bookFind _ | .bookFirst _ => true
  | .bookNext _ | .loadOpen _ | .loadEntry _ | .loadClose _ | .loadAbort _ | .suiteRead _ => true
  | .noticeTake _ | .demandRead _ | .grant _ | .modeSetService _ | .modeSetRun _ => true
  | .modeSetLock _ | .commissionRead _ | .commissionWrite _ | .restart _ | .unknownFunction _ => true
  | _ => false

/-- Segment and bytes of the rows that are panel frames (section 10.4, R183). -/
def panelFrame? : Instr → Option (Seg × List Byte)
  | .panelBegin i => some (i, frameBytes i 0x01 [])
  | .panelEnd i => some (i, frameBytes i 0x02 [])
  | .panelExtend i m => some (i, frameBytes i 0x03 (be 1 m))
  | .panelHeadcount i n => some (i, frameBytes i 0x04 (be 2 n))
  | .panelAdjust i d => some (i, frameBytes i 0x05 (beInt 1 d))
  | .panelScene i n => some (i, frameBytes i 0x06 (be 1 n))
  | .panelRestore i => some (i, frameBytes i 0x07 [])
  | .blindTarget i r t => some (i, frameBytes i 0x08 (be 1 r ++ be 2 t))
  | .blindStop i t => some (i, frameBytes i 0x08 (be 1 1 ++ be 2 t))
  | .blindAuto i t => some (i, frameBytes i 0x08 (be 1 2 ++ be 2 t))
  | .panelStatus i => some (i, frameBytes i 0x09 [])
  | .upcomingFirst i => some (i, frameBytes i 0x0A [])
  | .upcomingNext i => some (i, frameBytes i 0x0B [])
  | .panelFrameRefused i code payload => some (i, frameBytes i code payload)
  | _ => none

/-- The panel commands that SERVICE refuses (R185, R190). -/
def refusedInService : Instr → Bool
  | .panelBegin _ | .panelEnd _ | .panelExtend _ _ | .panelHeadcount _ _ | .panelAdjust _ _ => true
  | .panelScene _ _ | .panelRestore _ | .blindTarget _ _ _ | .blindStop _ _ | .blindAuto _ _ => true
  | _ => false

/-! ### Admission in the spec's words -/

/-- The first check of a set that fails, in the words of R5, R9 and R10. -/
def badFields (w : FixedWire) : Bool :=
  w.ref == 0 || 4294901760 ≤ w.ref || w.kind == 0 || 5 ≤ w.kind || w.scene.any (fun i => 15 < i)

/-- R7. -/
def outsideSuite (s : State) (first span : Nat) : Bool :=
  span < 1 || 4 < span || 3 < first || s.suite.segmentCount < first + span

/-- R8, the duration as a signed difference. -/
def wrongDuration (start stop : Nat) : Bool :=
  (stop : Int) - start < 10 || 600 < (stop : Int) - start

/-- R8, the end against now. -/
def endPassed (s : State) (stop : Nat) : Bool := s.tb.valid && stop ≤ s.tb.minutes

/-- The start lies in the range of an open load (R56). -/
def startLoading (s : State) (start : Nat) : Bool :=
  s.load.any fun l => l.lo ≤ start && start < l.hi

/-- R11 for two sets of fixed fields. -/
def clash (a b : Fixed) : Bool :=
  a.first < b.first + b.span && b.first < a.first + a.span && a.start < b.stop && b.start < a.stop

/-- The kind of a supervisor's code (R9, section 9.4). -/
def kindOf (code : Nat) : Kind :=
  if code = 2 then .caseStudy else if code = 3 then .exam else if code = 4 then .event else .lecture

/-- The fixed fields that R9 and R10 make of a BOOK ADD or LOAD ENTRY. -/
def admitted (s : State) (w : FixedWire) : Fixed where
  ref := w.ref
  start := w.start
  stop := w.stop
  first := w.first
  span := w.span
  kind := kindOf w.kind
  headcount := min (min w.headcount 400) (seatsOf s.comm ⟨w.first, w.span⟩)
  scene := w.scene
  setpoint := w.setpoint.map fun n => (max 160 (min 280 n)).toNat
  lead := w.lead.map (min 90)
  held := w.held || w.kind == 3
  exempt := w.exempt || w.kind == 3

/-- The reason code of BOOK ADD by the table of R14. -/
def addReason (s : State) (w : FixedWire) : Reason :=
  if badFields w then .outOfRange
  else if outsideSuite s w.first w.span then .noSegment
  else if wrongDuration w.start w.stop then .badDuration
  else if endPassed s w.stop then .past
  else if startLoading s w.start then .loading
  else if s.bt.table.any (fun e => e.fix.ref == w.ref) then .duplicate
  else if s.bt.table.any (fun e => clash (admitted s w) e.fix) then .overlap
  else if 128 ≤ s.bt.table.length then .full
  else .ok

/-- The reason code of LOAD ENTRY with a load open, by the table of R58. -/
def stageReason (s : State) (l : Load) (w : FixedWire) : Reason :=
  if badFields w || w.start < l.lo || l.hi ≤ w.start then .outOfRange
  else if outsideSuite s w.first w.span then .noSegment
  else if wrongDuration w.start w.stop then .badDuration
  else if endPassed s w.stop then .past
  else if l.staged.any (fun x => x.ref == w.ref) then .duplicate
  else if l.staged.any (fun x => clash (admitted s w) x) then .overlap
  else if 64 ≤ l.staged.length then .full
  else .ok

/-- The reason code of BOOK CHANGE for the entry named, by the table of R15, the candidate given by
R15 (`candidate`). -/
def changeReason (s : State) (c : ChangeWire) (e : Entry) : Reason :=
  let g := candidate s.comm c e.fix
  if badIndicators c || badKindChange c e.fix.kind || badSceneChange c then .outOfRange
  else if isActive e && (e.fix.start != g.start || e.fix.first != g.first || e.fix.span != g.span
      || e.fix.kind != g.kind || e.fix.lead != g.lead || e.fix.exempt != g.exempt) then .active
  else if outsideSuite s g.first g.span then .noSegment
  else if wrongDuration g.start g.stop && !endsNow s c e then .badDuration
  else if !isActive e && endPassed s g.stop then .past
  else if startLoading s e.fix.start || startLoading s g.start then .loading
  else if s.bt.table.any (fun x => x.fix.ref != e.fix.ref && clash g x.fix) then .overlap
  else .ok

/-- The table written with its non-volatile image (R12). -/
def State.withTable (s : State) (t : List Entry) : State :=
  { s with bt := { s.bt with table := t, stored := t.map (·.fix) } }

/-! ### Loops between minutes -/

/-- The active setpoint of a group with the standing that a loop's record holds (R109): the live setpoint of
the governing entry at SESSION and PREPARE, that of the walk-in record at NONE while OT's report names one. -/
def State.setpointFor (s : State) (l : Loop) : Option Nat :=
  if l.level = .none then
    if s.alWalkIn l.segs = true then (s.walkIn? l.segs).map (·.setpoint) else none
  else l.governing.bind fun ref => (s.entry? ref).bind (·.vol.liveSetpoint)

/-- What R110 and R111 make of a loop's record l whose standing is as AL holds it in s. A loop that is not
PARKED has a reference setpoint (R108). In SERVICE no loop moves (R128); the model's choices are that none
does before LM's exit report [52], and none while its owner's figure cannot be read [12], [49]. -/
def State.loopFollowing (s : State) (l : Loop) : Loop :=
  let entered (mode : LoopMode) (reference : Option Nat) : Loop :=
    { l with mode := mode, reference := reference, settled := false
             windowMinutes := 0, windowWorst := 0, good := 0 }
  if s.inRun = false ∨ s.al.awaitsExit = true then l
  else if l.level = .none ∧ s.alWalkIn l.segs = false then
    if l.mode = .parked then l else s.evaluate { entered .parked none with reheat := 0 }
  else match s.setpointFor l with
    | none => l
    | some p =>
      if l.mode = .parked ∨ 10 < ((p : Int) - (l.reference.getD p : Nat)).natAbs
        then s.evaluate (entered .acquire (some p)) else l

/-- What AL hands on when the loops `before` have become `after` between minutes (R110, R111, R121, R125): one
demand update where a loop entered PARKED or ACQUIRE, then the losses of SETTLED. -/
def loopReports (before after : List Loop) : List Instr :=
  (if after = before then [] else [.demandUpdate (demandFigs after)]) ++
    ((before.zip after).filter fun p => p.1.settled && !p.2.settled).map fun p =>
      .lostSettledReport p.2.segs

/-! ### Readiness and shortage -/

/-- The learning update applies to an entry that becomes READY (R37). -/
def State.updatesRates (s : State) (e : Entry) : Bool :=
  decide (5 ≤ e.vol.initialError.getD 0) && e.vol.stamp == some (s.homeGroup e.fix)

/-- The minutes that a READY notice carries (R35); free while the preparing start lies ahead [14]. -/
def State.minutesPrepared (s : State) (e : Entry) : Nat :=
  elapsedSince (e.vol.prepStart.getD 0) s.tb.minutes

/-- The rates once an entry has become READY: those of the configured segments of its group replaced where
the update applies (R37). -/
def State.ratesAfter (s : State) (rates : Four Nat) (e : Entry) : Four Nat :=
  let observed := s.minutesPrepared e * 10 / e.vol.initialError.getD 0
  if s.updatesRates e = true then rates.mapIdx fun i r =>
    if segHas (s.homeGroup e.fix) i = true ∧ s.configured i = true
      then max 1 (min 60 ((3 * r + observed + 2) / 4)) else r
  else rates

def State.readyNotice (s : State) (e : Entry) : Notice :=
  .ready e.fix.ref (s.minutesPrepared e) (s.updatesRates e)

/-- The notice of a shortage judgement of a group's record, its flag before given (R140). -/
def airNotices (grant : Nat) (was : Bool) (g : AdGroup) : List Notice :=
  if was = false ∧ g.alloc < g.qvent then [.airShort g.segs g.alloc g.qvent grant]
  else if was = true ∧ g.qvent ≤ g.alloc then [.airRestored g.segs g.alloc g.qvent]
  else []

/-! ### Groups and coverage -/

/-- A session on LM's in-session lists covers the segment (R98). -/
def State.listed (s : State) (i : Seg) : Bool :=
  s.lm.groups.any fun r => r.sessions.any fun it => segHas it.segs i

/-- A record's in-session list is made anew from the table: every active entry on the group with its share over
the groups given, in ascending first segment (R82, R83). -/
def State.ListsSessions (s : State) (sets : List Segs) (r : GroupRec) : Prop :=
  (∀ it, it ∈ r.sessions ↔ ∃ e ∈ s.bt.table, isActive e = true ∧
    segsMeet (entrySegs e) r.segs = true ∧
    it = ⟨e.fix.ref, entrySegs e, shareOf s.comm sets e r.segs⟩) ∧
  (r.sessions.map (·.segs.first)).Pairwise (· ≤ ·)

/-- The blind of a segment resolved afresh (R157), its override removed first where `clears` says so (R159); a
passing state and a vacant SESSION are resolved as the model has them [12], [41], [54]. -/
def State.blindResolved (u : State) (j : Seg) (clears : Bool) : Blind :=
  let bare := if clears then u.mapBlind j fun b => { b with override := none } else u
  (bare.resolveBlind j).blind j

/-- In t every segment of the group r shows what LBU forms for it in u: its rows where `rows` says so (R150,
R152), and its blind target. A segment that two records name is left out. -/
def State.GroupLit (u t : State) (r : LbuGroup) (rows clears : Bool) : Prop :=
  ∀ j ∈ segList r.segs, u.configured j = true →
    (∀ x ∈ u.lbu.groups, segHas x.segs j = true → x = r) →
    let formed := ((if rows then u.formRows r j else u).lbu.segs.get j)
    t.lbu.segs.get j = { u.lbu.segs.get j with
      window := formed.window, inner := formed.inner, blind := u.blindResolved j clears }

/-- Outside the sets given LBU's segments stand, and of LBU nothing but the segments has moved from u. -/
def State.LitOnlyIn (u t : State) (sets : List Segs) : Prop :=
  (∀ j, (∀ g ∈ sets, j ∉ segList g) → t.lbu.segs.get j = u.lbu.segs.get j) ∧
  t.lbu = { u.lbu with segs := t.lbu.segs } ∧ t.os = t.drive.os

/-- OT has every group derived anew, and each change is reported to AL and LBU (R102, R103). -/
def OccupancySettled (s t : State) : Prop :=
  (∀ r ∈ t.ot.groups, r.occupied = t.groupOccupied r.segs ∧
    r.walkIn.isSome = (r.occupied && r.level != .session)) ∧
  ∀ p ∈ s.ot.groups.zip t.ot.groups,
    (p.1.occupied ≠ p.2.occupied ∨ p.1.walkIn.isSome ≠ p.2.walkIn.isSome) →
    ∀ b ∈ [Block.al, .lbu], .occupancyReport b p.2.segs p.2.occupied p.2.walkIn ∈ t.reports

/-! ### The substitution map -/

/-- The source that R96 gives a segment: itself, else the lowest of its group whose sensor is OK. The group is
one of those a report of LM names, else LM's as it stands [43]. -/
def State.sourceBy (s : State) (named : List Segs) (k : SensorKind) (i : Seg) : Option Seg :=
  if s.configured i = false then none
  else if s.sensorOk i k = true then some i
  else (((named.find? fun g => segHas g i).or ((s.groupOf? i).map (·.segs))).bind fun g =>
    (segList g).find? fun j => s.sensorOk j k)

/-- SI's two maps are those of R96. -/
def State.Mapped (t : State) (named : List Segs) : Prop := ∀ i,
  t.si.presenceSource.get i = t.sourceBy named .presence i ∧
  t.si.daylightSource.get i = t.sourceBy named .daylight i

/-- The reports of the sources that have changed from s to t (R96), in ascending segment [47]. -/
def sourceReports (s t : State) : List Instr :=
  ((allSegs.filter fun j => s.configured j &&
      t.si.presenceSource.get j != s.si.presenceSource.get j).map fun j =>
    .presenceSourceReport j (t.si.presenceSource.get j)) ++
  (allSegs.filter fun j => s.configured j &&
      t.si.daylightSource.get j != s.si.daylightSource.get j).map fun j =>
    .daylightSourceReport j (t.si.daylightSource.get j)

/-! ### Regroup -/

/-- What the regroup made at the arrival c makes of LM, BT and the reports (R77), the notices `first` queued
before it. Shares are formed anew for every entry on a formed group [37], BT answers the governing reports
before the compare [34], several entries in table order [46], and an active entry outside the suite finds no
layout [53]. -/
def Regrouped (s t : State) (c : Instr) (first : List Notice) : Prop :=
  let sets := t.formGroups
  let was (r : GroupRec) : Option GroupRec := s.lm.groups.find? fun x => x.segs == r.segs
  let gone := (s.lm.groups.map (·.segs)).filter fun g => !sets.contains g
  let formed := t.lm.groups.filter fun r => (was r).isNone
  let now (e : Entry) : Bool := t.lm.groups.any fun r =>
    segHas r.segs e.fix.first && r.governing == some e.fix.ref
  let before (e : Entry) : Bool := s.lm.governsFirst.contains e.fix.ref
  let settled (e : Entry) : Bool := (s.loop? (t.homeGroup e.fix)).any (·.settled)
  let gains (e : Entry) : Bool := e.vol.state == .preparing && now e && !before e && settled e
  let loses (e : Entry) : Bool := e.vol.state == .ready && !now e && before e
  let found (e : Entry) : Option Segs := if isActive e then (t.groupOf? e.fix.first).map (·.segs) else none
  let differs (e : Entry) : Bool := (found e).any fun g => g != entrySegs e && e.vol.lastLayout != some g
  let answered := s.bt.table.filter fun e => gains e || loses e
  (∀ r ∈ t.lm.groups, ∀ x, was r = some x → r.governing = x.governing ∧ r.level = x.level ∧
    r.sessions.map (fun it => (it.ref, it.segs)) = x.sessions.map fun it => (it.ref, it.segs)) ∧
  (∀ r ∈ formed, r.governing = (governingOf s.bt.table r.segs).map (·.fix.ref) ∧
    r.level = levelOf (governingOf s.bt.table r.segs) ∧ s.ListsSessions sets r) ∧
  (∀ r ∈ t.lm.groups, r.people = (r.sessions.map (·.share)).sum ∧
    ∀ it ∈ r.sessions, ∀ e, s.entry? it.ref = some e →
      formed.any (fun x => segsMeet x.segs (entrySegs e)) = true →
      it.share = shareOf s.comm sets e r.segs) ∧
  t.lm.governsFirst = ((s.bt.table.filter fun e => isPrepared e && now e).map (·.fix.ref)) ∧
  t.reports = s.reports.erase c ++
    ([Block.si, .ot, .al, .lbu, .ad].map fun b => .regroupReport b gone formed) ++
    answered.map (fun e => .entryStateChange e.fix.ref (entrySegs e) false) ∧
  t.bt = { s.bt with
    table := s.bt.table.map fun e => { e with vol := { e.vol with
      state := if gains e then .ready else if loses e then .preparing else e.vol.state
      lastLayout := match found e with
        | none => e.vol.lastLayout
        | some g => if g = entrySegs e then none else some g } }
    rates := (s.bt.table.filter gains).foldl t.ratesAfter s.bt.rates } ∧
  t.nq = (s.notifyAll (first ++
    answered.map (fun e => if gains e then t.readyNotice e
      else .notReady e.fix.ref .notGoverning) ++
    (s.bt.table.filter differs).map fun e =>
      .layoutMismatch e.fix.ref (entrySegs e) ((found e).getD (entrySegs e)))).nq ∧
  t = { s.take c with lm := t.lm, bt := t.bt, nq := t.nq, reports := t.reports }

/-! ### Restart -/

/-- The partitions read and accepted at once, as a restart and a SERVICE exit take them (R71, R88); one that is
not configured has no timer running, the model's choice [15]. -/
def State.PartitionsFound (s t : State) : Prop :=
  ∀ p, let was := s.lm.parts.get p
    let found := readingOf was.closedMade was.openMade
    (t.partConfigured p = true → t.lm.parts.get p = { was with
      accepted := found
      pending := none
      settle := none
      between := if found = .between then some 2400 else none
      reported := found == .fault }) ∧
    (t.partConfigured p = false → t.lm.parts.get p =
      { was with accepted := .closed, pending := none, settle := none, between := none, reported := false })

/-- PARTITION_FAULT for each partition found FAULT (R74), in ascending number [47]. -/
def State.faultsFound (t : State) : List Notice :=
  (allParts.filter fun p => t.partConfigured p && (t.lm.parts.get p).accepted == .fault).map fun p =>
    .partitionFault p .fault

/-- What every restart puts into the blocks that the re-entry evaluation leaves alone: all but the table
and the notices it makes (R37, R56, R71, R74, R76, R89, R91, R98, R107, R108, R130, R131, R143, R149, R154, R164,
R170, R177, R181, R188, R190). A partition that is not configured, and the order of the faults [47], are the model's. -/
def RestartedBlocks (s t : State) (cause : RestartCause) : Prop :=
  s.PartitionsFound t ∧
  (∃ more, t.nq = (({ t with nq := ⟨[], false, 0⟩ } : State).notifyAll
    (.restarted cause :: t.faultsFound ++ more)).nq) ∧
  (∀ i, t.configured i = true → t.si.polls.get i = ⟨some 200, false⟩) ∧ t.si.outstanding = none ∧
  t.wp.address = (if s.pins.straps % 64 = 0 ∨ s.pins.straps % 64 = 63 then 62
    else s.pins.straps % 64) ∧
  t.bt.rates = s.bt.rates ∧ t.bt.nextAdhoc = 4294901760 ∧ t.load = none ∧
  t.cs = ⟨s.cs.effective.takePending s.cs.pending, [], .run, false, s.cs.serviceLine⟩ ∧
  t.wp.rx = .hunt ∧ t.wp.held = none ∧ t.wp.reply = none ∧ t.wp.cursor = none ∧
  t.wp.bitRate = t.suite.bitRate ∧
  t.rl = ⟨.idle, [], Four.all none, none, none, [], false⟩ ∧
  (∀ g ∈ t.lm.groups, g.governing = none ∧ g.level = .none ∧ g.sessions = [] ∧ g.people = 0) ∧
  t.lm.groups.map (·.segs) = t.formGroups ∧ t.ot.groups.map (·.segs) = t.formGroups ∧
  t.al.loops.map (·.segs) = t.formGroups ∧ t.ad.groups.map (·.segs) = t.formGroups ∧
  t.lbu.groups = t.formGroups.map (fun g => ⟨g, none, .none⟩) ∧
  (∀ i, t.configured i = true → t.si.sensors.get i = SegSensors.initial ∧
    t.si.presenceSource.get i = none ∧ t.si.daylightSource.get i = none ∧
    t.lbu.segs.get i = LbuSeg.initial (t.segRec i) ∧
    t.ad.targets.get i = (t.segRec i).airMin) ∧
  (∀ i, t.ot.segs.get i = ⟨none, true, false, false⟩) ∧ (∀ g ∈ t.ot.groups, g.walkIn = none) ∧
  (∀ l ∈ t.al.loops, l.mode = .parked ∧ l.settled = false ∧ l.temp = none ∧ l.reheat = 0 ∧
    l.qd = t.minOf l.segs ∧ l.qmin = t.minOf l.segs ∧ l.qvent = 0) ∧
  .demandUpdate (demandFigs t.al.loops) ∈ t.reports ∧
  (∀ i, t.configured i = true → .daylightSourceReport i none ∈ t.reports) ∧
  (∀ g ∈ t.ad.groups, g = ⟨g.segs, t.minOf g.segs, t.minOf g.segs, 0, t.maxOf g.segs, t.minOf g.segs,
    false⟩) ∧
  t.ad.total = (t.ad.groups.map (·.qmin)).sum ∧ t.ad.grant = 1000 ∧ t.ad.source = .default ∧ t.ad.age = none ∧
  t.os = t.drive.os ∧ t.pending = s.pending

/-- What a restart that leaves the clock invalid puts into every block: the above, the table as stored and
PLANNED (R13), RESTARTED first in the queue (R177), the loop timer running (R114). -/
def Restarted (s t : State) (cause : RestartCause) : Prop :=
  t.bt = ⟨s.bt.stored.map fun f => ⟨f, Volatile.planned⟩, s.bt.stored, 4294901760, s.bt.rates⟩ ∧
  t.nq.list.head? = some ⟨0, 0, .restarted cause⟩ ∧ t.nq.overflow = false ∧
  t.nq.list.map (·.notice) = .restarted cause :: t.faultsFound ∧
  t.al.loopTimer = some 1200 ∧ RestartedBlocks s t cause

/-! ### Invariants -/

/-- No reference stands twice in the table (R1). -/
abbrev State.UniqueRefs (s : State) : Prop := (s.bt.table.map (·.fix.ref)).Nodup

/-- The non-volatile image holds the fixed fields of every entry (R12). -/
abbrev State.StoredImage (s : State) : Prop := s.bt.stored = s.bt.table.map (·.fix)

/-- R175: at most 32 notices, the counter within 0 to 65,535. -/
abbrev State.NoticesFit (s : State) : Prop := s.nq.list.length ≤ 32 ∧ s.nq.counter < 65536

/-- The outputs are those of AL, AD and LBU, and 0 while the part does not run (R121, R139, R149,
R156, R193). -/
abbrev State.OutputsFollow (s : State) : Prop :=
  s.os = if s.alive then s.drive.os else Four.all Outs.zero

/-- LM's groups are the runs that the accepted partition states form (R75 to R77). -/
abbrev State.GroupsFormed (s : State) : Prop := s.lm.groups.map (·.segs) = s.formGroups

/-- Every configured segment's target is its figure of the split of the one record that names it, and a
segment that is not configured has none (R138, R139). -/
def State.TargetsFollow (s : State) : Prop :=
  ∀ i, (s.configured i = false → s.ad.targets.get i = 0) ∧
    (s.configured i = true → ∀ g ∈ s.ad.groups, segHas g.segs i = true →
      (∀ x ∈ s.ad.groups, segHas x.segs i = true → x = g) →
      (i, s.ad.targets.get i) ∈ s.splitGroup g)

/-- Every field of a record lies in its range (section 11.1, R189). -/
abbrev Record.InRange (r : Record) : Prop :=
  firstBadField 1 r.values (fieldRanges r.selector r.values) = none

/-- The records in effect and the pending records hold values that COMMISSION WRITE accepts (R188,
R189), and the grant lies within 0 to 1000 (R131). A suite so has one to four segments, a segment's
airflow minimum is at most its maximum, and a blind's full travel is at least 20 seconds. -/
abbrev State.RecordsFit (s : State) : Prop :=
  (∀ sel ∈ List.range 25, (s.comm.recordAt sel).InRange) ∧ (∀ r ∈ s.cs.pending, r.InRange)
    ∧ s.comm.scenes.length = 16 ∧ s.ad.grant ≤ 1000

/-- Table order and unique references over a list of fixed fields: each stands strictly before every
later one (R1). -/
abbrev Ordered (l : List Fixed) : Prop :=
  l.Pairwise fun a b => (a.start < b.start ∨ (a.start = b.start ∧ a.ref < b.ref)) ∧ a.ref ≠ b.ref

/-- No two of a list cover a common segment over overlapping intervals (R11). -/
abbrev Apart (l : List Fixed) : Prop := l.Pairwise fun a b => clash a b = false

/-- Everything R1, R6, R11, R12 and R56 promise of the table and the staging area. -/
abbrev State.TableSound (s : State) : Prop :=
  s.StoredImage ∧ s.bt.table.length ≤ 128 ∧ Ordered (s.bt.table.map (·.fix))
    ∧ Apart (s.bt.table.map (·.fix))
    ∧ (∀ e ∈ s.bt.table, 1 ≤ e.fix.ref ∧ e.fix.ref ≤ 4294967295)
    ∧ (4294901760 ≤ s.bt.nextAdhoc ∧ s.bt.nextAdhoc ≤ 4294967295)
    ∧ ∀ l ∈ s.load, l.staged.length ≤ 64 ∧ Ordered l.staged ∧ Apart l.staged
        ∧ ∀ f ∈ l.staged, 1 ≤ f.ref ∧ f.ref < 4294901760

/-- The part has not stopped: its step answers a next state (00_scope.md, Refusal and clamping). -/
def Running (s : State) : Prop := ∃ t, step s = .next t

/-! ### The wing port's rows by their bytes -/

/-- A payload of the function's length, read, or its wrong length (R172, check 2). -/
def sizedReq {α : Type} (b : List Byte) (right : Nat) (read : α) : Req α :=
  if b.length = right then .fields read else .wrongLength b.length

/-- The fixed part of the entry record at its offsets (section 9.4, R178). -/
def fixedFrom (b : List Byte) : FixedWire :=
  let at_ (o k : Nat) : Nat := unbe ((b.drop o).take k)
  let optional (o k : Nat) : Option Nat := if at_ o 1 = 0 then none else some (at_ (o + 1) k)
  { ref := at_ 0 4, start := at_ 4 4, stop := at_ 8 4, first := at_ 12 1, span := at_ 13 1
    kind := at_ 14 1, headcount := at_ 15 2, held := at_ 17 1 != 0, exempt := at_ 18 1 != 0
    scene := optional 19 1
    setpoint := (optional 21 2).map fun (n : Nat) => if n < 32768 then (n : Int) else (n : Int) - 65536
    lead := optional 24 1 }

/-- The fields of BOOK CHANGE, each an indicator byte and a value in the entry record's size (R179). -/
def changeFrom (b : List Byte) : ChangeWire :=
  let at_ (o k : Nat) : Nat := unbe ((b.drop o).take k)
  let change {α : Type} (o k : Nat) (read : Nat → α) : Change α :=
    if at_ o 1 = 0 then .keep else if at_ o 1 = 1 then .set (read (at_ (o + 1) k))
    else if at_ o 1 = 2 then .clear else .bad (at_ o 1)
  { ref := at_ 0 4, start := change 4 4 id, stop := change 9 4 id, first := change 14 1 id
    span := change 16 1 id, kind := change 18 1 id, headcount := change 20 2 id
    held := change 23 1 (· != 0), exempt := change 25 1 (· != 0), scene := change 27 1 id
    setpoint := change 29 2 fun (n : Nat) => if n < 32768 then (n : Int) else (n : Int) - 65536
    lead := change 32 1 id }

/-- The row that the function code and the payload of a request to the part name (the function table of
section 9.4, R172, R178 to R180). That a mode code which names no request is carried by the MODE_SET_LOCK row [31],
and that a COMMISSION WRITE of a length that some record has is left to its owner [22], is the model's reading. -/
def wingRow (code : Nat) (b : List Byte) : Instr :=
  let at_ (o k : Nat) : Nat := unbe ((b.drop o).take k)
  match code with
  | 0x01 => .timeSet false (sizedReq b 5 (at_ 0 4, at_ 4 1))
  | 0x10 => .bookAdd (sizedReq b 26 (fixedFrom b))
  | 0x11 => .bookChange (sizedReq b 34 (changeFrom b))
  | 0x12 => .bookCancel (sizedReq b 5 (at_ 0 4, at_ 4 1 != 0))
  | 0x13 => .bookFind (sizedReq b 4 (at_ 0 4))
  | 0x14 => .bookFirst (sizedReq b 4 (at_ 0 4))
  | 0x15 => .bookNext (sizedReq b 0 ())
  | 0x20 => .loadOpen (sizedReq b 8 (at_ 0 4, at_ 4 4))
  | 0x21 => .loadEntry (sizedReq b 26 (fixedFrom b))
  | 0x22 => .loadClose (sizedReq b 0 ())
  | 0x23 => .loadAbort (sizedReq b 0 ())
  | 0x30 => .suiteRead (sizedReq b 0 ())
  | 0x31 => .noticeTake (sizedReq b 0 ())
  | 0x40 => .demandRead (sizedReq b 0 ())
  | 0x41 => .grant (sizedReq b 2 (at_ 0 2))
  | 0x50 =>
    if b.length = 2 ∧ at_ 0 1 = 0 then .modeSetRun (.fields (at_ 1 1 != 0))
    else if b.length = 2 ∧ at_ 0 1 = 1 then .modeSetService (.fields (at_ 1 1 != 0))
    else .modeSetLock (sizedReq b 2 (at_ 0 1, at_ 1 1 != 0))
  | 0x51 => .commissionRead (sizedReq b 1 (at_ 0 1))
  | 0x52 =>
    if b.length % 2 = 1 ∧ 9 ≤ b.length ∧ b.length ≤ 39 then
      .commissionWrite (.fields (at_ 0 1,
        (List.range ((b.length - 1) / 2)).map fun k => at_ (1 + 2 * k) 2))
    else .commissionWrite (.wrongLength b.length)
  | 0x5F => .restart (sizedReq b 0 ())
  | _ => .unknownFunction code

/-- The frame of a wing request, SYNC first, as a master sends it (R169, section 9.4). -/
def requestBytes (f : Frame) : List Byte :=
  let body := be 1 f.address ++ be 1 f.function ++ be 1 f.payload.length ++ f.payload
  byteOf 0x7E :: body ++ be 2 (crc16 body)

end Sys2Proof.Machine
end

