-- ==== Sys2Proof/WellFormed.lean ====
section
/-! DEFINITION. Which commands an arrival can be: the sizes of the fields of section 9.4, the codes a
row stands for, and the receivers of the reports several blocks receive. exec is total; these checks
say what the two ports and the blocks can send. -/

namespace Sys2Proof

def fits (bytes n : Nat) : Bool := n < 256 ^ bytes

/-- Two's complement range of a carried signed figure (R178). -/
def fitsSigned (bytes : Nat) (n : Int) : Bool :=
  -(256 ^ bytes / 2 : Int) ≤ n && n < (256 ^ bytes / 2 : Int)

def Req.wf {α : Type} (right : Nat → Bool) (ok : α → Bool) : Req α → Bool
  | .fields a => ok a
  | .wrongLength n => n ≤ 120 && !right n

/-- A request without payload. -/
def Req.wfEmpty (p : Req Unit) : Bool := p.wf (· == 0) fun _ => true

def optAll {α : Type} (ok : α → Bool) : Option α → Bool
  | none => true
  | some a => ok a

/-- A segment set carried by a report: 0 to 3 first, inside the four positions. -/
def Segs.wf (g : Segs) : Bool := 1 ≤ g.span && g.first + g.span ≤ 4

def FixedWire.wf (f : FixedWire) : Bool :=
  fits 4 f.ref && fits 4 f.start && fits 4 f.stop && fits 1 f.first && fits 1 f.span
    && fits 1 f.kind && fits 2 f.headcount && optAll (fits 1) f.scene
    && optAll (fitsSigned 2) f.setpoint && optAll (fits 1) f.lead

/-- An indicator other than 0, 1 and 2 (R179). -/
def Change.wf {α : Type} (ok : α → Bool) : Change α → Bool
  | .set a => ok a
  | .bad n => 3 ≤ n && n < 256
  | _ => true

def ChangeWire.wf (c : ChangeWire) : Bool :=
  fits 4 c.ref && c.start.wf (fits 4) && c.stop.wf (fits 4) && c.first.wf (fits 1)
    && c.span.wf (fits 1) && c.kind.wf (fits 1) && c.headcount.wf (fits 2)
    && c.held.wf (fun _ => true) && c.exempt.wf (fun _ => true) && c.scene.wf (fits 1)
    && c.setpoint.wf (fitsSigned 2) && c.lead.wf (fits 1)

def GroupRec.wf (g : GroupRec) : Bool := g.segs.wf && g.sessions.all fun i => i.segs.wf

/-- The function codes of section 9.4. -/
def wingFunctions : List Nat :=
  [0x01, 0x10, 0x11, 0x12, 0x13, 0x14, 0x15, 0x20, 0x21, 0x22, 0x23, 0x30, 0x31, 0x40, 0x41,
    0x50, 0x51, 0x52, 0x5F]

def Instr.wf : Instr → Bool
  | .timeSet _ p => p.wf (· == 5) fun t => fits 4 t.1 && fits 1 t.2
  | .bookAdd p => p.wf (· == 26) FixedWire.wf
  | .bookChange p => p.wf (· == 34) ChangeWire.wf
  | .bookCancel p => p.wf (· == 5) fun r => fits 4 r.1
  | .bookFind p => p.wf (· == 4) (fits 4)
  | .bookFirst p => p.wf (· == 4) (fits 4)
  | .bookNext p => p.wfEmpty
  | .loadOpen p => p.wf (· == 8) fun r => fits 4 r.1 && fits 4 r.2
  | .loadEntry p => p.wf (· == 26) FixedWire.wf
  | .loadClose p => p.wfEmpty
  | .loadAbort p => p.wfEmpty
  | .suiteRead p => p.wfEmpty
  | .noticeTake p => p.wfEmpty
  | .demandRead p => p.wfEmpty
  | .grant p => p.wf (· == 2) (fits 2)
  | .modeSetService p => p.wf (· == 2) fun _ => true
  | .modeSetRun p => p.wf (· == 2) fun _ => true
  | .modeSetLock p => p.wf (· == 2) fun m => 2 ≤ m.1 && fits 1 m.1
  | .commissionRead p => p.wf (· == 1) (fits 1)
  | .commissionWrite p =>
    p.wf (fun n => n % 2 == 1 && 9 ≤ n && n ≤ 39) fun r =>
      fits 1 r.1 && 4 ≤ r.2.length && r.2.length ≤ 19 && r.2.all (fits 2)
  | .restart p => p.wfEmpty
  | .unknownFunction code => code < 128 && !wingFunctions.contains code
  | .wingFrameDropped bytes => bytes.length ≤ 125
  | .wingGapTimeout bytes => bytes.length ≤ 125
  | .panelExtend _ m => fits 1 m
  | .panelHeadcount _ n => fits 2 n
  | .panelAdjust _ d => fitsSigned 1 d
  | .panelScene _ i => fits 1 i
  | .blindTarget _ r t => fits 1 r && r != 1 && r != 2 && fits 2 t
  | .blindStop _ t => fits 2 t
  | .blindAuto _ t => fits 2 t
  | .sensorAnswer _ a => fits 2 a.daylight
  | .occupancyReport dst g _ _ => (dst == .al || dst == .lbu) && g.wf
  | .entryStateChange _ g _ => g.wf
  | .governingChange dst g _ _ => (dst == .al || dst == .ot || dst == .lbu) && g.wf
  | .settledReport g => g.wf
  | .lostSettledReport g => g.wf
  | .regroupReport _ gone formed => gone.all Segs.wf && formed.all GroupRec.wf
  | .exitReport _ groups => groups.all GroupRec.wf
  | .demandUpdate figs => figs.all fun f => f.segs.wf && f.qmin ≤ f.qd
  | .headcountChange _ g => g.wf
  | .sessionEndOverrides _ gs => gs.all Segs.wf
  | .daylightValue _ lux => fits 2 lux
  | .lineBreak bytes => bytes.length ≤ 9
  | .linkGapTimeout bytes => bytes.length ≤ 9
  | .linkFrameDiscarded bytes => 1 ≤ bytes.length && bytes.length ≤ 9
  | .panelFrameRefused _ code payload => fits 1 code && payload.length ≤ 6
  | .powerOn => true
  | .resetLineAssert => true
  | .resetLineRelease _ => true
  | .loadIdleTimeout => true
  | .grantAgeExpiry => true
  | .wingFrameDiscarded => true
  | .panelBegin _ => true
  | .panelEnd _ => true
  | .panelRestore _ => true
  | .panelStatus _ => true
  | .upcomingFirst _ => true
  | .upcomingNext _ => true
  | .replyCollision => true
  | .minuteEvent => true
  | .loopTimerExpiry => true
  | .partitionContactChange _ _ _ => true
  | .settleTimerExpiry _ => true
  | .betweenTimerExpiry _ => true
  | .sensorPoll _ => true
  | .answerWindowExpiry _ => true
  | .staleTimerExpiry _ _ => true
  | .presenceEvent _ => true
  | .vacancyTimerExpiry _ => true
  | .vacancyReport _ => true
  | .presenceSourceReport _ _ => true
  | .cameToGovern _ => true
  | .ceasedToGovern _ => true
  | .sceneChange _ => true
  | .daylightSourceReport _ _ => true
  | .glareOnExpiry _ => true
  | .glareOffExpiry _ => true
  | .fadeStep _ _ => true
  | .blindStep _ => true
  | .reversingEnd _ => true
  | .budgetCharge _ => true
  | .budgetRefill _ => true
  | .driveUpEnd _ => true
  | .serviceLineAssert => true
  | .serviceLineRelease => true
  | .powerLoss => true
  | .wingReplyEnd => true
  | .linkReplyEnd => true

end Sys2Proof
end

