-- ==== Sys2Proof/Certificates/Slice0/Obligations.lean ====
section
/-! DEFINITION. The statements about the part. A number in brackets is an entry of the assumption log
that the statement rests on. -/

open Sys2Proof Sys2Proof.Machine

/-! ### The queue of commands and time -/

/-- The command at the front of the queue is run on the state with the queue's rest. -/
def Obligations.StepRunsFrontCommand : Prop :=
  ∀ (c : Instr) (rest : List Instr) (s : State), s.pending = c :: rest →
    step s = exec c { s with pending := rest }

/-- On an empty queue a running part takes the oldest report, else the first event due, else a tick of
50 ms; a part that does not run keeps still. The model's choice: [2], [3], [6]. -/
def Obligations.EmptyQueueTakesReportEventOrTick : Prop :=
  ∀ s : State, s.pending = [] →
    step s =
      if s.alive then
        match s.reports, s.due with
        | c :: _, _ => exec c s
        | [], c :: _ => exec c s
        | [], [] => .next s.ticked
      else .next s

/-- A tick counts every timer down by one and moves nothing else of the part (R27, R59, R73, R74, R89, R93, R98,
R114, R135, R154, R161, R164): the load's idle timer, the settle and between timers, the stale timers, the answer
window, the vacancy timers, the loop timer, the grant age, the glare timers, the dead time, the drive-up. The clock
counts a second in 20 ticks while it is valid, its minute event falls due as the seconds pass 59, and it stands
still while invalid (R28); a poll timer that runs out restarts at 10 seconds and its poll waits. Every second tick,
a tenth of a second, each row with a fade and each moving blind has its step due (R153, R160), and a blind at rest
counts its rest (R162). What is due is what has run down to 0, the minute event as the clock's second rolls over,
a poll that waits for a free line, a full second of motion and four seconds of rest. The tick is the model's choice
[3], and so are that the minute event is the first of the events due [2], the guards of charge and refill and the
phase of the tenths [29] and the end of a break's echo at a tick [44]. -/
def Obligations.TickCountsClockAndTimers : Prop :=
  let moving (b : Blind) : Prop := b.motion = .movingUp ∨ b.motion = .movingDown
  (∀ s : State, s.pending = [] → s.reports = [] → s.due = [] → s.alive = true →
    let less (timer : Option Nat) : Option Nat := timer.map (· - 1)
    let steps (i : Seg) : List Instr :=
      let l := s.lbu.segs.get i
      (if l.window.fade.isSome = true then [.fadeStep i .window] else []) ++
        (if l.inner.fade.isSome = true then [.fadeStep i .inner] else []) ++
        if moving l.blind then [.blindStep i] else []
    ∃ t, step s = .next t ∧
      t.tb =
        (if s.tb.valid = false then s.tb
        else if s.tb.ticks < 19 then { s.tb with ticks := s.tb.ticks + 1 }
        else if s.tb.seconds < 59 then { s.tb with ticks := 0, seconds := s.tb.seconds + 1 }
        else { s.tb with ticks := 0, rolloverDue := true }) ∧
      (t.tb.valid = true → t.tb.rolloverDue = true → t.due.head? = some .minuteEvent) ∧
      t = { s with
        tb := t.tb
        load := s.load.map fun l => { l with idle := l.idle - 1 }
        lm := { s.lm with parts := t.lm.parts }
        si := { s.si with
          sensors := t.si.sensors
          polls := t.si.polls
          outstanding := s.si.outstanding.map fun o => (o.1, o.2 - 1) }
        ot := { s.ot with segs := t.ot.segs }
        al := { s.al with loopTimer := less s.al.loopTimer }
        ad := { s.ad with age := less s.ad.age }
        lbu := { s.lbu with segs := t.lbu.segs }
        rl := { s.rl with breakEcho := false }
        tenth := !s.tenth
        reports := if s.tenth = true then [0, 1, 2, 3].flatMap steps else [] } ∧
      (∀ p, let was := s.lm.parts.get p
        t.lm.parts.get p = { was with settle := less was.settle, between := less was.between }) ∧
      (∀ i k, t.sensor i k = { s.sensor i k with stale := less (s.sensor i k).stale }) ∧
      (∀ i, let was := s.si.polls.get i
        (was.timer = none → t.si.polls.get i = was) ∧
        ∀ n, was.timer = some n →
          t.si.polls.get i = if n ≤ 1 then ⟨some 200, true⟩ else ⟨some (n - 1), was.waiting⟩) ∧
      (∀ i, t.ot.segs.get i = { s.ot.segs.get i with
        vacancy := (s.ot.segs.get i).vacancy.map fun v => { v with left := v.left - 1 } }) ∧
      ∀ i, let l := s.lbu.segs.get i
        t.lbu.segs.get i = { l with
          glare := { l.glare with
            onTimer := less l.glare.onTimer, offTimer := less l.glare.offTimer }
          blind := { l.blind with
            reversing := less l.blind.reversing
            driveUp := less l.blind.driveUp
            rest := if s.tenth = true ∧ s.configured i = true ∧ l.blind.driveUp = none ∧
              ¬ moving l.blind then l.blind.rest + 1 else l.blind.rest } }) ∧
  ∀ (s : State) (c : Instr), c ∈ s.due ↔ match c with
    | .minuteEvent => s.tb.valid = true ∧ s.tb.rolloverDue = true
    | .loopTimerExpiry => s.al.loopTimer = some 0
    | .loadIdleTimeout => ∃ l, s.load = some l ∧ l.idle = 0
    | .grantAgeExpiry => s.ad.age = some 0
    | .settleTimerExpiry p =>
      (s.lm.parts.get p).pending.isSome = true ∧ (s.lm.parts.get p).settle = some 0
    | .betweenTimerExpiry p => (s.lm.parts.get p).between = some 0
    | .answerWindowExpiry i => s.si.outstanding = some (i, 0)
    | .staleTimerExpiry i k => (s.sensor i k).stale = some 0
    | .sensorPoll i =>
      s.configured i = true ∧ (s.si.polls.get i).waiting = true ∧ s.si.outstanding = none
    | .vacancyTimerExpiry i => ∃ v, (s.ot.segs.get i).vacancy = some v ∧ v.left = 0
    | .glareOnExpiry i => (s.lbu.segs.get i).glare.onTimer = some 0
    | .glareOffExpiry i => (s.lbu.segs.get i).glare.offTimer = some 0
    | .driveUpEnd i => (s.blind i).driveUp = some 0
    | .reversingEnd i => (s.blind i).motion = .reversing ∧ (s.blind i).reversing = some 0
    | .budgetCharge i => (s.blind i).driveUp = none ∧ 10 ≤ (s.blind i).uncharged
    | .budgetRefill i => s.configured i = true ∧ (s.blind i).driveUp = none ∧
      ¬ moving (s.blind i) ∧ 40 ≤ (s.blind i).rest
    | _ => False

/-- MINUTE_EVENT: the minute count advances and saturates, the seconds return to 0 (R27, R28), every
loop is evaluated and takes its window step (R114), one demand update with every group's figures is handed on
and then each change of SETTLED is reported, in group order (R121, R125); in SERVICE BT takes no step (R54), in
RUN the reports of its steps follow (R32, R46). That every loop is evaluated, and reports, before BT's steps of
the minute is the model's choice [11], the order in which reports wait is [1], and so is that a minute event is
not acted on while the clock is invalid [4] and begins a whole second [3]. -/
def Obligations.MinuteEventAdvancesClockAndEvaluates : Prop :=
  ∀ s : State, s.alive = true →
    (s.tb.valid = true →
      let handed (t : State) : List Instr :=
        s.reports.erase .minuteEvent ++
          [.demandUpdate (t.al.loops.map fun l => ⟨l.segs, l.qd, l.qmin, l.qvent⟩)] ++
          (s.al.loops.zip t.al.loops).flatMap fun p =>
            if p.1.settled = false ∧ p.2.settled = true then [.settledReport p.2.segs]
            else if p.1.settled = true ∧ p.2.settled = false then [.lostSettledReport p.2.segs]
            else []
      ∃ t, exec .minuteEvent s = .next t ∧
        t.tb = ⟨min 4294967295 (s.tb.minutes + 1), 0, true, 0, false⟩ ∧
        t.al = { s.al with loops := s.al.loops.map fun l => s.windowStep (s.evaluate l) } ∧
        t.lm = s.lm ∧ t.si = s.si ∧ t.ot = s.ot ∧ t.ad = s.ad ∧ t.lbu = s.lbu ∧ t.cs = s.cs ∧
        t.wp = s.wp ∧ t.rl = s.rl ∧ t.pins = s.pins ∧ t.load = s.load ∧ t.tenth = s.tenth ∧
        t.pending = s.pending ∧ t.os = t.drive.os ∧
        (s.inRun = false → t.bt = s.bt ∧ t.nq = s.nq ∧ t.reports = handed t) ∧
        (s.inRun = true → ∃ steps, t.reports = handed t ++ steps ∧ ∀ c ∈ steps,
          (∃ ref segs began, c = .entryStateChange ref segs began) ∨
          ∃ ref sets, c = .sessionEndOverrides ref sets)) ∧
    (s.tb.valid = false → exec .minuteEvent s = .next (s.take .minuteEvent).drive)

/-- MINUTE_EVENT in RUN, step by step (R50): usage counting and the end of a session at 120 overrun minutes
(R49); the judgement at the booked end, OVERRUN or the end (R44); the no-show release (R43); the start with cause
SCHEDULE, each other active entry on its segments ending first with NEXT_BOOKING, or the removal as MISSED (R38,
R39); the lead and the entry to PREPARING (R33, R34). Under unique references no entry that is not active keeps a
start at or before now, no IN_SESSION entry an end at or before now, no entry is new, and one that no step concerns
stays as it is. In a sound table, of any length, the table left is the entries' fates in table order, with its
non-volatile image, and the notices and the reports of the five steps follow one another, each step's in table
order. A lone entry fares so in any table, and so do two of which an OVERRUN one gives way. The fields that
entering IN_SESSION creates are those of R39. The model's choices: AL hands its figures on before BT's steps [11],
reports wait in the order of raising [1], steps 1 to 3 and the endings that one start causes take table order [46],
the groups an ending entry governed are those LM's records name [35], and which set the stamp and the initial error
stand for where an entry lies outside the suite [53]; of its rates those of the configured segments alone are read
(R37). -/
def Obligations.MinuteEventTreatsTheTable : Prop :=
  (∀ (s : State) (e : Entry) (n : Nat), s.alive = true → s.tb.valid = true → s.inRun = true →
    s.bt.table = [e] → isActive e = false → n = min 4294967295 (s.tb.minutes + 1) →
    e.fix.start ≤ n →
    ∃ t, exec .minuteEvent s = .next t ∧
      (n < e.fix.stop →
        t.bt = { s.bt with table :=
          [{ e with vol := begunVolatile s.comm e.fix n .schedule (s.entryObserved e) e.vol }] } ∧
        t.nq.list.getLast? = some ⟨s.nq.counter, n, .sessionStarted ⟨e.fix.ref, e.fix.kind,
          ⟨e.fix.first, e.fix.span⟩, e.fix.start, e.fix.stop, n, .schedule⟩⟩ ∧
        t.reports.getLast? = some (.entryStateChange e.fix.ref ⟨e.fix.first, e.fix.span⟩ true)) ∧
      (e.fix.stop ≤ n →
        t.bt = { s.bt with table := [], stored := [] } ∧
        t.nq.list.getLast? = some ⟨s.nq.counter, n, .missed e.fix.ref e.fix.kind
          ⟨e.fix.first, e.fix.span⟩ e.fix.start e.fix.stop .timePassed⟩)) ∧
  (∀ (s : State) (n : Nat), s.alive = true → s.tb.valid = true → s.inRun = true →
    n = min 4294967295 (s.tb.minutes + 1) →
    let table := s.bt.table
    let segs (e : Entry) : Segs := ⟨e.fix.first, e.fix.span⟩
    let change (e : Entry) (began : Bool) : Instr := .entryStateChange e.fix.ref (segs e) began
    let seen (e : Entry) : Bool := s.entryObserved e
    let ran (e : Entry) : Nat := e.vol.overrunMinutes.getD 0
    let counted (e : Entry) : Volatile := { e.vol with
      occupiedMinutes := if seen e then some (min 65535 (e.vol.occupiedMinutes.getD 0 + 1))
        else e.vol.occupiedMinutes
      overrunMinutes := if e.vol.state = .overrun then some (ran e + 1) else e.vol.overrunMinutes }
    let overruns (e : Entry) : Entry :=
      ⟨e.fix, { counted e with state := .overrun, overrunMinutes := some (ran e) }⟩
    let ended (e : Entry) (cause : EndCause) : Notice :=
      .sessionEnded (endedFields ⟨e.fix, counted e⟩ n cause)
    let released (e : Entry) : Notice := .released ⟨e.fix.ref, e.fix.kind, segs e, e.fix.start,
      e.fix.stop, e.vol.actualStart.getD 0, e.vol.startCause.getD .schedule⟩
    let ends (e : Entry) : List Instr :=
      [change e false, .sessionEndOverrides e.fix.ref (s.governedBy e.fix.ref)]
    let becomes (table : List Entry) (notices : List Notice) (reports : List Instr) : Prop :=
      ∃ t, exec .minuteEvent s = .next t ∧ t.bt.table = table ∧ t.bt.rates = s.bt.rates ∧
        (table = [] → t.bt.stored = []) ∧
        t.nq = (({ s with tb := ⟨n, 0, true, 0, false⟩ } : State).notifyAll notices).nq ∧
        ∀ c ∈ reports, c ∈ t.reports
    let absent (e : Entry) : Bool := !e.fix.exempt && e.vol.presence == some false
      && (noShowWait? s.comm e.fix.kind).any (fun w => decide (e.vol.actualStart.getD 0 + w ≤ n))
      && (segList (segs e)).any (fun i => (s.si.presenceSource.get i).isSome)
    let temps (g : Segs) : List Int := (segList g).filterMap fun i =>
      if s.sensorOk i .temperature then (s.sensor i .temperature).last else none
    let error (e : Entry) (g : Segs) : Option Nat := if temps g = [] then none else
      some (((2 * (temps g).sum + (temps g).length) / (2 * (temps g).length)
        - (storedSetpoint s.comm e.fix : Int)).natAbs)
    let rate (e : Entry) : Nat :=
      (((segList (segs e)).filter s.configured).map s.bt.rates.get).foldl max 0
    let lead (e : Entry) : Nat := match e.fix.lead, error e (segs e) with
      | some l, _ => l
      | none, some e0 => max 5 (min 90 (s.suite.baseLead + (e0 * rate e + 9) / 10))
      | none, none => max 5 (min 90 (s.suite.baseLead + 30))
    let due (e : Entry) : Bool := e.vol.state == .planned && decide (n < e.fix.start)
      && decide (e.fix.start ≤ n + 120) && decide (0 < lead e) && decide (e.fix.start ≤ n + lead e)
    let prepared (e : Entry) : Entry := ⟨e.fix, { e.vol with
      state := .preparing, leadUsed := some (lead e), prepStart := some n
      stamp := some (s.homeGroup e.fix)
      initialError := some ((error e (s.homeGroup e.fix)).getD 0)
      liveSetpoint := some (storedSetpoint s.comm e.fix)
      currentScene := some (bookedScene s.comm e.fix), savedScene := none }⟩
    let begun (e : Entry) : Entry :=
      { e with vol := begunVolatile s.comm e.fix n .schedule (seen e) e.vol }
    (∀ e, table = [e] →
      (e.vol.state = .overrun →
        (119 ≤ ran e → becomes [] [ended e .overrunLimit] (ends e)) ∧
        (ran e < 119 → becomes [⟨e.fix, counted e⟩] [] [])) ∧
      (e.vol.state = .inSession → e.fix.stop ≤ n →
        (seen e = true → becomes [overruns e] [] [change e false]) ∧
        (seen e = false → becomes [] [ended e .schedule] (ends e))) ∧
      (e.vol.state = .inSession → n < e.fix.stop →
        (absent e = true → becomes [] [released e] [change e false]) ∧
        (absent e = false → becomes [⟨e.fix, counted e⟩] [] [])) ∧
      (e.vol.state = .planned → n < e.fix.start →
        (due e = true → becomes [prepared e] [] [change e false]) ∧
        (due e = false → becomes [e] [] [])) ∧
      (isPrepared e = true → n < e.fix.start → becomes [e] [] [])) ∧
    let starts (e : Entry) : Bool :=
      !isActive e && decide (e.fix.start ≤ n) && decide (n < e.fix.stop)
    let endedBy (e : Entry) : Option Entry :=
      if isActive e then table.find? fun x => starts x && segsMeet (segs x) (segs e) else none
    let lasts (e : Entry) : Option Entry :=
      if e.vol.state = .overrun then (if 119 ≤ ran e then none else some ⟨e.fix, counted e⟩)
      else if e.fix.stop ≤ n then (if seen e = true then some (overruns e) else none)
      else if absent e = true then none else some ⟨e.fix, counted e⟩
    let fate (e : Entry) : Option Entry :=
      if isActive e = true then (if (endedBy e).isSome = true then none else lasts e)
      else if e.fix.start ≤ n then (if n < e.fix.stop then some (begun e) else none)
      else if due e = true then some (prepared e) else some e
    ∃ t, exec .minuteEvent s = .next t ∧
      (s.UniqueRefs →
        (∀ e ∈ t.bt.table, (isActive e = false → n < e.fix.start) ∧
          (e.vol.state = .inSession → n < e.fix.stop) ∧ ∃ e0 ∈ table, e0.fix = e.fix) ∧
        ∀ e ∈ table, fate e = some e → e ∈ t.bt.table) ∧
      (s.TableSound →
        let limited := table.filter fun e => e.vol.state == .overrun && decide (119 ≤ ran e)
        let judged := table.filter fun e => e.vol.state == .inSession && decide (e.fix.stop ≤ n)
        let unseen := table.filter fun e =>
          e.vol.state == .inSession && decide (n < e.fix.stop) && absent e
        let reached := table.filter fun e => !isActive e && decide (e.fix.start ≤ n)
        let givenWay (x : Entry) : List Entry :=
          (table.filter fun e => endedBy e == some x).filterMap lasts
        t.bt = { s.bt with
          table := table.filterMap fate, stored := (table.filterMap fate).map (·.fix) } ∧
        t.nq = (({ s with tb := ⟨n, 0, true, 0, false⟩ } : State).notifyAll (
          limited.map (ended · .overrunLimit) ++
          (judged.filter fun e => !seen e).map (ended · .schedule) ++
          unseen.map released ++
          reached.flatMap fun x =>
            if x.fix.stop ≤ n then [.missed x.fix.ref x.fix.kind (segs x) x.fix.start x.fix.stop
              .timePassed]
            else (givenWay x).map (fun e => .sessionEnded (endedFields e n .nextBooking)) ++
              [.sessionStarted ⟨x.fix.ref, x.fix.kind, segs x, x.fix.start, x.fix.stop, n,
                .schedule⟩])).nq ∧
        t.reports = s.reports.erase .minuteEvent ++ [.demandUpdate (demandFigs t.al.loops)] ++
          settledReports s.al.loops t.al.loops ++
          limited.flatMap ends ++
          judged.flatMap (fun e => if seen e = true then [change e false] else ends e) ++
          unseen.map (change · false) ++
          reached.flatMap (fun x =>
            if x.fix.stop ≤ n then (if x.vol.state = .planned then [] else [change x false])
            else (givenWay x).flatMap ends ++ [change x true]) ++
          (table.filter due).map (change · false))) ∧
  (∀ (s : State) (a b : Entry) (n : Nat), s.alive = true → s.tb.valid = true → s.inRun = true →
    s.bt.table = [a, b] → a.fix.ref ≠ b.fix.ref → n = min 4294967295 (s.tb.minutes + 1) →
    a.vol.state = .overrun → a.vol.overrunMinutes.getD 0 < 119 → isActive b = false →
    b.fix.start ≤ n → n < b.fix.stop → segsMeet (entrySegs a) (entrySegs b) = true →
    ∃ t f, exec .minuteEvent s = .next t ∧
      t.bt.table =
        [{ b with vol := begunVolatile s.comm b.fix n .schedule (s.entryObserved b) b.vol }] ∧
      f.ref = a.fix.ref ∧ f.actualEnd = n ∧ f.overrun = a.vol.overrunMinutes.getD 0 + 1 ∧
      f.endCause = .nextBooking ∧
      t.nq = (({ s with tb := ⟨n, 0, true, 0, false⟩ } : State).notifyAll
        [.sessionEnded f, .sessionStarted (startedFields b.fix n .schedule)]).nq) ∧
  ∀ (c : Commission) (f : Fixed) (now : Nat) (cause : StartCause) (seen : Bool) (v : Volatile),
    begunVolatile c f now cause seen v = { v with
      state := .inSession
      actualStart := some now
      startCause := some cause
      occupiedMinutes := some 0
      presence := some seen
      liveSetpoint := if v.liveSetpoint = none then some (f.setpoint.getD (comfortOf c f.kind))
        else v.liveSetpoint
      currentScene := if v.liveSetpoint = none then some (f.scene.getD (defaultSceneOf c f.kind))
        else v.currentScene
      savedScene := if v.liveSetpoint = none then none else v.savedScene }

/-- LOOP_TIMER_EXPIRY: a running loop timer restarts at 60 seconds, every loop is evaluated with its
window step, one demand update is handed on and then the changes of SETTLED (R114, R121); that a stopped
timer does nothing is the model's choice [4]. What the end of a window of each mode makes of its figure is
R123 and R124. The evaluation of a loop in RUN is that of R115 to R120: temperature and errors, Q_temp, Q_vent,
the CO2 trim, the demand, the reheat, the setback of a PARKED loop; its window step is that of R122. In SERVICE it
forms the temperature, the demand is the group's minimum, and Q_vent and reheat are 0 (R128). Without
an active setpoint there is no error and no step, also while the report of its owner's end is on its way [12];
the people figure is LM's as it stands [28]. -/
def Obligations.LoopTimerExpiryEvaluatesAndRestarts : Prop :=
  (∀ s : State, s.alive = true →
      (s.al.loopTimer.isSome = true →
        ∃ t loops, exec .loopTimerExpiry s = .next t ∧
          loops = (s.al.loops.map fun l => s.windowStep (s.evaluate l)) ∧
          t = { s with
            al := { s.al with loops := loops, loopTimer := some 1200 }
            reports := (s.reports.erase .loopTimerExpiry ++ [.demandUpdate (demandFigs loops)])
              ++ settledReports s.al.loops loops
            os := t.os } ∧
          t.os = t.drive.os) ∧
      (s.al.loopTimer = none → exec .loopTimerExpiry s = .next (s.take .loopTimerExpiry).drive)) ∧
  (∀ (s : State) (l : Loop),
    let segs := segList l.segs
    let temps : List Int := segs.filterMap fun i =>
      if s.sensorOk i .temperature then (s.sensor i .temperature).last else none
    let co2 : List Nat := segs.filterMap fun i =>
      if s.sensorOk i .co2 then (s.sensor i .co2).last.map Int.toNat else none
    let temp : Option Int := if temps = [] then none
      else some ((2 * temps.sum + temps.length) / (2 * temps.length))
    let setpoint : Option Nat :=
      if l.level = .none then
        (if s.al.occ.any (fun o => o.segs == l.segs) = true ∧ s.alWalkIn l.segs = true
          then (s.walkIn? l.segs).map (·.setpoint) else none)
      else l.governing.bind fun ref => (s.entry? ref).bind (·.vol.liveSetpoint)
    let people := ((s.lm.groups.find? fun g => g.segs == l.segs).map (·.people)).getD l.people
    let low := (segs.map fun i => (s.segRec i).airMin).sum
    let high := (segs.map fun i => (s.segRec i).airMax).sum
    let half : Int := (s.suite.deadband / 2 : Nat)
    let error : Option Int := temp.bind fun t => setpoint.map fun p => t - (p : Int)
    let cooling : Nat := (error.map fun e => if half < e then (e - half).toNat else 0).getD 0
    let heating : Nat := (error.map fun e => if half < -e then (-e - half).toNat else 0).getD 0
    let factor := if l.mode = .acquire then s.suite.multiplier else 1
    let gain := (segs.map fun i => (s.segRec i).coolingGain).sum * factor
    let heads := if s.alOccupied l.segs = true
      then (if l.level = .session then people else s.suite.walkInHeadcount) else 0
    let area := (segs.map fun i => (s.segRec i).area).sum
    let vent := (area * s.suite.areaRate + 9) / 10 + heads * s.suite.perPerson
    let trim := match co2.max? with
      | none => (vent + 4) / 5
      | some worst => if s.suite.co2Limit - 200 < worst
        then min vent (vent * (worst - (s.suite.co2Limit - 200)) / 200) else 0
    let base : Loop := { l with temp := temp, noTemp := temp.isNone, people := people, qmin := low }
    (s.inRun = false → s.evaluate l = { base with qd := low, qvent := 0, reheat := 0 }) ∧
    (s.inRun = true → l.mode = .parked → s.evaluate l = { base with
      qd := low
      qvent := 0
      reheat := match temp with
        | none => 0
        | some t => if t < s.suite.setbackLow then 1000
          else if t < s.suite.setbackLow + 10 then l.reheat else 0 }) ∧
    (s.inRun = true → l.mode ≠ .parked → s.evaluate l = { base with
      qd := max low (min high (max (vent + trim) (low + cooling * gain)))
      qvent := vent
      reheat := min 1000 (heating * (s.suite.heatingGain * factor)) }) ∧
    (l.mode = .parked → s.windowStep l = l) ∧
    (l.mode ≠ .parked → l.noTemp = true → s.windowStep l =
      { l with settled := false, windowMinutes := 0, windowWorst := 0, good := 0 }) ∧
    (∀ (t : Int) (p : Nat), l.mode ≠ .parked → l.noTemp = false → l.temp = some t →
      setpoint = some p →
      let worst := max l.windowWorst (t - (p : Int)).natAbs
      let grown : Loop := { l with windowWorst := worst, windowMinutes := l.windowMinutes + 1 }
      s.windowStep l =
        if l.mode = .acquire then
          (if l.windowMinutes + 1 < 2 then grown else endAcquireWindow grown worst)
        else if l.windowMinutes + 1 < 8 then grown else endTrackWindow grown worst p) ∧
    (l.mode ≠ .parked → l.noTemp = false → (l.temp = none ∨ setpoint = none) →
      s.windowStep l = l)) ∧
  ∀ (l : Loop) (figure setpoint : Nat),
    endAcquireWindow l figure =
      (if 8 < figure then { l with windowMinutes := 0, windowWorst := 0, good := 0 }
      else if 1 ≤ l.good then
        { l with mode := .track, windowMinutes := 0, windowWorst := 0, good := 0 }
      else { l with windowMinutes := 0, windowWorst := 0, good := l.good + 1 }) ∧
    endTrackWindow l figure setpoint =
      (if 15 < figure then
        { l with mode := .acquire, reference := some setpoint, settled := false
                 windowMinutes := 0, windowWorst := 0, good := 0 }
      else if l.settled = false ∧ figure ≤ 3 then
        { l with settled := true, windowMinutes := 0, windowWorst := 0 }
      else if l.settled = true ∧ 6 < figure then
        { l with settled := false, windowMinutes := 0, windowWorst := 0 }
      else { l with windowMinutes := 0, windowWorst := 0 })

/-! ### Restart, supply and reset line -/

/-- POWER_ON, RESET_LINE_RELEASE after 1 ms or more, and RESTART: every block takes its restart values, the
partitions their readings at once with PARTITION_FAULT for those found FAULT, the polls their 10 seconds, the
port its address from the straps (R71, R74, R87, R89, R107, R170); the clock becomes invalid but for RESTART,
which keeps it and sends its reply OK first (R193). After a RESTART with the clock valid the re-entry evaluation
follows (R52): every stored entry stands PLANNED, and one whose end has passed is removed as MISSED, cause
TIME_PASSED, one whose interval is in progress begins with cause RESUMED, and one whose start lies ahead stays
(R53, R55); that a removal is reported [21], the order of several faults [47], what a position that is not
configured holds [15] and the order in which reports wait [1], is the model's choice. That a part supplied while
its reset line is low has restarted and holds its outputs at 0 until the release is the model's reading [6]. -/
def Obligations.RestartTriggersRestoreEveryBlock : Prop :=
  (∀ s : State,
    ∃ t, exec .powerOn s = .next t ∧ t.tb = ⟨0, 0, false, 0, false⟩ ∧
      t.pins = { s.pins with powered := true } ∧ t.wp.lastSent = none ∧
      (s.pins.resetLow = false → Restarted s t .power) ∧
      (s.pins.resetLow = true → Restarted s { t with os := t.drive.os } .power ∧
        t.os = Four.all ⟨0, 0, 0, 0, .stop⟩)) ∧
  (∀ (s : State) (low : Nat), s.pins.powered = true → 1000 ≤ low →
    ∃ t, exec (.resetLineRelease low) s = .next t ∧ Restarted s t .line ∧
      t.tb = ⟨0, 0, false, 0, false⟩ ∧ t.pins = { s.pins with resetLow := false }) ∧
  (∀ s : State, s.TakesRequest →
    ∃ t, exec (.restart (.fields ())) s = .next t ∧ t.tb = s.tb ∧ RestartedBlocks s t .request ∧
      t.wp.lastSent = some ⟨0x5F, .ok, !s.nq.list.isEmpty, []⟩ ∧ t.pins = s.pins ∧
      (s.tb.valid = true → t.al.loopTimer = none) ∧
      (s.tb.valid = false → Restarted s t .request) ∧
      (s.tb.valid = true →
        let n := s.tb.minutes
        ((s.bt.stored.map (·.ref)).Nodup →
          (∀ f ∈ s.bt.stored, n < f.start → n < f.stop → ⟨f, Volatile.planned⟩ ∈ t.bt.table) ∧
          ∀ e ∈ t.bt.table, e.fix ∈ s.bt.stored ∧ n < e.fix.stop ∧
            (e.vol.state = .planned → n < e.fix.start)) ∧
        ∀ f, s.bt.stored = [f] →
          let segs : Segs := ⟨f.first, f.span⟩
          let last (notice : Notice) (report : Instr) : Prop :=
            t.nq.list.getLast?.map (fun r => (r.minute, r.notice)) = some (n, notice) ∧
              t.reports.getLast? = some report
          (f.stop ≤ n → t.bt.table = [] ∧ t.bt.stored = [] ∧
            last (.missed f.ref f.kind segs f.start f.stop .timePassed)
              (.entryStateChange f.ref segs false)) ∧
          (f.start ≤ n → n < f.stop → t.bt.stored = [f] ∧
            t.bt.table = [⟨f, begunVolatile t.comm f n .resumed false Volatile.planned⟩] ∧
            last (.sessionStarted ⟨f.ref, f.kind, segs, f.start, f.stop, n, .resumed⟩)
              (.entryStateChange f.ref segs true)) ∧
          (n < f.start → n < f.stop →
            t.bt.table = [⟨f, Volatile.planned⟩] ∧ t.bt.stored = [f])))

/-- RESET_LINE_ASSERT and POWER_LOSS: every output at 0, every motor stopped, neither port driven, and
nothing else moves (R193, R12); a release of the line after less than 1 ms lets the outputs follow again.
That the ports lose their frame and reply, and what the short release leaves, is the model's [6], [7]. -/
def Obligations.ResetLineAndPowerLossSilenceThePart : Prop :=
  ∀ s : State,
    let quiet : State := { s with
      os := Four.all ⟨0, 0, 0, 0, .stop⟩
      wp := { s.wp with rx := .hunt, held := none, reply := none }
      rl := { s.rl with state := .idle, frame := [], reply := none, breakEcho := false } }
    exec .resetLineAssert s = .next { quiet with pins := { s.pins with resetLow := true } } ∧
    exec .powerLoss s = .next { quiet with pins := { s.pins with powered := false } } ∧
    ∀ low, low < 1000 → s.pins.powered = true →
      exec (.resetLineRelease low) s =
        .next { s with pins := { s.pins with resetLow := false }, os := s.drive.os }

/-- The values the spec gives for reset: the clock (R27), the next ad-hoc reference (R6), the rates
(R37), no load (R56), the sensors (R91), the segments' occupancy (R98), the loop (R108), the grant
(R131), the rows and blind of the configured segment (R149, R156), the notice queue (R177), the mode and
the lock (R190), the two ports (R169, R181), the outputs: the terminal at the minimum of the one configured segment,
its motor up for the drive-up, everything else at 0 (R121, R139, R149, R156, R164). The table as shipped and the input levels are the model's
choice [8]. The invariants hold there. -/
def Obligations.ResetHoldsTheSpecsValues : Prop :=
  let s := State.reset
  s.tb.minutes = 0 ∧ s.tb.seconds = 0 ∧ s.tb.valid = false ∧ s.bt.nextAdhoc = 4294901760 ∧
  s.bt.rates = ⟨10, 10, 10, 10⟩ ∧ s.load = none ∧ s.cs.effective = Commission.factory ∧
  s.cs.pending = [] ∧ s.cs.mode = .run ∧ s.cs.lock = false ∧
  s.si.sensors.get 0 = SegSensors.initial ∧ s.ot.segs = Four.all ⟨none, true, false, false⟩ ∧
  s.al.loops.map (fun l => (l.mode, l.settled, l.reference, l.noTemp)) =
    [(.parked, false, none, true)] ∧
  s.ad.grant = 1000 ∧ s.ad.source = .default ∧ s.ad.age = none ∧
  (s.lbu.segs.get 0).window = ⟨0, 0, none⟩ ∧ (s.lbu.segs.get 0).inner = ⟨0, 0, none⟩ ∧
  (s.lbu.segs.get 0).glare = ⟨false, none, none⟩ ∧ (s.lbu.segs.get 0).blind.motion = .movingUp ∧
  s.nq = ⟨[⟨0, 0, .restarted .power⟩], false, 1⟩ ∧
  s.wp.rx = .hunt ∧ s.wp.cursor = none ∧ s.rl.state = .idle ∧ s.rl.cursors = Four.all none ∧
  s.os = ⟨⟨100, 0, 0, 0, .up⟩, ⟨0, 0, 0, 0, .stop⟩, ⟨0, 0, 0, 0, .stop⟩, ⟨0, 0, 0, 0, .stop⟩⟩ ∧
  s.pending = [] ∧ s.TableSound ∧ s.OutputsFollow ∧ s.NoticesFit ∧ s.RecordsFit ∧ s.GroupsFormed

/-! ### The clock's requests -/

/-- TIME_SET: above 59 seconds it is refused when addressed and ignored when broadcast; where no
re-entry evaluation is due (SERVICE, or the same minute of a valid clock) it sets the counts, makes the
clock valid, stops the loop timer, and changes nothing else; a broadcast is never answered (R29, R114). That
the running second begins anew is the model's choice [3]. -/
def Obligations.TimeSetSetsClockOrIsRefused : Prop :=
  ∀ (s : State) (m sec : Nat), s.TakesRequest → s.OutputsFollow →
    (59 < sec →
      exec (.timeSet false (.fields (m, sec))) s = .next (s.replied 0x01 .outOfRange []) ∧
      exec (.timeSet true (.fields (m, sec))) s = .next { s with wp := { s.wp with rx := .hunt } }) ∧
    (sec ≤ 59 → (s.inRun = false ∨ (s.tb.valid = true ∧ s.tb.minutes = m)) →
      let u : State := { s with
        tb := ⟨m, sec, true, 0, false⟩, al := { s.al with loopTimer := none } }
      exec (.timeSet false (.fields (m, sec))) s = .next (u.replied 0x01 .ok []) ∧
      exec (.timeSet true (.fields (m, sec))) s =
        .next { u with wp := { s.wp with rx := .hunt } })

/-- A TIME_SET in RUN that makes the clock valid or moves its minute runs the re-entry evaluation (R29, R52,
R53): no entry whose end has been reached stays, no PLANNED entry whose start has been reached stays PLANNED,
no entry is new, and every other entry keeps its state and fields. At a table of one entry: an active one past
its end ends with cause CLOCK, another past its end leaves as MISSED with cause TIME_PASSED, a PLANNED one whose
interval is in progress begins with cause RESUMED. At a table of two an active entry ends with NEXT_BOOKING
before the one that begins on its segments. The model's: that the running second begins anew [3], that the
removal of a PLANNED entry is reported [21], that the groups an ending entry governed are those LM's records name
[35], and the order in which reports wait [1]. The active entry may stand before or behind the one that begins:
behind it after a step of the clock back to before its start, when both may be sound together (R11, R38). -/
def Obligations.TimeSetReentryLeavesNoPastEntry : Prop :=
  (∀ (s : State) (m sec : Nat) (broadcast : Bool), s.TakesRequest → s.UniqueRefs → s.inRun = true →
    sec ≤ 59 → (s.tb.valid = false ∨ s.tb.minutes ≠ m) →
    let begins (e : Entry) : Prop :=
      e.vol.state = .planned ∧ e.fix.start ≤ m ∧ m < e.fix.stop
    ∃ t, exec (.timeSet broadcast (.fields (m, sec))) s = .next t ∧
      t.tb = ⟨m, sec, true, 0, false⟩ ∧ t.al.loopTimer = none ∧
      (∀ e ∈ t.bt.table, m < e.fix.stop ∧ (e.vol.state = .planned → m < e.fix.start) ∧
        ∃ e0 ∈ s.bt.table, e0.fix = e.fix) ∧
      (∀ e ∈ s.bt.table, m < e.fix.stop → ¬ begins e →
        (isActive e = true → ∀ x ∈ s.bt.table, begins x →
          segsMeet (entrySegs e) (entrySegs x) = false) → e ∈ t.bt.table) ∧
      (broadcast = true → t.wp = { s.wp with rx := .hunt }) ∧
      (broadcast = false →
        t.wp = (({ s with nq := t.nq } : State).replied 0x01 .ok []).wp) ∧
      t.cs = s.cs ∧ t.lm = s.lm ∧ t.si = s.si ∧ t.ot = s.ot ∧ t.ad = s.ad ∧ t.load = s.load) ∧
  ∀ (s : State) (m sec : Nat) (broadcast : Bool), s.TakesRequest → s.inRun = true →
    sec ≤ 59 → (s.tb.valid = false ∨ s.tb.minutes ≠ m) →
    let becomes (table : List Entry) (notices : List Notice) (reports : List Instr) : Prop :=
      ∃ t, exec (.timeSet broadcast (.fields (m, sec))) s = .next t ∧
        t.bt = { s.bt with
          table := table, stored := if table.length < s.bt.table.length
            then table.map (·.fix) else s.bt.stored } ∧
        t.nq = (({ s with tb := ⟨m, sec, true, 0, false⟩ } : State).notifyAll notices).nq ∧
        t.reports = s.reports ++ reports
    let change (e : Entry) (began : Bool) : Instr :=
      .entryStateChange e.fix.ref ⟨e.fix.first, e.fix.span⟩ began
    let ends (e : Entry) : List Instr :=
      [change e false, .sessionEndOverrides e.fix.ref (s.governedBy e.fix.ref)]
    let begun (e : Entry) : Entry :=
      { e with vol := begunVolatile s.comm e.fix m .resumed (s.entryObserved e) e.vol }
    let started (e : Entry) : Notice := .sessionStarted ⟨e.fix.ref, e.fix.kind,
      ⟨e.fix.first, e.fix.span⟩, e.fix.start, e.fix.stop, m, .resumed⟩
    (∀ e, s.bt.table = [e] →
      (isActive e = true → e.fix.stop ≤ m →
        becomes [] [.sessionEnded (endedFields e m .clock)] (ends e)) ∧
      (isActive e = false → e.fix.stop ≤ m →
        becomes [] [.missed e.fix.ref e.fix.kind ⟨e.fix.first, e.fix.span⟩ e.fix.start e.fix.stop
          .timePassed] [change e false]) ∧
      (e.vol.state = .planned → e.fix.start ≤ m → m < e.fix.stop →
        becomes [begun e] [started e] [change e true]) ∧
      (m < e.fix.stop → (e.vol.state ≠ .planned ∨ m < e.fix.start) → becomes [e] [] [])) ∧
    ∀ a b, (s.bt.table = [a, b] ∨ s.bt.table = [b, a]) → a.fix.ref ≠ b.fix.ref →
      isActive a = true → m < a.fix.stop → b.vol.state = .planned → b.fix.start ≤ m → m < b.fix.stop →
      segsMeet (entrySegs a) (entrySegs b) = true →
      becomes [begun b] [.sessionEnded (endedFields a m .nextBooking), started b]
        (ends a ++ [change b true])

/-! ### The booking table -/

/-- BOOK_ADD: the first check of R14's table that fails gives the reason and leaves everything as it was;
when all pass, the entry with its flags settled (R9) and figures clamped (R10) joins the table at its
place, PLANNED, and the image is written with it, in RUN and in SERVICE. -/
def Obligations.BookAddAdmitsOrRefuses : Prop :=
  ∀ (s : State) (w : FixedWire), s.TakesRequest → s.OutputsFollow →
    exec (.bookAdd (.fields w)) s = .next
      (if addReason s w = .ok
        then (s.withTable (insertEntry ⟨admitted s w, Volatile.planned⟩ s.bt.table)).replied 0x10 .ok []
        else s.replied 0x10 (addReason s w) [])

/-- BOOK_CHANGE: no such entry; nothing to change; the first failing check of R15's table; and, for a
PLANNED entry, the candidate in its place (R15, R16). The candidate is the entry's fields with the changes
applied, the flags of an EXAM settled and the figures clamped (R15, R9, R10). That a field set to its own
value alters nothing and that R19 goes by the literal end are the model's reading [16]. -/
def Obligations.BookChangeRefusesOrChangesPlanned : Prop :=
  (∀ (s : State) (c : ChangeWire), s.TakesRequest → s.OutputsFollow →
    (s.entry? c.ref = none → exec (.bookChange (.fields c)) s = .next (s.replied 0x11 .notFound [])) ∧
    ∀ e, s.entry? c.ref = some e →
      (allKept c = true → exec (.bookChange (.fields c)) s = .next (s.replied 0x11 .ok [])) ∧
      (allKept c = false → changeReason s c e ≠ .ok →
        exec (.bookChange (.fields c)) s = .next (s.replied 0x11 (changeReason s c e) [])) ∧
      (allKept c = false → changeReason s c e = .ok → e.vol.state = .planned →
        exec (.bookChange (.fields c)) s = .next
          ((s.withTable (insertEntry { e with fix := candidate s.comm c e.fix }
            (s.bt.table.filter fun x => x.fix.ref != e.fix.ref))).replied 0x11 .ok []))) ∧
  ∀ (comm : Commission) (c : ChangeWire) (f : Fixed),
    let plain {α : Type} (x : Change α) (old : α) : α := match x with
      | .set a => a
      | _ => old
    let optional {α : Type} (x : Change α) (old : Option α) : Option α := match x with
      | .set a => some a
      | .clear => none
      | _ => old
    let first := plain c.first f.first
    let span := plain c.span f.span
    let kind := match c.kind with
      | .set code => if code = 1 then .lecture else if code = 2 then .caseStudy
        else if code = 3 then .exam else if code = 4 then .event else f.kind
      | _ => f.kind
    candidate comm c f = {
      ref := f.ref
      start := plain c.start f.start
      stop := plain c.stop f.stop
      first := first
      span := span
      kind := kind
      headcount := min (min (plain c.headcount f.headcount) 400) (seatsOf comm ⟨first, span⟩)
      scene := optional c.scene f.scene
      setpoint := (optional c.setpoint (f.setpoint.map Int.ofNat)).map fun n =>
        (max 160 (min 280 n)).toNat
      lead := (optional c.lead f.lead).map (min 90)
      held := plain c.held f.held || kind == .exam
      exempt := plain c.exempt f.exempt || kind == .exam }

/-- BOOK_CHANGE of an entry under way: a PREPARING or READY entry that moves goes back to PLANNED with no
other volatile field, a READY one with NOT_READY (R17); an active entry whose end is set to a minute at or
before now ends with cause SUPERVISOR once its other changes are applied, the notice carrying the new end, with
its entry state change and the report of its end (R19, R32, R46). Any other change of a prepared or active entry
takes effect in place (R17, R18): its live setpoint and its scenes are reloaded where the stored setpoint and the
booked scene alter (R20), each loop it governs judges the new setpoint by R111, the model's choice for a passing
state being [12], [52], and an OVERRUN entry with a new end ahead is IN_SESSION again (R18). That values are
compared and that R19 goes by the literal end is the model's reading [16], the order in which the reports wait
its choice [1], and so is that the groups an ending entry governed are those LM's records name [35]. -/
def Obligations.BookChangeReturnsToPlannedOrEndsSession : Prop :=
  ∀ (s : State) (c : ChangeWire) (e : Entry), s.TakesRequest → s.entry? c.ref = some e →
    allKept c = false → changeReason s c e = .ok →
    let g := candidate s.comm c e.fix
    let others := s.bt.table.filter fun x => x.fix.ref != e.fix.ref
    let change : Instr := .entryStateChange e.fix.ref (entrySegs e) false
    let becomes (table : List Entry) (u : State) : Prop := exec (.bookChange (.fields c)) s =
      .next (({ u with bt := (s.withTable table).bt } : State).replied 0x11 .ok []).drive
    let stored (f : Fixed) : Nat := f.setpoint.getD (comfortOf s.comm f.kind)
    let booked (f : Fixed) : Nat := f.scene.getD (defaultSceneOf s.comm f.kind)
    let reloaded : Volatile := { e.vol with
      liveSetpoint := if stored g = stored e.fix then e.vol.liveSetpoint else some (stored g)
      currentScene := if booked g = booked e.fix then e.vol.currentScene else some (booked g)
      savedScene := if booked g = booked e.fix then e.vol.savedScene else none }
    let loops := if stored g = stored e.fix then s.al.loops else s.al.loops.map fun l =>
      if l.governing = some e.fix.ref
        then (s.withTable (insertEntry ⟨g, reloaded⟩ others)).loopFollowing l else l
    let told := s.reports ++ loopReports s.al.loops loops ++
      (if booked g = booked e.fix then [] else [Instr.sceneChange e.fix.ref]) ++
      (if isActive e = true ∧ g.headcount ≠ e.fix.headcount
        then [Instr.headcountChange e.fix.ref (entrySegs e)] else [])
    let resumes := e.vol.state = .overrun ∧ g.stop ≠ e.fix.stop ∧ s.tb.minutes < g.stop
    (isPrepared e = true → movesEntry e.fix g = true →
      becomes (insertEntry ⟨g, Volatile.planned⟩ others) { s with
        nq := if e.vol.state = .ready then (s.notify (.notReady e.fix.ref .changed)).nq else s.nq
        reports := s.reports ++ [change] }) ∧
    (isActive e = true → endsNow s c e = true →
      becomes others { s with
        al := { s.al with loops := loops }
        nq := (s.notify (.sessionEnded (endedFields ⟨g, e.vol⟩ s.tb.minutes .supervisor))).nq
        reports := told ++ [change, .sessionEndOverrides e.fix.ref (s.governedBy e.fix.ref)] }) ∧
    ((isPrepared e = true ∧ movesEntry e.fix g = false) ∨
        (isActive e = true ∧ endsNow s c e = false) →
      let state := if resumes then .inSession else e.vol.state
      becomes (insertEntry ⟨g, { reloaded with state := state }⟩ others) { s with
        al := { s.al with loops := loops }
        reports := told ++ if resumes then [change] else [] })

/-- BOOK_CANCEL: not found; refused LOADING in the range of an open load; a PLANNED, PREPARING or READY
entry is removed silently, its removal an entry state change unless it was PLANNED; an active entry is
refused ACTIVE without force and ended with cause SUPERVISOR with it (R21, R32, R46, R60). That the groups the
entry governed are those LM's records name is the model's choice [35], and so is the order in which its two
reports wait [1]. The notice of an ended session, at every end of one, carries the booked times at the moment of
ending, the actual start, now as the actual end, occupied and overrun minutes, 0 where the field is absent, the
peak headcount where there is one, and the two causes (R46). -/
def Obligations.BookCancelRemovesEndsOrRefuses : Prop :=
  (∀ (e : Entry) (now began : Nat) (startedBy : StartCause) (cause : EndCause),
    e.vol.actualStart = some began → e.vol.startCause = some startedBy →
    endedFields e now cause = {
      ref := e.fix.ref
      kind := e.fix.kind
      start := e.fix.start
      stop := e.fix.stop
      actualStart := began
      actualEnd := now
      occupied := match e.vol.occupiedMinutes with
        | some m => m
        | none => 0
      overrun := match e.vol.overrunMinutes with
        | some m => m
        | none => 0
      peak := e.vol.peakHeadcount
      startCause := startedBy
      endCause := cause }) ∧
  ∀ (s : State) (ref : Nat) (force : Bool), s.TakesRequest → s.OutputsFollow →
    let c := Instr.bookCancel (.fields (ref, force))
    (s.entry? ref = none → exec c s = .next (s.replied 0x12 .notFound [])) ∧
    ∀ e, s.entry? ref = some e →
      let gone := s.withTable (s.bt.table.filter fun x => x.fix.ref != ref)
      (startLoading s e.fix.start = true → exec c s = .next (s.replied 0x12 .loading [])) ∧
      (startLoading s e.fix.start = false → isActive e = true → force = false →
        exec c s = .next (s.replied 0x12 .active [])) ∧
      (startLoading s e.fix.start = false → isActive e = false →
        exec c s = .next (({ gone with reports := s.reports ++
          (if e.vol.state = EntryState.planned then []
            else [Instr.entryStateChange ref (entrySegs e) false]) } : State).replied 0x12 .ok [])) ∧
      (startLoading s e.fix.start = false → isActive e = true → force = true →
        exec c s = .next (({ gone with
          nq := (s.notify (.sessionEnded (endedFields e s.tb.minutes .supervisor))).nq
          reports := s.reports ++ [Instr.entryStateChange ref (entrySegs e) false,
            Instr.sessionEndOverrides ref (s.governedBy ref)] } : State).replied 0x12 .ok []))

/-- BOOK_FIND, BOOK_FIRST and BOOK_NEXT: the entry named, the first that starts at or after the minute,
the first whose key follows the cursor's; FIRST and NEXT set the cursor to what they return and nothing
else changes; the record is 74 bytes: the fixed fields, the stored setpoint and booked scene, the state and
every volatile field, each in its place and size (R22, R23, R24, section 9.4), a figure most significant byte
first (R178). The values of its flag and presence bytes, and the bytes of an absent field, are the model's choice
where R178 leaves them open [55]. -/
def Obligations.BookReadsReturnEntriesAndMoveCursor : Prop :=
  ∀ s : State, s.TakesRequest → s.OutputsFollow →
    (∀ ref, exec (.bookFind (.fields ref)) s = .next
      (match s.entry? ref with
      | some e => s.replied 0x13 .ok (entryBytes s.comm e)
      | none => s.replied 0x13 .notFound [])) ∧
    (∀ minute : Nat, exec (.bookFirst (.fields minute)) s = .next
      (match s.bt.table.find? fun (e : Entry) => decide (minute ≤ e.fix.start) with
      | some e => ({ s with wp := { s.wp with cursor := some ⟨e.fix.start, e.fix.ref⟩ } }).replied
          0x14 .ok (entryBytes s.comm e)
      | none => s.replied 0x14 .notFound [])) ∧
    (s.wp.cursor = none → exec (.bookNext (.fields ())) s = .next (s.replied 0x15 .noCursor [])) ∧
    (∀ k, s.wp.cursor = some k → exec (.bookNext (.fields ())) s = .next
      (match s.bt.table.find? fun (e : Entry) =>
          decide (k.start < e.fix.start ∨ (k.start = e.fix.start ∧ k.ref < e.fix.ref)) with
      | some e => ({ s with wp := { s.wp with cursor := some ⟨e.fix.start, e.fix.ref⟩ } }).replied
          0x15 .ok (entryBytes s.comm e)
      | none => s.replied 0x15 .notFound [])) ∧
    (∀ (c : Commission) (e : Entry),
      let f := e.fix
      let v := e.vol
      let flag (b : Bool) : List Byte := be 1 (if b = true then 1 else 0)
      let optional (k : Nat) (n : Option Nat) : List Byte :=
        be 1 (if n.isSome = true then 1 else 0) ++ be k (n.getD 0)
      let optionalSet (g : Option Segs) : List Byte :=
        be 1 (if g.isSome = true then 1 else 0) ++ be 1 ((g.map (·.first)).getD 0) ++
          be 1 ((g.map (·.span)).getD 0)
      let cause : StartCause → Nat
        | .schedule => 0
        | .panel => 1
        | .resumed => 2
      (entryBytes c e).length = 74 ∧
      entryBytes c e =
        be 4 f.ref ++ be 4 f.start ++ be 4 f.stop ++ be 1 f.first ++ be 1 f.span ++
          be 1 (match f.kind with
            | .lecture => 1
            | .caseStudy => 2
            | .exam => 3
            | .event => 4
            | .adhoc => 5) ++
          be 2 f.headcount ++ flag f.held ++ flag f.exempt ++ optional 1 f.scene ++
          optional 2 f.setpoint ++ optional 1 f.lead ++
          be 2 (f.setpoint.getD (comfortOf c f.kind)) ++
          be 1 (f.scene.getD (defaultSceneOf c f.kind)) ++
          be 1 (match v.state with
            | .planned => 0
            | .preparing => 1
            | .ready => 2
            | .inSession => 3
            | .overrun => 4) ++
          optional 1 v.leadUsed ++ optional 4 v.prepStart ++ optional 2 v.initialError ++
          optionalSet v.stamp ++ optional 2 v.liveSetpoint ++ optional 1 v.currentScene ++
          optional 1 v.savedScene ++ optional 4 v.actualStart ++
          optional 1 (v.startCause.map cause) ++
          optional 1 (v.presence.map fun seen => if seen = true then 1 else 0) ++
          optional 2 v.occupiedMinutes ++ optional 2 v.panelHeadcount ++
          optional 2 v.peakHeadcount ++ optional 2 v.overrunMinutes ++ optionalSet v.lastLayout) ∧
    ∀ k n : Nat, (be k n).length = k ∧ (n < 256 ^ k → unbe (be k n) = n) ∧
      ∀ j, j < k → (be k n)[j]? = some (BitVec.ofNat 8 (n / 256 ^ (k - 1 - j)))

/-! ### Loads -/

/-- LOAD_OPEN and LOAD_ENTRY: the checks of R57 in order, then an empty staging area with its range and
60 seconds; NO_LOAD or the first failing check of R58, else the entry staged at its place, the timer at 60
seconds again and the number staged in the reply. -/
def Obligations.LoadOpenAndEntryStage : Prop :=
  ∀ s : State, s.TakesRequest → s.OutputsFollow →
    (∀ lo hi, exec (.loadOpen (.fields (lo, hi))) s = .next
      (if s.inRun = false then s.replied 0x20 .wrongMode []
      else if s.load.isSome then s.replied 0x20 .loading []
      else if hi ≤ lo then s.replied 0x20 .badRange []
      else ({ s with load := some ⟨lo, hi, [], 1200⟩ }).replied 0x20 .ok [])) ∧
    (∀ w, s.load = none → exec (.loadEntry (.fields w)) s = .next (s.replied 0x21 .noLoad [])) ∧
    (∀ w l, s.load = some l → exec (.loadEntry (.fields w)) s = .next
      (if stageReason s l w = .ok then
        ({ s with load := some { l with
          staged := insertFixed (admitted s w) l.staged, idle := 1200 } }).replied 0x21 .ok
            (be 1 (l.staged.length + 1))
      else s.replied 0x21 (stageReason s l w) []))

/-- LOAD_CLOSE: refused FULL, with the timer at 60 seconds again, when the kept entries and the survivors
are more than 128; else the PLANNED entries of the range that are not ADHOC leave, the staged entries
neither past nor in conflict with a kept one join PLANNED, the load ends, and LOAD_DONE and the reply carry
the four counts (R62 to R65, R70). -/
def Obligations.LoadCloseCommitsOrRefusesFull : Prop :=
  ∀ (s : State) (l : Load), s.TakesRequest → s.OutputsFollow → s.load = some l →
    let removable (e : Entry) : Bool := l.lo ≤ e.fix.start && e.fix.start < l.hi
      && e.vol.state == .planned && e.fix.kind != .adhoc
    let kept := s.bt.table.filter fun e => !removable e
    let past (f : Fixed) : Bool := endPassed s f.stop
    let conflict (f : Fixed) : Bool := kept.any fun e => clash f e.fix || e.fix.ref == f.ref
    let joins := l.staged.filter fun f => !past f && !conflict f
    let removed := (s.bt.table.filter removable).length
    let lostPast := (l.staged.filter past).length
    let lostConflict := (l.staged.filter fun f => !past f && conflict f).length
    (128 < kept.length + joins.length →
      exec (.loadClose (.fields ())) s =
        .next (({ s with load := some { l with idle := 1200 } }).replied 0x22 .full [])) ∧
    (kept.length + joins.length ≤ 128 →
      ∃ t, exec (.loadClose (.fields ())) s = .next t ∧
        (∀ e, e ∈ t.bt.table ↔ e ∈ kept ∨ ∃ f ∈ joins, e = ⟨f, Volatile.planned⟩) ∧
        t.bt.table.length = kept.length + joins.length ∧ t.bt.stored = t.bt.table.map (·.fix) ∧
        t = ({ s with
          bt := { s.bt with table := t.bt.table, stored := t.bt.stored }
          load := none
          nq := (s.notify (.loadDone l.lo l.hi removed joins.length lostPast lostConflict)).nq }
            ).replied 0x22 .ok
          (be 1 removed ++ be 1 joins.length ++ be 1 lostPast ++ be 1 lostConflict))

/-- LOAD_ABORT and LOAD_IDLE_TIMEOUT: an open load is gone with its staging area, silently for the request
and with LOAD_ABORTED of cause TIMEOUT for the timer; without a load LOAD_ABORT and LOAD_CLOSE answer NO_LOAD
(R59, R62, R67, R70), and the timer does nothing, the model's choice [4]. -/
def Obligations.LoadAbortAndTimeoutDiscardTheLoad : Prop :=
  ∀ s : State, s.OutputsFollow →
    (s.TakesRequest → s.load = none →
      exec (.loadAbort (.fields ())) s = .next (s.replied 0x23 .noLoad []) ∧
      exec (.loadClose (.fields ())) s = .next (s.replied 0x22 .noLoad [])) ∧
    (s.TakesRequest → s.load.isSome = true →
      exec (.loadAbort (.fields ())) s = .next (({ s with load := none }).replied 0x23 .ok [])) ∧
    (s.alive = true → s.load = none →
      exec .loadIdleTimeout s = .next (s.take .loadIdleTimeout)) ∧
    (∀ l, s.alive = true → s.load = some l →
      exec .loadIdleTimeout s = .next { s.take .loadIdleTimeout with
        load := none
        nq := (s.notify (.loadAborted l.lo l.hi .timeout l.staged.length)).nq })

/-! ### Reads and notices -/

/-- SUITE_READ, DEMAND_READ and COMMISSION_READ change nothing but the reply: the suite record (R174), the
demand record (R141), the pending copy of a record or else the one in effect (R188); a selector above 24 is
refused (R180). The suite record is 13 bytes, 13 for each segment and 13 for each group, the demand record 15
bytes and 11 for each group, with the fields given here. The flag and presence bytes are sent as [55] has them,
and what SUITE READ shows of a group between a change and its report, or before AL has formed its loop, is the
model's reading [10]. -/
def Obligations.ReadRequestsChangeNothing : Prop :=
  ∀ s : State, s.TakesRequest → s.OutputsFollow →
    let health (i : Seg) (k : SensorKind) : Nat := match (s.sensor i k).health with
      | .ok => 0
      | .stale => 1
      | .fault => 2
    let segment (i : Seg) : List Byte :=
      let l := s.lbu.segs.get i
      be 1 ((if s.segOccupied i = true then 1 else 0) +
          if (s.si.presenceSource.get i).isNone = true then 2 else 0) ++
        be 1 (health i .presence + 4 * health i .temperature + 16 * health i .co2 +
          64 * health i .daylight) ++
        be 2 (s.ad.targets.get i) ++ be 2 (s.reheatOf i) ++ be 2 l.window.level ++
        be 2 l.inner.level ++ be 2 l.blind.position ++ be 1 (match l.blind.motion with
          | .stopped => 0
          | .movingUp => 1
          | .movingDown => 2
          | .reversing => 3
          | .held => 4)
    let group (r : GroupRec) : List Byte :=
      let l := (s.loop? r.segs).getD (Loop.initial r.segs 0)
      let setpoint : Option Nat := match r.level with
        | .none => (s.walkIn? r.segs).map (·.setpoint)
        | _ => r.governing.bind fun ref => (s.entry? ref).bind (·.vol.liveSetpoint)
      be 1 (r.segs.first * 16 + r.segs.span) ++ be 4 (r.governing.getD 0) ++
        be 1 (match r.level with
          | .none => 0
          | .prepare => 1
          | .session => 2) ++
        be 1 (match l.mode with
          | .parked => 0
          | .acquire => 1
          | .track => 2) ++
        [flagByte l.settled] ++ be 2 (setpoint.getD 0) ++ [flagByte l.temp.isSome] ++
        beInt 2 (l.temp.getD 0)
    let partByte (p : Part) : Byte :=
      if s.partConfigured p = false then 0xFF else match (s.lm.parts.get p).accepted with
        | .closed => 0
        | .opened => 1
        | .between => 2
        | .fault => 3
    let suiteSegs := allSegs.filter s.configured
    let header : List Byte := flagByte (s.cs.mode == .service) :: flagByte s.cs.lock ::
      flagByte s.tb.valid :: be 4 s.tb.minutes ++ flagByte s.load.isSome :: allParts.map partByte
    let adGroup (g : AdGroup) : List Byte := be 1 g.segs.first ++ be 1 g.segs.span ++ be 2 g.qd ++
      be 2 g.qmin ++ be 2 g.qvent ++ be 2 g.alloc ++ [flagByte g.short]
    let plantAge : Option Nat := if s.ad.source = .plant
      then s.ad.age.map fun left => min 599 ((12000 - left) / 20) else none
    exec (.suiteRead (.fields ())) s = .next (s.replied 0x30 .ok s.suiteBytes) ∧
    exec (.demandRead (.fields ())) s = .next (s.replied 0x40 .ok (demandBytes s.ad)) ∧
    s.suiteBytes.length = 13 + 13 * suiteSegs.length + 13 * s.lm.groups.length ∧
    s.suiteBytes = header ++ be 1 s.segCount ++ suiteSegs.flatMap segment ++
      be 1 s.lm.groups.length ++ s.lm.groups.flatMap group ∧
    (demandBytes s.ad).length = 15 + 11 * s.ad.groups.length ∧
    demandBytes s.ad =
      be 2 (s.ad.groups.map (·.qd)).sum ++ be 2 (s.ad.groups.map (·.qmin)).sum ++
        be 2 (s.ad.groups.map (·.qvent)).sum ++ be 2 s.ad.grant ++
        be 1 (if s.ad.source = .plant then 1 else 0) ++
        optBytes 2 plantAge ++
        be 2 s.ad.total ++ be 1 s.ad.groups.length ++ s.ad.groups.flatMap adGroup ∧
    (∀ sel, 24 < sel →
      exec (.commissionRead (.fields sel)) s = .next (s.replied 0x51 .outOfRange [])) ∧
    (∀ sel, sel ≤ 24 → exec (.commissionRead (.fields sel)) s = .next (s.replied 0x51 .ok
      (be 1 sel ++ recordBytes ((s.pendingAt sel).getD (s.comm.recordAt sel)))))

/-- NOTICE_TAKE: refused NOT_FOUND on an empty list; else the oldest notice leaves, the reply carries the
overflow mark as it stood, the number remaining and the notice, and the mark is cleared (R176). A created notice
joins at the end with the counter and the minute (0 while the clock is invalid); of a full list the oldest goes
and the mark is set; the counter advances, 65,535 followed by 0 (R175). The notice record is the counter value,
the kind, the minute, the length of the fields and the fields of its kind, which have the length of section 9.4.
The flag and presence bytes are sent as [55] has them. -/
def Obligations.NoticesJoinAtTheEndAndLeaveInOrder : Prop :=
  (∀ s : State, s.TakesRequest → s.OutputsFollow →
      (s.nq.list = [] → exec (.noticeTake (.fields ())) s = .next (s.replied 0x31 .notFound [])) ∧
      ∀ n rest, s.nq.list = n :: rest →
        exec (.noticeTake (.fields ())) s = .next
          (({ s with nq := { s.nq with list := rest, overflow := false } }).replied 0x31 .ok
            (flagByte s.nq.overflow :: be 1 rest.length ++ noticeBytes n))) ∧
  (∀ n : NoticeRec,
    let kind : Kind → Nat
      | .lecture => 1
      | .caseStudy => 2
      | .exam => 3
      | .event => 4
      | .adhoc => 5
    let begun : StartCause → Nat
      | .schedule => 0
      | .panel => 1
      | .resumed => 2
    let set (g : Segs) : List Byte := be 1 g.first ++ be 1 g.span
    let started (f : StartedFields) : List Byte := be 4 f.ref ++ be 1 (kind f.kind) ++ set f.segs ++
      be 4 f.start ++ be 4 f.stop ++ be 4 f.actualStart ++ be 1 (begun f.cause)
    let sensor : SensorKind → Nat
      | .presence => 0
      | .temperature => 1
      | .co2 => 2
      | .daylight => 3
    let told : Nat × Nat × List Byte := match n.notice with
      | .sessionStarted f => (1, 20, started f)
      | .sessionEnded f => (2, 30, be 4 f.ref ++ be 1 (kind f.kind) ++ be 4 f.start ++ be 4 f.stop ++
          be 4 f.actualStart ++ be 4 f.actualEnd ++ be 2 f.occupied ++ be 2 f.overrun ++
          be 1 (if f.peak.isSome = true then 1 else 0) ++ be 2 (f.peak.getD 0) ++
          be 1 (begun f.startCause) ++ be 1 (match f.endCause with
            | .schedule => 0
            | .panel => 1
            | .supervisor => 2
            | .overrunLimit => 3
            | .nextBooking => 4
            | .service => 5
            | .clock => 6))
      | .released f => (3, 20, started f)
      | .missed ref k g start stop cause => (4, 16, be 4 ref ++ be 1 (kind k) ++ set g ++ be 4 start ++
          be 4 stop ++ be 1 (match cause with
            | .timePassed => 0
            | .suiteChanged => 1))
      | .ready ref elapsed learnt =>
          (5, 7, be 4 ref ++ be 2 elapsed ++ be 1 (if learnt = true then 1 else 0))
      | .notReady ref cause => (6, 5, be 4 ref ++ be 1 (match cause with
            | .unsettled => 0
            | .notGoverning => 1
            | .changed => 2))
      | .layoutMismatch ref expected found => (7, 8, be 4 ref ++ set expected ++ set found)
      | .sensorFault i k health cause => (8, 4, be 1 i ++ be 1 (sensor k) ++ be 1 (match health with
            | .ok => 0
            | .stale => 1
            | .fault => 2) ++ be 1 (match cause with
            | .mark => 0
            | .range => 1
            | .timeout => 2))
      | .sensorRecovered i k => (9, 2, be 1 i ++ be 1 (sensor k))
      | .partitionFault p state => (10, 2, be 1 p ++ be 1 (match state with
            | .closed => 0
            | .opened => 1
            | .between => 2
            | .fault => 3))
      | .airShort g alloc vent grant => (11, 8, set g ++ be 2 alloc ++ be 2 vent ++ be 2 grant)
      | .airRestored g alloc vent => (12, 6, set g ++ be 2 alloc ++ be 2 vent)
      | .loadDone lo hi removed added past conflict => (13, 12, be 4 lo ++ be 4 hi ++
          be 1 removed ++ be 1 added ++ be 1 past ++ be 1 conflict)
      | .loadAborted lo hi cause staged => (14, 10, be 4 lo ++ be 4 hi ++ be 1 (match cause with
            | .timeout => 0
            | .service => 1) ++ be 1 staged)
      | .restarted cause => (15, 1, be 1 (match cause with
            | .power => 0
            | .request => 1
            | .line => 2))
    told.2.2.length = told.2.1 ∧
    noticeBytes n = be 2 n.counter ++ be 1 told.1 ++ be 4 n.minute ++ be 1 told.2.1 ++ told.2.2) ∧
  ∀ (s : State) (n : Notice), s.NoticesFit →
    let rec_ : NoticeRec := ⟨s.nq.counter, if s.tb.valid then s.tb.minutes else 0, n⟩
    (s.notify n).nq.list = (s.nq.list ++ [rec_]).drop (s.nq.list.length - 31) ∧
    (s.notify n).nq.overflow = (s.nq.overflow || s.nq.list.length == 32) ∧
    (s.notify n).nq.counter = (if s.nq.counter = 65535 then 0 else s.nq.counter + 1) ∧
    (s.notify n).NoticesFit ∧ (s.notify n) = { s with nq := (s.notify n).nq }

/-! ### The grant and the division of air -/

/-- GRANT and GRANT_AGE_EXPIRY: the grant clamped at 1000 with source PLANT and 600 seconds, or 1000 with source
DEFAULT and the timer stopped, the segment sets and demands untouched. In RUN the granted total of R136, the
allocations of the division, every configured segment's target its figure of the split, and the shortage
judgement with its notices (R134 to R140); in SERVICE every allocation and every target at its minimum, no flag
moved and no notice (R142). -/
def Obligations.GrantAndItsExpiryRecompute : Prop :=
  ∀ s : State, s.alive = true →
    let qd := sumOf (·.qd) s.ad.groups
    let qmin := sumOf (·.qmin) s.ad.groups
    let shape (a : Ad) := a.groups.map fun (g : AdGroup) => (g.segs, g.qd, g.qmin, g.qvent, g.qmax)
    let divided (t : State) : Prop := shape t.ad = shape s.ad ∧
      (s.inRun = true → t.ad.total = max qmin (qd * t.ad.grant / 1000) ∧
        t.ad.groups.map (·.alloc) = allocations t.ad.total s.ad.groups ∧ t.TargetsFollow ∧
        (∀ g ∈ t.ad.groups, g.short = decide (g.alloc < g.qvent)) ∧
        t.nq = (s.notifyAll ((s.ad.groups.zip t.ad.groups).flatMap fun p =>
          airNotices t.ad.grant p.1.short p.2)).nq) ∧
      (s.inRun = false → t.ad.total = qmin ∧ (∀ g ∈ t.ad.groups, g.alloc = g.qmin) ∧
        t.ad.groups.map (·.short) = s.ad.groups.map (·.short) ∧ t.nq = s.nq ∧
        ∀ i, t.ad.targets.get i = if s.configured i then (s.segRec i).airMin else 0)
    (s.wp.held = none → ∀ g,
      ∃ t, exec (.grant (.fields g)) s = .next t ∧
        t.ad.grant = min 1000 g ∧ t.ad.source = .plant ∧ t.ad.age = some 12000 ∧ divided t ∧
        t.wp = (({ s with nq := t.nq } : State).replied 0x41 .ok
          (be 2 t.ad.grant ++ be 2 t.ad.total)).wp ∧
        t = { s with ad := t.ad, nq := t.nq, wp := t.wp, os := t.os } ∧ t.os = t.drive.os) ∧
    (s.ad.age.isSome = true →
      ∃ t, exec .grantAgeExpiry s = .next t ∧
        t.ad.grant = 1000 ∧ t.ad.source = .default ∧ t.ad.age = none ∧ divided t ∧
        t = { s.take .grantAgeExpiry with ad := t.ad, nq := t.nq, os := t.os } ∧ t.os = t.drive.os)

/-- The granted total of R136 and the division of R137: at or above the sum of the demands every group has
its demand; below it each has its minimum, its share of the surplus and, in order, one of the leftover; the
allocations then sum to the granted total and each lies between the group's minimum and its demand. -/
def Obligations.AllocationsSumToTheGrantedTotal : Prop :=
  ∀ (groups : List AdGroup) (grant : Nat), (∀ g ∈ groups, g.qmin ≤ g.qd) → grant ≤ 1000 →
    let qd := (groups.map (·.qd)).sum
    let qmin := (groups.map (·.qmin)).sum
    let total := max qmin (qd * grant / 1000)
    let share (g : AdGroup) : Nat := (total - qmin) * (g.qd - g.qmin) / (qd - qmin)
    let leftover := (total - qmin) - (groups.map share).sum
    grantedTotal qd qmin grant = total ∧
    (qd ≤ total → allocations total groups = groups.map (·.qd)) ∧
    (grant = 1000 → allocations total groups = groups.map (·.qd)) ∧
    (qd * grant / 1000 ≤ qmin → allocations total groups = groups.map (·.qmin)) ∧
    (total < qd → (allocations total groups).sum = total ∧
      ∀ (k : Nat) (g : AdGroup), groups[k]? = some g →
        (allocations total groups)[k]? = some (g.qmin + share g +
          if g.qmin < g.qd ∧
            ((groups.take k).filter fun x => decide (x.qmin < x.qd)).length < leftover
          then 1 else 0)) ∧
    (allocations total groups).length = groups.length ∧
    ∀ p ∈ groups.zip (allocations total groups), p.1.qmin ≤ p.2 ∧ p.2 ≤ p.1.qd

/-- The split of R138. Every segment's target lies between that segment's minimum and maximum, whatever the
record. Where the record's minimum and maximum are the sums over its segments and the allocation lies between
them, the spare is shared by each segment's own range, the leftover goes one at a time to the lowest segments
below their maximum, and the targets sum to the allocation. -/
def Obligations.SegmentTargetsSumToTheAllocation : Prop :=
  ∀ (s : State) (g : AdGroup), (∀ i, (s.segRec i).airMin ≤ (s.segRec i).airMax) →
    (s.splitGroup g).map Prod.fst = segList g.segs ∧
    (∀ p ∈ s.splitGroup g, (s.segRec p.1).airMin ≤ p.2 ∧ p.2 ≤ (s.segRec p.1).airMax) ∧
    let low := ((segList g.segs).map fun i => (s.segRec i).airMin).sum
    let high := ((segList g.segs).map fun i => (s.segRec i).airMax).sum
    g.qmin = low → g.qmax = high → low ≤ g.alloc → g.alloc ≤ high →
    let part (i : Seg) : Nat :=
      (g.alloc - low) * ((s.segRec i).airMax - (s.segRec i).airMin) / (high - low)
    let leftover := (g.alloc - low) - ((segList g.segs).map part).sum
    (∀ p ∈ s.splitGroup g, p.2 = (s.segRec p.1).airMin + part p.1 +
      if (s.segRec p.1).airMin + part p.1 < (s.segRec p.1).airMax ∧
        ((segList g.segs).filter fun j => decide (j < p.1 ∧
          (s.segRec j).airMin + part j < (s.segRec j).airMax)).length < leftover
      then 1 else 0) ∧
    ((s.splitGroup g).map Prod.snd).sum = g.alloc

/-- DEMAND_UPDATE in RUN: the records are those of the groups named, with their figures, their allocations
those of the division, each configured segment's target its figure of the split, and each air-short flag set
exactly where the allocation lies below Q_vent (R132, R136 to R140); in SERVICE every group and every
configured segment stands at its minimum with the total their sum (R142). The judgement queues AIR_SHORT as
the flag comes to be set, AIR_RESTORED as it comes to be cleared, and nothing else (R140). -/
def Obligations.DemandUpdateFormsRecordsAndJudgesShortage : Prop :=
  (∀ (s : State) (figs : List DemandFig), s.alive = true →
      ∃ t, exec (.demandUpdate figs) s = .next t ∧
        t.ad.groups.map (fun (g : AdGroup) => (⟨g.segs, g.qd, g.qmin, g.qvent⟩ : DemandFig)) = figs ∧
        (∀ g ∈ t.ad.groups, g.qmax = s.maxOf g.segs) ∧
        (s.inRun = true →
          t.ad.total = max ((figs.map (·.qmin)).sum) ((figs.map (·.qd)).sum * s.ad.grant / 1000) ∧
          t.ad.groups.map (·.alloc) = allocations t.ad.total t.ad.groups ∧ t.TargetsFollow ∧
          (∀ g ∈ t.ad.groups, g.short = decide (g.alloc < g.qvent)) ∧
          t.nq = (s.notifyAll (t.ad.groups.flatMap fun (g : AdGroup) => airNotices s.ad.grant
            ((s.ad.groups.find? fun x => x.segs == g.segs).any (·.short)) g)).nq) ∧
        (s.inRun = false →
          t.ad.total = (figs.map (·.qmin)).sum ∧ (∀ g ∈ t.ad.groups, g.alloc = g.qmin) ∧
          (∀ i, t.ad.targets.get i = if s.configured i then (s.segRec i).airMin else 0) ∧
          t.nq = s.nq) ∧
        (t.ad.grant, t.ad.source, t.ad.age) = (s.ad.grant, s.ad.source, s.ad.age) ∧
        t = { s.take (.demandUpdate figs) with ad := t.ad, nq := t.nq, os := t.os } ∧
        t.os = t.drive.os) ∧
  ∀ (grant : Nat) (g : AdGroup),
    judgeShort grant g =
      ({ g with short := decide (g.alloc < g.qvent) },
        if g.short = false ∧ g.alloc < g.qvent then [.airShort g.segs g.alloc g.qvent grant]
        else if g.short = true ∧ g.qvent ≤ g.alloc then [.airRestored g.segs g.alloc g.qvent]
        else [])

/-! ### Mode and commissioning -/

/-- MODE_SET_SERVICE: in SERVICE it is answered OK and changes nothing; in RUN it is refused WRONG_MODE
with the service line released, then LOCKED with the lock set, then ACTIVE with an active entry and no
force (R190). MODE_SET_LOCK sets the lock in RUN and is refused WRONG_MODE in SERVICE, a mode code above
2 OUT_OF_RANGE (R192). The model's readings: that SERVICE_LINE_ASSERT notes the level and nothing else
[33], also in a part that does not run [6], and that a mode code that names no request is carried by the
MODE_SET_LOCK row [31]. -/
def Obligations.ServiceEntryAndLockJudgedInOrder : Prop :=
  (∀ (s : State) (force : Bool), s.TakesRequest → s.OutputsFollow →
      let c := Instr.modeSetService (.fields force)
      (s.inRun = false → exec c s = .next (s.replied 0x50 .ok [])) ∧
      (s.inRun = true → s.cs.serviceLine = false →
        exec c s = .next (s.replied 0x50 .wrongMode [])) ∧
      (s.inRun = true → s.cs.serviceLine = true → s.cs.lock = true →
        exec c s = .next (s.replied 0x50 .locked [])) ∧
      (s.inRun = true → s.cs.serviceLine = true → s.cs.lock = false →
        s.bt.table.any isActive = true → force = false →
        exec c s = .next (s.replied 0x50 .active []))) ∧
  ∀ s : State,
    (s.TakesRequest → s.OutputsFollow → ∀ force : Bool,
      (∀ code, 2 < code →
        exec (.modeSetLock (.fields (code, force))) s = .next (s.replied 0x50 .outOfRange [])) ∧
      (s.inRun = true → exec (.modeSetLock (.fields (2, force))) s =
        .next (({ s with cs := { s.cs with lock := true } }).replied 0x50 .ok [])) ∧
      (s.inRun = false →
        exec (.modeSetLock (.fields (2, force))) s = .next (s.replied 0x50 .wrongMode []))) ∧
    exec .serviceLineAssert s = .next { s with cs := { s.cs with serviceLine := true } }

/-- MODE_SET_SERVICE accepted: the mode is SERVICE; every active entry ends with cause SERVICE and leaves the
table, and every other stays with its fields, a READY one in a SETTLED group back in PREPARING with NOT_READY
(R54, R46); an open load ends with LOAD_ABORTED of cause SERVICE; every loop is parked and asks for its minimum
with no reheat, in one demand update handed on, every configured row stands at the service lighting level, no
override is left and every blind not in its drive-up is stopped where it stood, and every configured segment's
target is its minimum (R190, R68, R128, R142, R167). That the settled reports on their way are taken first [18],
the order of the notices [36] and of the ending entries [46], and that the groups they governed are those LM's
records name [35], is the model's choice. -/
def Obligations.ServiceEntryHoldsTheSuite : Prop :=
  ∀ (s : State) (force : Bool), s.TakesRequest → s.inRun = true → s.cs.serviceLine = true →
    s.cs.lock = false → (s.bt.table.any isActive = true → force = true) →
    ∃ t, exec (.modeSetService (.fields force)) s = .next t ∧
      t.cs = { s.cs with mode := .service } ∧ (∀ e ∈ t.bt.table, isActive e = false) ∧
      (s.UniqueRefs →
        let kept (e : Entry) := (e.fix, { e.vol with state := EntryState.planned }, isPrepared e)
        let actives := s.bt.table.filter isActive
        let unsettled (e : Entry) : Bool := e.vol.state == .ready
          && s.al.loops.any (fun l => l.settled && segHas l.segs e.fix.first)
        let readiness (n : Notice) : Prop := ∃ ref,
          (∃ elapsed learnt, n = .ready ref elapsed learnt) ∨ n = .notReady ref .unsettled
        t.bt.table.map kept = (s.bt.table.filter fun e => !isActive e).map kept ∧
        (∀ e ∈ t.bt.table, unsettled e = false) ∧
        (actives ≠ [] → t.bt.stored = t.bt.table.map (·.fix)) ∧
        (∀ e ∈ actives, .entryStateChange e.fix.ref (entrySegs e) false ∈ t.reports ∧
          .sessionEndOverrides e.fix.ref (s.governedBy e.fix.ref) ∈ t.reports) ∧
        ∃ before behind : List Notice,
          t.nq = (s.notifyAll (before ++
            actives.map (fun e => .sessionEnded (endedFields e s.tb.minutes .service)) ++
            (s.load.map fun l => .loadAborted l.lo l.hi .service l.staged.length).toList ++
            behind)).nq ∧
          (∀ n ∈ before ++ behind, readiness n) ∧
          ∀ e ∈ s.bt.table, unsettled e = true → .notReady e.fix.ref .unsettled ∈ before ++ behind) ∧
      t.load = none ∧ t.al.loops.map (·.segs) = s.al.loops.map (·.segs) ∧
      (∀ l ∈ t.al.loops, l.mode = .parked ∧ l.settled = false ∧ l.reference = none ∧
        l.qd = s.minOf l.segs ∧ l.qmin = s.minOf l.segs ∧ l.qvent = 0 ∧ l.reheat = 0) ∧
      .demandUpdate (demandFigs t.al.loops) ∈ t.reports ∧
      (∀ i, s.configured i = true →
        (t.lbu.segs.get i).window = ⟨s.suite.serviceLevel, s.suite.serviceLevel, none⟩ ∧
        (t.lbu.segs.get i).inner = ⟨s.suite.serviceLevel, s.suite.serviceLevel, none⟩ ∧
        (t.blind i).override = none ∧ (t.blind i).position = (s.blind i).position ∧
        ((s.blind i).driveUp = none → (t.blind i).motion = .stopped)) ∧
      (∀ i, s.configured i = true → t.ad.targets.get i = (s.segRec i).airMin) ∧
      t.ad.groups.map (·.segs) = s.ad.groups.map (·.segs) ∧
      (∀ g ∈ t.ad.groups, g.alloc = g.qmin ∧ g.short = false) ∧
      t.wp = (({ s with nq := t.nq } : State).replied 0x50 .ok []).wp ∧
      t.tb = s.tb ∧ t.lm = s.lm ∧ t.si = s.si ∧ t.ot = s.ot ∧ t.rl = s.rl ∧
      t.pins = s.pins ∧ t.tenth = s.tenth ∧ t.pending = s.pending ∧ t.os = t.drive.os

/-- MODE_SET_RUN and SERVICE_LINE_RELEASE: in SERVICE the pending records take effect, the mode is RUN, the
partitions are read and accepted at once, their faults reported, the groups formed and resolved from them, the
exit report sent to its five receivers and came to govern to BT (R88, R71, R74, R76, R80), no entry outside the
suite or above its seats stays, none whose end has passed on a valid clock, and every other entry stays with its
fields, its headcount clamped (R10) and a saved scene behind a scene no longer temporary removed (R168). At a
table of one entry, not active: outside the suite it leaves as MISSED with cause SUITE_CHANGED, past its end
with TIME_PASSED, each reported [21], and a PLANNED one in progress begins with cause RESUMED (R53), the order
in which reports wait being the model's [1] and that of several faults [47], and a partition that is not
configured held as [15] has it. The reply to the request goes at the old bit rate. A segment no longer
configured, or new, has the occupancy record of a restart (R106), and an address no longer configured no cursor
(R187). The release, also while WP holds a request or sends its reply, takes the new one at once and leaves the
request and the reply as they are. Each record of AD has the Q_max of the segment records now in effect (R131),
and every target lies between its segment's minimum and maximum (R138), which until AD takes the exit report is
the model's choice [40]. In RUN the request is answered OK and changes nothing, and the release only moves the
level (R191, R188, R10, R53, R169). -/
def Obligations.ServiceExitTakesRecordsIntoEffect : Prop :=
  ∀ (s : State) (force : Bool), s.alive = true → s.OutputsFollow →
    let leaves (t : State) : Prop :=
      s.PartitionsFound t ∧ (∃ more, t.nq = (s.notifyAll (t.faultsFound ++ more)).nq) ∧
      t.lm.groups.map (fun r => (r.segs, r.governing, r.level)) = t.formGroups.map (fun g =>
        (g, (governingOf s.bt.table g).map (·.fix.ref), levelOf (governingOf s.bt.table g))) ∧
      ((∀ e ∈ s.bt.table, isActive e = false) → ∀ r ∈ t.lm.groups, r.sessions = [] ∧ r.people = 0) ∧
      (∀ b ∈ [Block.si, .ot, .al, .lbu, .ad], .exitReport b t.lm.groups ∈ t.reports) ∧
      (∀ e ∈ s.bt.table, isPrepared e = true →
        t.lm.groups.any (fun r => segHas r.segs e.fix.first && r.governing == some e.fix.ref) = true →
        .cameToGovern e.fix.ref ∈ t.reports) ∧
      t.cs.effective = s.cs.effective.takePending s.cs.pending ∧ t.cs.pending = [] ∧
      t.cs.mode = .run ∧ t.cs.lock = s.cs.lock ∧ t.tb = s.tb ∧ t.bt.rates = s.bt.rates ∧
      t.pins = s.pins ∧ t.load = s.load ∧ t.os = t.drive.os ∧
      t.rl = { s.rl with
        cursors := s.rl.cursors.mapIdx fun i k => if t.configured i = true then k else none } ∧
      t.ot.segs = (s.ot.segs.mapIdx fun i o =>
        if t.configured i = true ∧ s.configured i = true then o else ⟨none, true, false, false⟩) ∧
      (∀ g ∈ t.ad.groups, g.qmax = t.maxOf g.segs) ∧
      t.ad.groups.map (fun (g : AdGroup) => (g.segs, g.qd, g.qmin, g.qvent)) =
        s.ad.groups.map (fun (g : AdGroup) => (g.segs, g.qd, g.qmin, g.qvent)) ∧
      (∀ i, (t.segRec i).airMin ≤ (t.segRec i).airMax → t.configured i = true →
        (t.segRec i).airMin ≤ t.ad.targets.get i ∧ t.ad.targets.get i ≤ (t.segRec i).airMax) ∧
      ∀ e ∈ t.bt.table, e.fix.first + e.fix.span ≤ t.segCount ∧
        e.fix.headcount ≤ seatsOf t.comm (entrySegs e) ∧
        (s.tb.valid = true → s.tb.minutes < e.fix.stop ∧
          (e.vol.state = .planned → s.tb.minutes < e.fix.start))
    let treats (t : State) : Prop :=
      let n := s.tb.minutes
      let clamped (e : Entry) : Entry := {
        fix := { e.fix with
          headcount := min (min e.fix.headcount 400) (seatsOf t.comm (entrySegs e)) }
        vol := { e.vol with savedScene :=
          if e.vol.currentScene.any (fun i => (t.comm.scene i).temporary) = true
            then e.vol.savedScene else none } }
      let fits (e : Entry) : Prop := e.fix.first + e.fix.span ≤ t.segCount
      let passed (e : Entry) : Prop := s.tb.valid = true ∧ e.fix.stop ≤ n
      let begins (e : Entry) : Prop := s.tb.valid = true ∧ e.vol.state = .planned ∧
        e.fix.start ≤ n ∧ n < e.fix.stop
      (∀ e ∈ s.bt.table, isActive e = false → fits e → ¬ passed e → ¬ begins e →
        clamped e ∈ t.bt.table) ∧
      ∀ e, s.bt.table = [e] → isActive e = false →
        let last (notice : Notice) (began : Bool) : Prop :=
          t.nq.list.getLast?.map (·.notice) = some notice ∧
            t.reports.getLast? = some (.entryStateChange e.fix.ref (entrySegs e) began)
        let goes (cause : MissedCause) : Prop := t.bt.table = [] ∧ t.bt.stored = [] ∧
          last (.missed e.fix.ref e.fix.kind (entrySegs e) e.fix.start e.fix.stop cause) false
        (¬ fits e → goes .suiteChanged) ∧
        (fits e → passed e → goes .timePassed) ∧
        (fits e → begins e →
          t.bt.table = [⟨(clamped e).fix, begunVolatile t.comm (clamped e).fix n .resumed
            (t.entryObserved e) (clamped e).vol⟩] ∧
          last (.sessionStarted ⟨e.fix.ref, e.fix.kind, entrySegs e, e.fix.start, e.fix.stop, n,
            .resumed⟩) true) ∧
        (fits e → ¬ passed e → ¬ begins e → t.bt.table = [clamped e])
    (s.inRun = true →
      (s.wp.held = none →
        exec (.modeSetRun (.fields force)) s = .next (s.replied 0x50 .ok [])) ∧
      exec .serviceLineRelease s = .next { s.take .serviceLineRelease with
        cs := { s.cs with serviceLine := false } }) ∧
    (s.inRun = false → s.UniqueRefs →
      (s.wp.held = none →
        ∃ t, exec (.modeSetRun (.fields force)) s = .next t ∧ leaves t ∧ treats t ∧
          t.wp = { s.wp with
            rx := .hunt, held := some 0x50, reply := some ⟨0x50, .ok, !t.nq.list.isEmpty, []⟩ } ∧
          t.cs.serviceLine = s.cs.serviceLine) ∧
      ∃ t, exec .serviceLineRelease s = .next t ∧ leaves t ∧ treats t ∧
        t.wp = { s.wp with bitRate := t.suite.bitRate } ∧ t.cs.serviceLine = false)

/-- COMMISSION_WRITE: a selector above 24, a wrong length, RUN, the first field out of range (its position
in the reply); an accepted write puts a pending copy, which COMMISSION_READ then returns word for word,
leaves the record in effect and every other pending copy alone (R180, R188, R189). That a refused selector
names no position and that the position is one byte is the model's reading [22], [30]. -/
def Obligations.CommissionWriteIsReadBack : Prop :=
  ∀ (s : State) (sel : Nat) (v : List Nat), s.TakesRequest → s.OutputsFollow →
    let c := Instr.commissionWrite (.fields (sel, v))
    (24 < sel → exec c s = .next (s.replied 0x52 .outOfRange [])) ∧
    ∀ n, fieldCount sel = some n →
      (v.length ≠ n → exec c s = .next (s.replied 0x52 .badLength [])) ∧
      (v.length = n → s.inRun = true → exec c s = .next (s.replied 0x52 .wrongMode [])) ∧
      (v.length = n → s.inRun = false →
        (∀ pos, firstBadField 1 v (fieldRanges sel v) = some pos →
          exec c s = .next (s.replied 0x52 .outOfRange (be 1 pos))) ∧
        (firstBadField 1 v (fieldRanges sel v) = none →
          ∃ t, exec c s = .next t ∧
            t = ({ s with cs := { s.cs with pending := t.cs.pending } }).replied 0x52 .ok [] ∧
            (∀ k, k ≠ sel → t.pendingAt k = s.pendingAt k) ∧
            ∀ u : State, u.TakesRequest → u.OutputsFollow → u.cs = t.cs →
              exec (.commissionRead (.fields sel)) u =
                .next (u.replied 0x51 .ok (be 1 sel ++ v.flatMap (be 2)))))

/-- The lock is cleared by a restart only, and the records in effect change at a restart or an exit from
SERVICE only: no other command that the part takes by itself moves them (R188, R192). A dropped frame's
bytes may hold a RESTART or a MODE SET of their own, so those two rows are left out. -/
def Obligations.LockAndRecordsMoveOnlyAtRestartOrExit : Prop :=
  ∀ (c : Instr) (s t : State), exec c s = .next t →
    (∀ bytes, c ≠ .wingFrameDropped bytes ∧ c ≠ .wingGapTimeout bytes) →
    c ≠ .powerOn → (∀ low, c ≠ .resetLineRelease low) → (∀ p, c ≠ .restart p) →
    (s.cs.lock = true → t.cs.lock = true) ∧
    ((∀ p, c ≠ .modeSetRun p) → c ≠ .serviceLineRelease → t.cs.effective = s.cs.effective) ∧
    ((∀ p, c ≠ .modeSetService p) → s.inRun = true → t.inRun = true)

/-! ### The wing port -/

/-- WP's two checks: a function that is not listed, and a payload that is not the function's length, are
answered with their reason and nothing else moves (R172). -/
def Obligations.WingRefusesUnknownFunctionAndLength : Prop :=
  ∀ (s : State) (n : Nat), s.TakesRequest → s.OutputsFollow →
    (∀ code, exec (.unknownFunction code) s = .next (s.replied code .unknownFunction [])) ∧
    exec (.timeSet false (.wrongLength n)) s = .next (s.replied 0x01 .badLength []) ∧
    exec (.bookAdd (.wrongLength n)) s = .next (s.replied 0x10 .badLength []) ∧
    exec (.bookChange (.wrongLength n)) s = .next (s.replied 0x11 .badLength []) ∧
    exec (.bookCancel (.wrongLength n)) s = .next (s.replied 0x12 .badLength []) ∧
    exec (.bookFind (.wrongLength n)) s = .next (s.replied 0x13 .badLength []) ∧
    exec (.bookFirst (.wrongLength n)) s = .next (s.replied 0x14 .badLength []) ∧
    exec (.bookNext (.wrongLength n)) s = .next (s.replied 0x15 .badLength []) ∧
    exec (.loadOpen (.wrongLength n)) s = .next (s.replied 0x20 .badLength []) ∧
    exec (.loadEntry (.wrongLength n)) s = .next (s.replied 0x21 .badLength []) ∧
    exec (.loadClose (.wrongLength n)) s = .next (s.replied 0x22 .badLength []) ∧
    exec (.loadAbort (.wrongLength n)) s = .next (s.replied 0x23 .badLength []) ∧
    exec (.suiteRead (.wrongLength n)) s = .next (s.replied 0x30 .badLength []) ∧
    exec (.noticeTake (.wrongLength n)) s = .next (s.replied 0x31 .badLength []) ∧
    exec (.demandRead (.wrongLength n)) s = .next (s.replied 0x40 .badLength []) ∧
    exec (.grant (.wrongLength n)) s = .next (s.replied 0x41 .badLength []) ∧
    exec (.modeSetService (.wrongLength n)) s = .next (s.replied 0x50 .badLength []) ∧
    exec (.modeSetRun (.wrongLength n)) s = .next (s.replied 0x50 .badLength []) ∧
    exec (.modeSetLock (.wrongLength n)) s = .next (s.replied 0x50 .badLength []) ∧
    exec (.commissionRead (.wrongLength n)) s = .next (s.replied 0x51 .badLength []) ∧
    exec (.commissionWrite (.wrongLength n)) s = .next (s.replied 0x52 .badLength []) ∧
    exec (.restart (.wrongLength n)) s = .next (s.replied 0x5F .badLength [])

/-- A request is not taken while another is held, nor a panel frame while a reply is in progress, and
neither by a part that is not supplied or is held in reset: nothing at all changes (R171, R184, R193).
That a frame which completes then is gone [5], and what a part that does not run does with arrivals [6], is
the model's choice. -/
def Obligations.NothingTakenWhileBusyOrDown : Prop :=
  ∀ (c : Instr) (s : State),
    (isWingRequest c = true → ¬ s.TakesRequest → exec c s = .next s) ∧
    (∀ f, panelFrame? c = some f → ¬ s.Hears → exec c s = .next s)

/-- A frame hidden in the bytes of a dropped frame is found whole: after any bytes without a SYNC, the
bytes a master sends for a request are read back as that request, field by field, its CRC judged good. Where a
gap or a framing error ended the bytes, a SYNC whose frame is dropped or cut short is passed by, and the bytes
behind it are searched (R169) [26]. The reply to a request is sent as SYNC, the part's address, the function with
the reply mark, the status byte (the reason code and the attention mark 0x80), the length, the payload and the CRC
over the bytes from the address on, high byte first; a room link reply is its reason code, the length and the
payload (R173, section 9.4). The reason codes are 0 to 22. The CRC takes the bits of each byte from the highest, with
polynomial 0x1021 from 0xFFFF, and is not inverted (R169). -/
def Obligations.FramesReadBackAndRepliesFormed : Prop :=
  (∀ (f : Frame) (junk : List Byte) (ended : Bool), f.address < 256 → f.function < 256 →
    f.payload.length ≤ 120 → byteOf 0x7E ∉ junk →
    rescan ended (junk ++ requestBytes f) = ([f], .hunt)) ∧
  (∀ bytes : List Byte, (∀ f rest, scanFrame bytes ≠ .done f rest) →
    rescan true (byteOf 0x7E :: bytes) = rescan true bytes) ∧
  (∀ (address : Nat) (r : WingReply), r.function < 128 → r.payload.length ≤ 120 →
    let status := reasonCode r.reason + if r.attention = true then 0x80 else 0
    let body : List Byte := [BitVec.ofNat 8 address, BitVec.ofNat 8 (r.function + 0x80),
      BitVec.ofNat 8 status, BitVec.ofNat 8 r.payload.length] ++ r.payload
    status < 256 ∧
    wingReplyBytes address r = 0x7E :: body ++
      [BitVec.ofNat 8 (crc16 body / 256), BitVec.ofNat 8 (crc16 body % 256)]) ∧
  (∀ r : LinkReply, linkReplyBytes r =
    [BitVec.ofNat 8 (reasonCode r.reason), BitVec.ofNat 8 r.payload.length] ++ r.payload) ∧
  [Reason.ok, .unknownFunction, .badLength, .outOfRange, .badDuration, .noSegment, .past, .notFound,
    .noCursor, .duplicate, .overlap, .full, .active, .held, .conflict, .limit, .loading, .noLoad,
    .badRange, .noClock, .wrongMode, .locked, .noSession].map reasonCode = List.range 23 ∧
  ∀ bytes : List Byte,
    let bits (b : Byte) : List Bool := (List.range 8).map fun k => b.toNat.testBit (7 - k)
    let shifted (c : Nat) (bit : Bool) : Nat :=
      if decide (32768 ≤ c) = bit then 2 * c % 65536 else (2 * c % 65536) ^^^ 0x1021
    crc16 bytes = (bytes.flatMap bits).foldl shifted 0xFFFF

/-- WING_FRAME_DROPPED and WING_GAP_TIMEOUT: no reply to the frame itself; without a SYNC in its bytes WP is in
HUNT and nothing else moves (R169). A frame found inside the bytes is treated by its address and function (R170): one
for the part is answered, and does what the row does that its function code and payload name, by the layouts of
section 9.4 (R172, R178 to R180); a RESTART restarts the part and the bytes behind it are gone; a broadcast TIME SET
of the right length does what its row does; a broadcast of anything else, a frame for another address and another
controller's reply move nothing. WING_FRAME_DISCARDED leaves WP looking for the next SYNC; WING_REPLY_END releases the
request, leaves WP in HUNT and takes up the bit rate in effect (R169, R170, R171). That an end without a reply does
nothing is the model's choice [4], that the bytes behind a RESTART are gone its reading [26], and so are the row of an
unassigned mode code [31] and of a COMMISSION WRITE whose selector has no record [22]. -/
def Obligations.WingLineEventsAndDroppedFrames : Prop :=
  (∀ (s : State) (junk : List Byte), s.alive = true → s.OutputsFollow → s.wp.rx = .hunt →
      byteOf 0x7E ∉ junk →
      exec (.wingFrameDropped junk) s = .next (s.take (.wingFrameDropped junk)) ∧
      exec (.wingGapTimeout junk) s = .next (s.take (.wingGapTimeout junk)) ∧
      ∀ f : Frame, f.address < 256 → f.function < 256 → f.payload.length ≤ 120 →
        ∀ row ∈ [Instr.wingFrameDropped, .wingGapTimeout],
        let found := row (junk ++ requestBytes f)
        let u := s.take found
        (f.function < 128 → f.address = s.wp.address →
          exec found s = exec (wingRow f.function f.payload) u ∧
          (s.wp.held = none → f.function ≠ 0x5F →
            ∃ t, exec found s = .next t ∧
              t.wp.held = some f.function ∧ t.wp.reply.isSome = true ∧ t.wp.rx = .hunt) ∧
          ∀ more, s.wp.held = none → f.function = 0x5F → f.payload = [] →
            exec (row (junk ++ requestBytes f ++ more)) s =
              exec (.restart (.fields ())) (s.take (row (junk ++ requestBytes f ++ more)))) ∧
        (f.function < 128 → f.address ≠ s.wp.address →
          (∀ m sec, f.address = 0 → f.function = 0x01 → f.payload = be 4 m ++ be 1 sec →
            m < 4294967296 → sec < 256 →
            exec found s = exec (.timeSet true (.fields (m, sec))) u) ∧
          (f.address ≠ 0 ∨ f.function ≠ 0x01 ∨ f.payload.length ≠ 5 → exec found s = .next u)) ∧
        (128 ≤ f.function → exec found s = .next u)) ∧
  ∀ s : State, s.alive = true → s.OutputsFollow →
    exec .wingFrameDiscarded s =
      .next { s.take .wingFrameDiscarded with wp := { s.wp with rx := .hunt } } ∧
    (∀ r, s.wp.reply = some r →
      exec .wingReplyEnd s = .next { s.take .wingReplyEnd with
        wp := { s.wp with
          rx := .hunt
          bitRate := s.suite.bitRate
          held := none
          reply := none
          lastSent := some r } }) ∧
    (s.wp.reply = none → exec .wingReplyEnd s = .next (s.take .wingReplyEnd))

/-! ### The room link and the panel commands. `s.presence i` is the state after the press (R183, R99). -/

/-- R183: a frame for a segment that is not configured is answered NO_SEGMENT without a press; a command
code that is not listed, and a wrong length, are answered with a press; a frame that passes the checks does
what the row of its command does. In SERVICE every panel command but STATUS and the
UPCOMING reads is refused WRONG_MODE, and only the press takes effect (R185, R190, R99). -/
def Obligations.PanelFramesRefusedInOrder : Prop :=
  (∀ (s : State), s.Hears → s.OutputsFollow →
      (∀ (c : Instr) (i : Seg) (bytes : List Byte), panelFrame? c = some (i, bytes) →
        s.configured i = false → exec c s = .next (s.panelReplied bytes .noSegment [])) ∧
      (∀ (i : Seg) (code : Nat) (payload : List Byte), s.configured i = true →
        (panelLength code = none →
          exec (.panelFrameRefused i code payload) s =
            .next ((s.presence i).panelReplied (frameBytes i code payload) .unknownFunction [])) ∧
        (∀ n, panelLength code = some n → payload.length ≠ n →
          exec (.panelFrameRefused i code payload) s =
            .next ((s.presence i).panelReplied (frameBytes i code payload) .badLength [])))) ∧
  (∀ (s : State) (c : Instr) (i : Seg) (code : Nat) (payload : List Byte), c.wf = true →
    panelFrame? c = some (i, frameBytes i code payload) → panelLength code = some payload.length →
    exec (.panelFrameRefused i code payload) s = exec c s) ∧
  ∀ (c : Instr) (s : State) (i : Seg) (bytes : List Byte), s.TakesPanel i → s.OutputsFollow →
    panelFrame? c = some (i, bytes) → refusedInService c = true → s.inRun = false →
    exec c s = .next ((s.presence i).panelReplied bytes .wrongMode [])

/-- BEGIN: NO_CLOCK on an invalid clock; the running session's reference; else the first entry in table
order that covers the segment and starts within 30 minutes is brought forward with cause PANEL, or CONFLICT
where an active entry covers one of its segments (R41, R39). That the running session is looked for in BT's
own table over the panel's group [9], and that now + 30 is an exact sum [24], is the model's reading. -/
def Obligations.BeginAnswersOrBringsForward : Prop :=
  ∀ (s : State) (i : Seg), s.TakesPanel i → s.OutputsFollow → s.inRun = true →
    let p := s.presence i
    let bytes := frameBytes i 0x01 []
    let g := (s.panelGroup i).segs
    (s.tb.valid = false → exec (.panelBegin i) s = .next (p.panelReplied bytes .noClock [])) ∧
    (∀ e, s.tb.valid = true → governingOf p.bt.table g = some e → isActive e = true →
      exec (.panelBegin i) s = .next (p.panelReplied bytes .ok (be 4 e.fix.ref))) ∧
    (∀ e, s.tb.valid = true → (∀ x, governingOf p.bt.table g = some x → isActive x = false) →
      (p.bt.table.find? fun x => segHas (entrySegs x) i && !isActive x
        && decide (x.fix.start ≤ s.tb.minutes + 30)) = some e →
      (p.bt.table.any (fun x => isActive x && segsMeet (entrySegs x) (entrySegs e)) = true →
        exec (.panelBegin i) s = .next (p.panelReplied bytes .conflict [])) ∧
      (p.bt.table.any (fun x => isActive x && segsMeet (entrySegs x) (entrySegs e)) = false →
        exec (.panelBegin i) s = .next (({ p with
          bt := { p.bt with table := p.bt.table.map fun x =>
            if x.fix.ref == e.fix.ref then
              { x with vol := begunVolatile s.comm e.fix s.tb.minutes .panel true x.vol } else x }
          nq := (p.notify (.sessionStarted
            (startedFields e.fix s.tb.minutes .panel))).nq
          reports := p.reports ++ [.entryStateChange e.fix.ref (entrySegs e) true] } :
            State).panelReplied bytes .ok (be 4 e.fix.ref))))

/-- BEGIN with no session and no entry to bring forward: CONFLICT where less than 10 minutes are free,
FULL with 128 entries, else an ADHOC entry on the group under the first free reference at or above the
counter, in session with the walk-in record's setpoint, current scene and saved scene, or the walk-in setpoint and
scene 0 where the group holds no record, the counter set behind it (R42, R39, R6). Its end
is the earlier of now + 60 and the earliest start among the entries on the group that end after now (R42). That
the governing entry is looked for in BT's own table [9] and that the sums are exact [24] is the model's reading. -/
def Obligations.BeginCreatesAdhocEntry : Prop :=
  ∀ (s : State) (i : Seg), s.TakesPanel i → s.OutputsFollow → s.inRun = true → s.tb.valid = true →
    4294901760 ≤ s.bt.nextAdhoc → s.bt.nextAdhoc ≤ 4294967295 →
    let p := s.presence i
    let bytes := frameBytes i 0x01 []
    let g := (s.panelGroup i).segs
    (∀ x, governingOf p.bt.table g = some x → isActive x = false) →
    (∀ x ∈ p.bt.table, segHas (entrySegs x) i = true → isActive x = false →
      s.tb.minutes + 30 < x.fix.start) →
    let bounds (x : Entry) : Prop :=
      x ∈ s.bt.table ∧ segsMeet (entrySegs x) g = true ∧ s.tb.minutes < x.fix.stop
    p.adhocEnd g ≤ s.tb.minutes + 60 ∧ (∀ x, bounds x → p.adhocEnd g ≤ x.fix.start) ∧
    (p.adhocEnd g = s.tb.minutes + 60 ∨ ∃ x, bounds x ∧ p.adhocEnd g = x.fix.start) ∧
    (p.adhocEnd g < s.tb.minutes + 10 →
      exec (.panelBegin i) s = .next (p.panelReplied bytes .conflict [])) ∧
    (s.tb.minutes + 10 ≤ p.adhocEnd g → 128 ≤ s.bt.table.length →
      exec (.panelBegin i) s = .next (p.panelReplied bytes .full [])) ∧
    (s.tb.minutes + 10 ≤ p.adhocEnd g → s.bt.table.length < 128 →
      ∃ r k, k ≤ 128 ∧ r = adhocRef s.bt.nextAdhoc k ∧ 4294901760 ≤ r ∧ r ≤ 4294967295 ∧
        (∀ x ∈ s.bt.table, x.fix.ref ≠ r) ∧
        (∀ j < k, ∃ x ∈ s.bt.table, x.fix.ref = adhocRef s.bt.nextAdhoc j) ∧
        let f : Fixed := ⟨r, s.tb.minutes, p.adhocEnd g, g.first, g.span, .adhoc,
          clampHeadcount s.comm g s.suite.walkInHeadcount, none, none, none, false, false⟩
        let copied : Volatile := match p.walkIn? g with
          | some w => { Volatile.planned with
              liveSetpoint := some w.setpoint, currentScene := some w.scene, savedScene := w.saved }
          | none => Volatile.planned
        let v := begunVolatile s.comm f s.tb.minutes .panel true copied
        (∀ w, p.walkIn? g = some w → v.liveSetpoint = some w.setpoint ∧
          v.currentScene = some w.scene ∧ v.savedScene = w.saved) ∧
        (p.walkIn? g = none → v.liveSetpoint = some s.suite.walkInSetpoint ∧
          v.currentScene = some 0 ∧ v.savedScene = none) ∧
        exec (.panelBegin i) s = .next (({ p with
          bt := { (p.withTable (insertEntry ⟨f, v⟩ p.bt.table)).bt with
            nextAdhoc := if r = 4294967295 then 4294901760 else r + 1 }
          nq := (p.notify (.sessionStarted (startedFields f s.tb.minutes .panel))).nq
          reports := p.reports ++ [.entryStateChange r g true] } : State).panelReplied
            bytes .ok (be 4 r)))

/-- END: HELD for a held entry; the group's session ends with cause PANEL; without one the walk-in ends:
every timer of the group stops, each stopped one is reported, and the group, no segment of it covered, is
vacant without a walk-in record (R25, R47, R46, R105). That the session is looked for in BT's own table is the
model's reading [9], and that the groups it governed are those LM's records name the model's choice [35], as is
the order in which its two reports wait [1]. -/
def Obligations.EndStopsSessionOrWalkIn : Prop :=
  ∀ (s : State) (i : Seg), s.TakesPanel i → s.OutputsFollow → s.inRun = true →
    let p := s.presence i
    let bytes := frameBytes i 0x02 []
    let g := (s.panelGroup i).segs
    (∀ e, governingOf p.bt.table g = some e → isActive e = true →
      (e.fix.held = true → exec (.panelEnd i) s = .next (p.panelReplied bytes .held [])) ∧
      (e.fix.held = false → exec (.panelEnd i) s = .next (({ p with
        bt := (p.withTable (p.bt.table.filter fun x => x.fix.ref != e.fix.ref)).bt
        nq := (p.notify (.sessionEnded (endedFields e s.tb.minutes .panel))).nq
        reports := p.reports ++ [.entryStateChange e.fix.ref (entrySegs e) false,
          .sessionEndOverrides e.fix.ref (s.governedBy e.fix.ref)] } : State).panelReplied
            bytes .ok []))) ∧
    ((∀ e, governingOf p.bt.table g = some e → isActive e = false) →
      ∃ t, exec (.panelEnd i) s = .next t ∧
        t = { p with ot := t.ot, reports := t.reports, rl := (s.panelReplied bytes .ok []).rl } ∧
        (∀ j ∈ segList g, (t.ot.segs.get j).vacancy = none ∧ (t.ot.segs.get j).restored = false ∧
          ((p.ot.segs.get j).vacancy.isSome = true → .vacancyReport j ∈ t.reports)) ∧
        (∀ j, j ∉ segList g → t.ot.segs.get j = p.ot.segs.get j) ∧
        t.ot.groups.map (fun (r : OtGroup) => (r.segs, r.level)) =
          p.ot.groups.map (fun (r : OtGroup) => (r.segs, r.level)) ∧
        ((∀ j ∈ segList g, (s.ot.segs.get j).covered = false) →
          ∀ r ∈ t.ot.groups, r.segs = g → r.occupied = false ∧ r.walkIn = none))

/-- EXTEND and HEADCOUNT on the group's active governing entry, NO_SESSION without one: EXTEND is refused
HELD, LIMIT, LIMIT, CONFLICT in that order, else the end moves by the clamped minutes up to 600 from the
start; HEADCOUNT clamps, sets the panel headcount, raises the peak and reports (R48, R51, R25). That the session
is looked for in BT's own table [9], and that an end beyond the clock's range is an exact sum whose low bytes
the reply carries [24], is the model's reading. -/
def Obligations.ExtendAndHeadcountActOnTheSession : Prop :=
  ∀ (s : State) (i : Seg) (n : Nat), s.TakesPanel i → s.OutputsFollow → s.inRun = true →
    let p := s.presence i
    let g := (s.panelGroup i).segs
    let xb := frameBytes i 0x03 (be 1 n)
    let hb := frameBytes i 0x04 (be 2 n)
    ((∀ e, governingOf p.bt.table g = some e → isActive e = false) →
      exec (.panelExtend i n) s = .next (p.panelReplied xb .noSession []) ∧
      exec (.panelHeadcount i n) s = .next (p.panelReplied hb .noSession [])) ∧
    ∀ e, governingOf p.bt.table g = some e → isActive e = true →
      let stop := min (e.fix.stop + max 5 (min 60 n)) (e.fix.start + 600)
      let f : Fixed := { e.fix with stop := stop }
      let others := p.bt.table.filter fun x => x.fix.ref != e.fix.ref
      let count := min (min n 400) (seatsOf s.comm (entrySegs e))
      exec (.panelExtend i n) s = .next
        (if e.fix.held then p.panelReplied xb .held []
        else if e.vol.state = .overrun ∨ stop ≤ e.fix.stop then p.panelReplied xb .limit []
        else if others.any (fun x => clash f x.fix) then p.panelReplied xb .conflict []
        else (p.withTable (insertEntry { e with fix := f } others)).panelReplied xb .ok
          (be 4 stop)) ∧
      exec (.panelHeadcount i n) s = .next (({ p with
        bt := { p.bt with table := p.bt.table.map fun x =>
          if x.fix.ref == e.fix.ref then { x with vol := { x.vol with
            panelHeadcount := some count
            peakHeadcount := some (max count (x.vol.peakHeadcount.getD 0)) } } else x }
        reports := p.reports ++ [.headcountChange e.fix.ref (entrySegs e)] } : State).panelReplied
          hb .ok (be 2 count))

/-- ADJUST: at SESSION the governing entry's live setpoint, at PREPARE and NONE the walk-in setpoint, moves
by the step clamped to 30 tenths within the adjust range of its stored setpoint and 160 to 280, and the
reply carries it; each loop it serves judges the new setpoint by R111, and hands on what follows, behind the
reports that wait, the model's choice [1]; NO_SESSION
without such a setpoint (R126, R127). What a passing state without the governing entry's copies answers is the
model's [10], and so is which loop of AL is judged in one [52], [60]. -/
def Obligations.AdjustMovesTheSetpointWithinItsRange : Prop :=
  ∀ (s : State) (i : Seg) (d : Int), s.TakesPanel i → s.OutputsFollow → s.inRun = true →
    let p := s.presence i
    let g := s.panelGroup i
    let bytes := frameBytes i 0x05 (beInt 1 d)
    let moved (now stored : Nat) : Nat :=
      max (max 160 (stored - s.suite.adjustRange))
        (min (min 280 (stored + s.suite.adjustRange)) ((now : Int) + max (-30) (min 30 d)).toNat)
    let judged (t : State) (hit : Loop → Bool) : Prop :=
      t.al = { p.al with loops := p.al.loops.map fun l => if hit l then t.loopFollowing l else l } ∧
      t.reports = p.reports ++ loopReports p.al.loops t.al.loops ∧
      t.al.loops.map (·.segs) = p.al.loops.map (·.segs)
    (∀ e live, g.level = .session → g.governing.bind p.entry? = some e →
      e.vol.liveSetpoint = some live →
      ∃ t, exec (.panelAdjust i d) s = .next t ∧
        t.bt = { p.bt with table := p.bt.table.map fun x =>
          if x.fix.ref == e.fix.ref then { x with vol := { x.vol with
            liveSetpoint := some (moved live (storedSetpoint s.comm e.fix)) } } else x } ∧
        judged t (fun l => l.governing == some e.fix.ref) ∧
        t.rl = (s.panelReplied bytes .ok (be 2 (moved live (storedSetpoint s.comm e.fix)))).rl ∧
        t = { p with bt := t.bt, al := t.al, reports := t.reports, rl := t.rl, os := t.os }) ∧
    (∀ w, g.level ≠ .session → p.walkIn? g.segs = some w →
      ∃ t, exec (.panelAdjust i d) s = .next t ∧
        t.ot = { p.ot with groups := p.ot.groups.map fun r =>
          if r.segs == g.segs then { r with walkIn := r.walkIn.map fun x =>
            { x with setpoint := moved w.setpoint s.suite.walkInSetpoint } } else r } ∧
        judged t (fun l => l.segs == g.segs) ∧
        t.rl = (s.panelReplied bytes .ok (be 2 (moved w.setpoint s.suite.walkInSetpoint))).rl ∧
        t = { p with ot := t.ot, al := t.al, reports := t.reports, rl := t.rl, os := t.os }) ∧
    (g.level ≠ .session → p.walkIn? g.segs = none →
      exec (.panelAdjust i d) s = .next (p.panelReplied bytes .noSession []))

/-- SCENE and RESTORE on the scene owner (R145 to R148, R26): a number above 15 is refused, then a scene not
exam-allowed under an active EXAM entry; the table of R146 and the cases of R147 give the two scenes, the reply
the current one; in every group the owner owns the overrides are cleared and the row and blind targets formed
anew, and in a group it governs at PREPARE the blind targets are resolved (R148, R157); NO_SESSION for either
without an owner. That the owner is read from LM's and OT's records is the model's reading [10], and that a
group LBU has not formed shows nothing of it its choice [60]. Targets are formed as the model reads R150 and
R157 in a passing state [12], [41] and at a vacant SESSION [54]. -/
def Obligations.SceneAndRestoreChangeTheOwnersScenes : Prop :=
  ∀ (s : State) (i : Seg) (n : Nat), s.TakesPanel i → s.OutputsFollow → s.inRun = true →
    let p := s.presence i
    let g := s.panelGroup i
    let sb := frameBytes i 0x06 (be 1 n)
    let rb := frameBytes i 0x07 []
    let temp (k : Nat) : Bool := (s.comm.scene k).temporary
    let saves (cur : Nat) (saved : Option Nat) : Option Nat :=
      if temp n then (if temp cur then saved else some cur) else none
    let withScenes (e : Entry) (cur : Nat) (saved : Option Nat) : List Entry :=
      p.bt.table.map fun (x : Entry) => if x.fix.ref == e.fix.ref then
        { x with vol := { x.vol with currentScene := some cur, savedScene := saved } } else x
    let walkScenes (cur : Nat) (saved : Option Nat) : List OtGroup :=
      p.ot.groups.map fun (r : OtGroup) => if r.segs == g.segs then
        { r with walkIn := r.walkIn.map fun x => { x with scene := cur, saved := saved } } else r
    let cleared (t : State) (ref : Option Nat) : Prop :=
      let u : State := { p with bt := t.bt, ot := t.ot }
      let owned (r : LbuGroup) : Bool := r.segs == g.segs ||
        (r.level == .session && ref.isSome && r.governing == ref)
      let prepared (r : LbuGroup) : Bool := r.level == .prepare && ref.isSome && r.governing == ref
      u.LitOnlyIn t ((s.lbu.groups.filter fun r => owned r || prepared r).map (·.segs)) ∧
      (∀ r ∈ s.lbu.groups, owned r = true → u.GroupLit t r true true ∧
        ∀ j ∈ segList r.segs, (t.blind j).override = none) ∧
      ∀ r ∈ s.lbu.groups, prepared r = true → owned r = false → u.GroupLit t r false false
    (15 < n → exec (.panelScene i n) s = .next (p.panelReplied sb .outOfRange [])) ∧
    (n ≤ 15 → p.examRuns g = true → (s.comm.scene n).examAllowed = false →
      exec (.panelScene i n) s = .next (p.panelReplied sb .held [])) ∧
    (∀ e cur, g.level = .session → g.governing.bind p.entry? = some e →
      e.vol.currentScene = some cur →
      (n ≤ 15 → (p.examRuns g && !(s.comm.scene n).examAllowed) = false →
        ∃ t, exec (.panelScene i n) s = .next t ∧
          t.bt = { p.bt with table := withScenes e n (saves cur e.vol.savedScene) } ∧
          t = { p with bt := t.bt, lbu := t.lbu, os := t.os,
                       rl := (s.panelReplied sb .ok (be 1 n)).rl } ∧ cleared t (some e.fix.ref)) ∧
      ∃ t, exec (.panelRestore i) s = .next t ∧
        let back := e.vol.savedScene.getD (bookedScene s.comm e.fix)
        t.bt = { p.bt with table := withScenes e back none } ∧
        t = { p with bt := t.bt, lbu := t.lbu, os := t.os,
                     rl := (s.panelReplied rb .ok (be 1 back)).rl } ∧ cleared t (some e.fix.ref)) ∧
    (∀ w, g.level ≠ .session → p.walkIn? g.segs = some w →
      (n ≤ 15 → (p.examRuns g && !(s.comm.scene n).examAllowed) = false →
        ∃ t, exec (.panelScene i n) s = .next t ∧
          t.ot = { p.ot with groups := walkScenes n (saves w.scene w.saved) } ∧
          t = { p with ot := t.ot, lbu := t.lbu, os := t.os,
                       rl := (s.panelReplied sb .ok (be 1 n)).rl } ∧ cleared t none) ∧
      ∃ t, exec (.panelRestore i) s = .next t ∧
        t.ot = { p.ot with groups := walkScenes (w.saved.getD 0) none } ∧
        t = { p with ot := t.ot, lbu := t.lbu, os := t.os,
                     rl := (s.panelReplied rb .ok (be 1 (w.saved.getD 0))).rl } ∧ cleared t none) ∧
    (g.level ≠ .session → p.walkIn? g.segs = none →
      (n ≤ 15 → (p.examRuns g && !(s.comm.scene n).examAllowed) = false →
        exec (.panelScene i n) s = .next (p.panelReplied sb .noSession [])) ∧
      exec (.panelRestore i) s = .next (p.panelReplied rb .noSession []))

/-- BLIND: a target (clamped to 1000), a stop (the position of each blind) or AUTO sets the manual override of
every configured segment of the group, whose blind target is resolved afresh (R157), and no other segment's
record moves; a request code that names none, one above 2, is refused OUT_OF_RANGE, the model's reading [31]
(R158). Targets are formed as the model reads R150 and R157 in a passing state [12], [41] and at a vacant
SESSION [54]. -/
def Obligations.BlindRequestsSetTheOverrides : Prop :=
  ∀ (s : State) (i : Seg) (x : Nat), s.TakesPanel i → s.OutputsFollow → s.inRun = true →
    let p := s.presence i
    let g := (s.panelGroup i).segs
    let sets (c : Instr) (bytes : List Byte) (override : Blind → Option Nat) : Prop :=
      ∃ t, exec c s = .next t ∧
        (∀ j ∈ segList g, s.configured j = true →
          (t.blind j).override = override (s.blind j) ∧ (t.blind j).position = (s.blind j).position ∧
          t.lbu.segs.get j = { s.lbu.segs.get j with blind :=
            (p.mapBlind j fun b => { b with override := override b }).blindResolved j false }) ∧
        (∀ j, j ∉ segList g → t.lbu.segs.get j = s.lbu.segs.get j) ∧
        t = { p with lbu := t.lbu, os := t.os, rl := (s.panelReplied bytes .ok []).rl } ∧
        t.lbu = { s.lbu with segs := t.lbu.segs } ∧ t.os = t.drive.os
    sets (.blindTarget i 0 x) (frameBytes i 0x08 (be 1 0 ++ be 2 x)) (fun _ => some (min 1000 x)) ∧
    sets (.blindStop i x) (frameBytes i 0x08 (be 1 1 ++ be 2 x)) (fun b => some b.position) ∧
    sets (.blindAuto i x) (frameBytes i 0x08 (be 1 2 ++ be 2 x)) (fun _ => none) ∧
    ∀ r, 2 < r → exec (.blindTarget i r x) s =
      .next (p.panelReplied (frameBytes i 0x08 (be 1 r ++ be 2 x)) .outOfRange [])

/-- STATUS, UPCOMING_FIRST and UPCOMING_NEXT, in both modes: the status of the panel's group, its fields in
their order (R186, R109, R145); the first entry in table order that covers the segment and, on a valid clock,
ends later than now, or the first such behind the address's cursor, with its reference, kind, start, end, first
segment, span and state (R187); only that cursor moves. The replies are 17 and 16 bytes (section 9.4). The flag
and presence bytes of the status are sent as [55] has them, and what a passing state shows is the model's
reading [10]. -/
def Obligations.PanelReadsMoveOnlyTheirCursor : Prop :=
  ∀ (s : State) (i : Seg), s.TakesPanel i → s.OutputsFollow →
    let p := s.presence i
    let concerned (e : Entry) : Bool := segHas (entrySegs e) i
      && (!s.tb.valid || decide (s.tb.minutes < e.fix.stop))
    let behind (k : Key) (e : Entry) : Bool :=
      decide (k.start < e.fix.start ∨ (k.start = e.fix.start ∧ k.ref < e.fix.ref))
    let kind (k : Kind) : Nat := match k with
      | .lecture => 1
      | .caseStudy => 2
      | .exam => 3
      | .event => 4
      | .adhoc => 5
    let group := s.panelGroup i
    let governing : Option Entry := group.governing.bind p.entry?
    let loop := (p.loop? group.segs).getD (Loop.initial group.segs 0)
    let setpoint : Option Nat := if group.level = .none
      then (p.walkIn? group.segs).map (·.setpoint) else governing.bind (·.vol.liveSetpoint)
    let scene : Option Nat := if group.level = .session
      then governing.bind (·.vol.currentScene) else (p.walkIn? group.segs).map (·.scene)
    let status : List Byte :=
      be 1 (match group.level with
        | .none => 0
        | .prepare => 1
        | .session => 2) ++
      be 4 (group.governing.getD 0) ++ be 1 ((governing.map fun e => kind e.fix.kind).getD 0) ++
      be 4 ((governing.map (·.fix.stop)).getD 0) ++ be 2 (setpoint.getD 0) ++
      be 1 (scene.getD 0xFF) ++ [if loop.settled = true then 1 else 0] ++
      [if loop.temp.isSome = true then 1 else 0] ++ beInt 2 (loop.temp.getD 0)
    let upcoming (e : Entry) : List Byte :=
      be 4 e.fix.ref ++ be 1 (kind e.fix.kind) ++ be 4 e.fix.start ++ be 4 e.fix.stop ++
      be 1 e.fix.first ++ be 1 e.fix.span ++ be 1 (match e.vol.state with
        | .planned => 0
        | .preparing => 1
        | .ready => 2
        | .inSession => 3
        | .overrun => 4)
    let answer (bytes : List Byte) (found : Option Entry) : State :=
      match found with
      | some e => ({ p with rl := { p.rl with
          cursors := p.rl.cursors.set i (some ⟨e.fix.start, e.fix.ref⟩) } } : State).panelReplied
            bytes .ok (upcoming e)
      | none => p.panelReplied bytes .notFound []
    status.length = 17 ∧ (∀ e, (upcoming e).length = 16) ∧
    exec (.panelStatus i) s = .next (p.panelReplied (frameBytes i 0x09 []) .ok status) ∧
    exec (.upcomingFirst i) s = .next
      (answer (frameBytes i 0x0A []) (p.bt.table.find? concerned)) ∧
    (s.rl.cursors.get i = none → exec (.upcomingNext i) s = .next
      (p.panelReplied (frameBytes i 0x0B []) .noCursor [])) ∧
    ∀ k, s.rl.cursors.get i = some k → exec (.upcomingNext i) s = .next
      (answer (frameBytes i 0x0B []) (p.bt.table.find? fun e => concerned e && behind k e))

/-- The room link line. Each byte of a row meets RL's byte table (R181): discarded in REPLY (R184) and while the
echo of a break is being driven (R182), else echoed; in IDLE an address byte begins a frame; a length above 6
discards it; the last byte completes it and it is taken like the row of its command (R183). A gap then discards
the frame in progress; a byte with a framing error is echoed as received and discards it (R181); a break
discards it, or the rest of a reply, and is echoed (R182); a collision discards the rest of the reply and sends
a break; the end of a reply returns RL to IDLE (R184). The model's: that these rows carry their bytes [32], when
the echo of a break ends [44], and that the end of a reply or a collision without a reply does nothing [4]. -/
def Obligations.LinkLineEventsLeaveRlIdle : Prop :=
  (∀ (s : State) (b : Byte), s.alive = true →
    let joins (state : RlState) (frame : List Byte) : State :=
      { s with rl := { s.rl with state := state, frame := frame, echo := s.rl.echo ++ [b] } }
    (s.rl.state = .reply ∨ s.rl.breakEcho = true → s.linkByte b = s) ∧
    (s.rl.breakEcho = false → s.rl.state = .idle →
      (0xA0 ≤ b.toNat → b.toNat ≤ 0xA3 → s.linkByte b = joins .receive [b]) ∧
      (b.toNat < 0xA0 ∨ 0xA3 < b.toNat → s.linkByte b = joins .idle [])) ∧
    (s.rl.breakEcho = false → s.rl.state = .receive →
      (∀ a, s.rl.frame = [a] → s.linkByte b = joins .receive [a, b]) ∧
      (∀ a code, s.rl.frame = [a, code] →
        (6 < b.toNat → s.linkByte b = joins .idle []) ∧
        (b.toNat = 0 → s.linkByte b = s.takePanelFrame (panelSeg a) code.toNat []) ∧
        (0 < b.toNat → b.toNat ≤ 6 → s.linkByte b = joins .receive [a, code, b])) ∧
      ∀ a code len payload, s.rl.frame = a :: code :: len :: payload →
        (payload.length + 1 < len.toNat →
          s.linkByte b = joins .receive (a :: code :: len :: (payload ++ [b]))) ∧
        (len.toNat ≤ payload.length + 1 →
          s.linkByte b = s.takePanelFrame (panelSeg a) code.toNat (payload ++ [b])))) ∧
  ∀ (s : State) (bytes : List Byte), s.alive = true → s.OutputsFollow →
    let after (c : Instr) : State :=
      if s.rl.state = .reply ∨ s.rl.breakEcho = true then s.take c
      else bytes.foldl State.linkByte { s.take c with rl := { s.rl with echo := [] } }
    let lost (c : Instr) : State :=
      let v := after c
      match v.rl.state with
      | .reply => v.drive
      | .idle => v
      | .receive => { v with rl := { v.rl with state := .idle, frame := [], reply := none } }
    exec (.linkGapTimeout bytes) s = .next (lost (.linkGapTimeout bytes)) ∧
    (bytes = [] → exec (.linkFrameDiscarded bytes) s = .next (lost (.linkFrameDiscarded bytes))) ∧
    (∀ b, let c := Instr.linkFrameDiscarded (bytes ++ [b])
      exec c s = .next
        (if s.rl.state = .reply ∨ s.rl.breakEcho = true then s.take c
        else if (after c).rl.state = .reply then (after c).drive
        else { after c with rl := { (after c).rl with
          state := .idle, frame := [], echo := (after c).rl.echo ++ [b] } })) ∧
    (let v := after (.lineBreak bytes);
      exec (.lineBreak bytes) s = .next ({ v with rl := { v.rl with
        state := .idle, frame := [], reply := none, breakEcho := true
        echo := if v.rl.state = .reply then [] else v.rl.echo } } : State).drive) ∧
    (s.rl.breakEcho = false → ∀ c, (after c).rl.state ≠ .reply → (after c).rl.echo = bytes) ∧
    (∀ (i : Seg) (code : Nat) (payload : List Byte), s.rl.breakEcho = false → s.rl.state = .idle →
      code < 256 → payload.length ≤ 6 → bytes = frameBytes i code payload →
      exec (.linkGapTimeout bytes) s =
        exec (.panelFrameRefused i code payload) (s.take (.linkGapTimeout bytes))) ∧
    exec .replyCollision s = .next
      (if s.rl.state = .reply then { s.take .replyCollision with rl := { s.rl with
          state := .idle, frame := [], reply := none, echo := [], breakEcho := true } }
      else s.take .replyCollision) ∧
    exec .linkReplyEnd s = .next
      (match s.rl.reply with
      | some r => { s.take .linkReplyEnd with rl := { s.rl with
          state := .idle, frame := [], reply := none, breakEcho := false, lastSent := some r } }
      | none => s.take .linkReplyEnd)

/-! ### Partitions and groups -/

/-- The readings of the two contacts (R72). PARTITION_CONTACT_CHANGE notes the levels; at a configured
partition a reading equal to the accepted state ends the settling and another starts it at 3 seconds.
SETTLE_TIMER_EXPIRY accepts the reading that settles (R73): BETWEEN starts its 120 seconds, a FAULT not yet
reported queues PARTITION_FAULT (R74), a move into or out of OPEN forms the groups anew and another leaves
them. The regroup (R77): unchanged groups keep governing entry, level and list, new ones are resolved (R78, R79,
R82 to R84), the report with the groups gone and formed goes to SI, OT, AL, LBU and AD, BT answers the entries
that came to govern or ceased to (R80, R35, R36), and every active entry is compared (R85). BETWEEN_TIMER_EXPIRY
reports once (R74). That a stopped timer's expiry does nothing is the model's choice [4], and so are the
shares of entries on a formed group in every group [37], BT's answers before the compare [34], table order
[46], an active entry outside the suite [53], the place of the reports in the queue [1] and the free minutes of
a READY notice [14]. -/
def Obligations.PartitionReadingsSettleAndAreAccepted : Prop :=
  readingOf true false = .closed ∧ readingOf false true = .opened ∧
  readingOf false false = .between ∧ readingOf true true = .fault ∧
  ∀ (s : State) (p : Part), s.alive = true → s.OutputsFollow →
    let was := s.lm.parts.get p
    (∀ a b : Bool,
      let noted : Partition := { was with closedMade := a, openMade := b }
      let judged : Partition :=
        if s.partConfigured p = false then noted
        else if readingOf a b = was.accepted then { noted with pending := none, settle := none }
        else { noted with pending := some (readingOf a b), settle := some 60 }
      exec (.partitionContactChange p a b) s = .next { s.take (.partitionContactChange p a b) with
        lm := { s.lm with parts := s.lm.parts.set p judged } }) ∧
    (was.pending = none → exec (.settleTimerExpiry p) s = .next (s.take (.settleTimerExpiry p))) ∧
    (∀ r, was.pending = some r →
      ∃ t, exec (.settleTimerExpiry p) s = .next t ∧
        t.lm.parts = s.lm.parts.set p { was with
          accepted := r
          pending := none
          settle := none
          between := if r = .between then some 2400 else none
          reported := if r = .closed ∨ r = .opened then false
            else if r = .fault then true else was.reported } ∧
        ((was.accepted = .opened ↔ r = .opened) →
          t = { s.take (.settleTimerExpiry p) with
            lm := { s.lm with parts := t.lm.parts }
            nq := if r = .fault ∧ was.reported = false
              then (s.notify (.partitionFault p .fault)).nq else s.nq }) ∧
        (¬ (was.accepted = .opened ↔ r = .opened) → t.lm.groups.map (·.segs) = t.formGroups ∧
          (s.UniqueRefs → Regrouped s t (.settleTimerExpiry p)
            (if r = .fault ∧ was.reported = false then [.partitionFault p .fault] else []))) ∧
        t.si = s.si ∧ t.al = s.al ∧ t.ad = s.ad ∧ t.lbu = s.lbu ∧ t.os = s.os) ∧
    (was.between = none →
      exec (.betweenTimerExpiry p) s = .next (s.take (.betweenTimerExpiry p))) ∧
    (was.between.isSome = true →
      exec (.betweenTimerExpiry p) s = .next { s.take (.betweenTimerExpiry p) with
        lm := { s.lm with parts := s.lm.parts.set p { was with between := none, reported := true } }
        nq := if was.reported = false
          then (s.notify (.partitionFault p was.accepted)).nq else s.nq })

/-- R75: every configured segment lies in exactly one group, every group lies in the suite, and two
neighbours share a group exactly while the partition between them is accepted OPEN. -/
def Obligations.GroupsAreTheOpenRuns : Prop :=
  ∀ s : State, 1 ≤ s.segCount → s.segCount ≤ 4 →
    (∀ i : Seg, s.configured i = true →
      (s.formGroups.filter fun g => segHas g i).length = 1) ∧
    (∀ g ∈ s.formGroups, 1 ≤ g.span ∧ g.first + g.span ≤ s.segCount) ∧
    ∀ p : Part, s.partConfigured p = true →
      ((∃ g ∈ s.formGroups, segHas g p.val = true ∧ segHas g (p.val + 1) = true) ↔
        (s.lm.parts.get p).accepted = .opened)

/-- R78 and R79: a group is governed by an active entry on it while there is one, else by a PREPARING or
READY one, each time the one with the lowest first segment, and by none without either; among prepared entries
of one first segment, in a table sorted by start, the earliest start and then the first in table order; SESSION
follows an active entry, PREPARE a prepared one. -/
def Obligations.GoverningEntryIsTheLowestOfItsClass : Prop :=
  ∀ (table : List Entry) (g : Segs),
    (governingOf table g = none ↔
      ∀ x ∈ table, segsMeet (entrySegs x) g = true → isActive x = false ∧ isPrepared x = false) ∧
    (∀ e, governingOf table g = some e →
      e ∈ table ∧ segsMeet (entrySegs e) g = true ∧
      (isActive e = true ∨ (isPrepared e = true ∧
        ∀ x ∈ table, segsMeet (entrySegs x) g = true → isActive x = false)) ∧
      ∀ x ∈ table, segsMeet (entrySegs x) g = true → isActive x = isActive e →
        (isActive x = true ∨ isPrepared x = true) → e.fix.first ≤ x.fix.first) ∧
    (∀ e, governingOf table g = some e → isPrepared e = true →
      table.Pairwise (fun a b => a.fix.start ≤ b.fix.start) →
      let ties (x : Entry) : Bool := segsMeet (entrySegs x) g && isPrepared x
        && x.fix.first == e.fix.first
      (∀ x ∈ table, ties x = true → e.fix.start ≤ x.fix.start) ∧ table.find? ties = some e) ∧
    levelOf (governingOf table g) =
      match governingOf table g with
      | none => .none
      | some e => if isActive e then .session else .prepare

/-- R83: an entry's share in a group is floor(H × b / B), H its headcount, the panel's where there is one, b and B
the seats of its segments in the group and of all its segments, or their areas where these seats sum to 0; the group
of its first segment has the remainder as well, and the whole of H where the areas too sum to 0. Over the groups as
they stand, the shares of an entry that lies in the suite sum to its headcount. -/
def Obligations.SharesSumToTheHeadcount : Prop :=
  (∀ (c : Commission) (groups : List Segs) (e : Entry) (g : Segs),
    let head := match e.vol.panelHeadcount with
      | some n => n
      | none => e.fix.headcount
    let own : List Seg := [0, 1, 2, 3].filter fun i =>
      e.fix.first ≤ i.val && i.val < e.fix.first + e.fix.span
    let seats := (own.map fun i => (c.segments.get i).seats).sum
    let basis (i : Seg) : Nat :=
      if seats = 0 then (c.segments.get i).area else (c.segments.get i).seats
    let all := (own.map basis).sum
    let part (x : Segs) : Nat :=
      head * ((own.filter fun i => x.first ≤ i.val && i.val < x.first + x.span).map basis).sum / all
    let home := g.first ≤ e.fix.first ∧ e.fix.first < g.first + g.span
    (0 < all → home → shareOf c groups e g = part g + (head - (groups.map part).sum)) ∧
    (0 < all → ¬ home → shareOf c groups e g = part g) ∧
    (all = 0 → home → shareOf c groups e g = head) ∧
    (all = 0 → ¬ home → shareOf c groups e g = 0)) ∧
  ∀ (s : State) (e : Entry), 1 ≤ s.segCount → s.segCount ≤ 4 → 1 ≤ e.fix.span →
    e.fix.first + e.fix.span ≤ s.segCount →
    (s.formGroups.map fun g => shareOf s.comm s.formGroups e g).sum =
      e.vol.panelHeadcount.getD e.fix.headcount

/-- ENTRY_STATE_CHANGE resolves every group of the entry's segments, its in-session list with the shares formed
anew (R82, R83), and reports each change of governing entry or level to OT, AL and LBU (R80), and compares the
layout of an entry that began its session (R85); LM notes afresh which PREPARING and READY entries govern the group
of their first segment, and reports to BT each that came to govern it or ceased to (R80). The reports that wait
already are kept, in their order, the partitions stand; HEADCOUNT_CHANGE forms the shares of that entry and every
people figure anew (R84); GOVERNING_CHANGE sets the standing of the group at its receiver (R103, R109, R145),
where every record stays. At OT a segment of the group is covered exactly while an in-session item covers it,
also where an in-session list alone has changed, and every group's occupancy is derived anew (R98, R102), with
the lists as they stand then, the model's choice [38]. At LBU the rows of the group are formed anew where its
owner or applied scene has changed, and its blinds always (R152, R157). At AL the group's loop then follows R110
and R111: from PARKED to ACQUIRE as it comes to have an active setpoint, to PARKED as it ceases to, to ACQUIRE
again where the setpoint lies more than 10 tenths from the reference, each with an evaluation, one demand update
and the loss of SETTLED reported, and else as it was. The model's: the order in which reports wait [1], a
setpoint that cannot be read just now [12], [49], the time before LM's exit report [52], a governing change for a
set that its receiver holds no record of [61], table order of several reports to BT [46] and group order of several
governing changes [47]. Targets are formed as the model reads R150 and R157 in a passing state [12], [41] and at a
vacant SESSION [54]. -/
def Obligations.EntryChangesReachTheStandings : Prop :=
  ∀ s : State, s.alive = true → s.OutputsFollow →
    let kept (r : GroupRec) := (r.segs, r.governing, r.level,
      r.sessions.map fun (it : SessionItem) => (it.ref, it.segs))
    let relisted (p : GroupRec × GroupRec) : Bool := p.1.governing == p.2.governing &&
      p.1.level == p.2.level && p.1.sessions.map (·.ref) != p.2.sessions.map (·.ref)
    let rest (g : Segs) (r : GroupRec) := if segsMeet r.segs g = true then none else some (kept r)
    (∀ ref g began,
      ∃ t, exec (.entryStateChange ref g began) s = .next t ∧
        t = { s.take (.entryStateChange ref g began) with
          lm := t.lm, ot := t.ot, bt := t.bt, nq := t.nq, reports := t.reports } ∧
        t.lm.parts = s.lm.parts ∧
        (let home (e : Entry) : Bool := t.lm.groups.any fun r =>
          segHas r.segs e.fix.first && r.governing == some e.fix.ref
        let before (e : Entry) : Bool := s.lm.governsFirst.contains e.fix.ref
        let changes : List Instr := (s.lm.groups.zip t.lm.groups).flatMap fun p =>
          if p.1.governing = p.2.governing ∧ p.1.level = p.2.level then []
          else [Block.ot, .al, .lbu].map fun b =>
            .governingChange b p.2.segs p.2.governing p.2.level
        let answers : List Instr := (s.bt.table.filter isPrepared).filterMap fun e =>
          if home e = true ∧ before e = false then some (.cameToGovern e.fix.ref)
          else if home e = false ∧ before e = true then some (.ceasedToGovern e.fix.ref)
          else none
        t.lm.governsFirst =
          (s.bt.table.filter fun e => isPrepared e && home e).map (·.fix.ref) ∧
        ∃ ahead behind early late,
          ahead ++ behind = s.reports.erase (.entryStateChange ref g began) ++ changes ∧
          t.reports = ahead ++ early ++ behind ++ late ++ answers ∧
          (∀ c ∈ early ++ late, ∃ b h o w, c = .occupancyReport b h o w) ∧
          ((s.lm.groups.zip t.lm.groups).any relisted = false → early = [] ∧ late = [])) ∧
        (∀ i, t.ot.segs.get i = { s.ot.segs.get i with
          covered := if (s.lm.groups.zip t.lm.groups).any (fun p => relisted p && segHas p.2.segs i)
            then t.listed i else (s.ot.segs.get i).covered }) ∧
        ((s.lm.groups.zip t.lm.groups).any relisted = true → OccupancySettled s t) ∧
        ((s.lm.groups.zip t.lm.groups).any relisted = false → t.ot = s.ot) ∧
        (began = false → t.bt = s.bt ∧ t.nq = s.nq) ∧
        (s.UniqueRefs → ∀ e r, began = true → s.entry? ref = some e → isActive e = true →
          s.groupOf? e.fix.first = some r →
          t.bt = { s.bt with table := s.bt.table.map fun (x : Entry) => if x.fix.ref == ref then
            { x with vol := { x.vol with
              lastLayout := if r.segs = entrySegs e then none else some r.segs } } else x } ∧
          t.nq = (if r.segs = entrySegs e ∨ e.vol.lastLayout = some r.segs then s.nq
            else (s.notify (.layoutMismatch ref (entrySegs e) r.segs)).nq)) ∧
        t.lm.groups.map (·.segs) = s.lm.groups.map (·.segs) ∧
        t.lm.groups.map (rest g) = s.lm.groups.map (rest g) ∧
        (∀ r ∈ t.lm.groups, segsMeet r.segs g = true →
          r.governing = (governingOf s.bt.table r.segs).map (·.fix.ref) ∧
          r.level = levelOf (governingOf s.bt.table r.segs) ∧
          (s.UniqueRefs → ∀ it, it ∈ r.sessions ↔ ∃ e ∈ s.bt.table, isActive e = true ∧
            segsMeet (entrySegs e) r.segs = true ∧
            it = ⟨e.fix.ref, entrySegs e,
              shareOf s.comm (s.lm.groups.map (·.segs)) e r.segs⟩) ∧
          (r.sessions.map (·.segs.first)).Pairwise (· ≤ ·) ∧
          r.people = (r.sessions.map (·.share)).sum) ∧
        ∀ r ∈ s.lm.groups, segsMeet r.segs g = true →
          let e := governingOf s.bt.table r.segs
          (r.governing ≠ e.map (·.fix.ref) ∨ r.level ≠ levelOf e) →
          ∀ dst ∈ [Block.ot, .al, .lbu],
            .governingChange dst r.segs (e.map (·.fix.ref)) (levelOf e) ∈ t.reports) ∧
    (∀ ref g,
      ∃ t, exec (.headcountChange ref g) s = .next t ∧
        t = { s.take (.headcountChange ref g) with lm := { s.lm with groups := t.lm.groups } } ∧
        t.lm.groups.map kept = s.lm.groups.map kept ∧
        (∀ e, s.entry? ref = some e → ∀ r ∈ t.lm.groups, ∀ it ∈ r.sessions, it.ref = ref →
          it.share = shareOf s.comm (s.lm.groups.map (·.segs)) e r.segs) ∧
        ∀ r ∈ t.lm.groups, r.people = (r.sessions.map (·.share)).sum) ∧
    ∀ g gov level,
      (∃ t, exec (.governingChange .ot g gov level) s = .next t ∧
        t = { s.take (.governingChange .ot g gov level) with ot := t.ot, reports := t.reports } ∧
        t.ot.groups.map (fun (r : OtGroup) => (r.segs, r.level)) =
          s.ot.groups.map (fun (r : OtGroup) =>
            (r.segs, if r.segs = g then level else r.level)) ∧
        (∀ i, t.ot.segs.get i = { s.ot.segs.get i with
          covered := if segHas g i = true then s.listed i else (s.ot.segs.get i).covered }) ∧
        OccupancySettled s t) ∧
      (∃ t, exec (.governingChange .al g gov level) s = .next t ∧
        let noted := s.al.loops.map fun (l : Loop) =>
          if l.segs = g then { l with governing := gov, level := level } else l
        t.al = { s.al with
          loops := noted.map fun l => if l.segs = g then t.loopFollowing l else l } ∧
        t.reports = s.reports.erase (.governingChange .al g gov level) ++
          loopReports noted t.al.loops ∧
        t = { s.take (.governingChange .al g gov level) with
          al := t.al, reports := t.reports, os := t.os } ∧ t.os = t.drive.os ∧
        t.al.loops.map (·.segs) = s.al.loops.map (·.segs) ∧
        ∀ l ∈ t.al.loops, l.segs = g → l.governing = gov ∧ l.level = level) ∧
      (∃ t, exec (.governingChange .lbu g gov level) s = .next t ∧
        t = { s.take (.governingChange .lbu g gov level) with lbu := t.lbu, os := t.os } ∧
        (t.lbu.groups = s.lbu.groups.map fun (r : LbuGroup) =>
          if r.segs = g then ⟨g, gov, level⟩ else r) ∧
        let u : State := { s with lbu := { s.lbu with groups := t.lbu.groups } }
        u.LitOnlyIn t [g] ∧
        (s.lbu.groups.any (fun r => r.segs == g) = false → t.lbu = s.lbu) ∧
        ∀ r, s.lbu.groups.find? (fun r => r.segs == g) = some r →
          let new : LbuGroup := ⟨g, gov, level⟩
          let moved : Bool := s.ownerOf r != s.ownerOf new || s.shownOf r != s.shownOf new
          u.GroupLit t new moved false)

/-- CAME_TO_GOVERN for a PREPARING entry with its group's loop SETTLED, and SETTLED_REPORT for each PREPARING
entry that governs the group named and has its first segment there, make the entry READY: the learning update of
the configured segments' rates, the notice READY, the entry state change (R35, R37). CEASED_TO_GOVERN for a
READY entry and LOST_SETTLED_REPORT for each READY entry with its first segment in the group return it to
PREPARING, with NOT_READY and its cause and the entry state change (R36). Nothing else moves, and in any other
case nothing at all. The notice carries the minutes from the preparing start to now and whether the update was
applied; the update needs an initial error of 5 tenths and the stamp of the group as it stands, and gives each
configured segment of that group floor((3 × rate + observed + 2) / 4), within 1 to 60, observed the minutes times 10
over the initial error (R35, R37). Only the minutes since a preparing start that lies ahead are a free value [14]:
the statement holds for each. That several entries are treated in table order is the model's choice [46], and so are the set
that stands for an entry's group outside the suite [53] and that an entry governs at a settled report by LM's
record as it stands [57]. -/
def Obligations.SettledReportsMoveReadiness : Prop :=
  (∀ (s : State) (e : Entry) (begun error : Nat), e.vol.prepStart = some begun →
    begun ≤ s.tb.minutes → e.vol.initialError = some error →
    let elapsed := s.tb.minutes - begun
    let group : Segs := match s.groupOf? e.fix.first with
      | some r => r.segs
      | none => ⟨e.fix.first, 1⟩
    let learns : Bool := decide (5 ≤ error) && e.vol.stamp == some group
    s.readyNotice e = .ready e.fix.ref elapsed learns ∧
    ∀ (rates : Four Nat) (i : Seg), (s.ratesAfter rates e).get i =
      if learns = true ∧ segHas group i = true ∧ s.configured i = true
        then max 1 (min 60 ((3 * rates.get i + elapsed * 10 / error + 2) / 4))
        else rates.get i) ∧
  ∀ s : State, s.alive = true → s.OutputsFollow →
    let inState (x : EntryState) (e : Entry) : Entry := { e with vol := { e.vol with state := x } }
    let change (e : Entry) : Instr := .entryStateChange e.fix.ref (entrySegs e) false
    (∀ ref,
      (∀ e, s.entry? ref = some e → e.vol.state = .preparing →
        ((s.loop? (s.homeGroup e.fix)).any (·.settled)) = true →
        exec (.cameToGovern ref) s = .next { s.take (.cameToGovern ref) with
          bt := { s.bt with
            table := s.bt.table.map fun (y : Entry) =>
              if y.fix.ref == e.fix.ref then inState .ready y else y
            rates := s.ratesAfter s.bt.rates e }
          nq := (s.notify (s.readyNotice e)).nq
          reports := (s.reports.erase (.cameToGovern ref)) ++ [change e] }) ∧
      ((∀ e, s.entry? ref = some e → e.vol.state = .preparing →
          ((s.loop? (s.homeGroup e.fix)).any (·.settled)) = false) →
        exec (.cameToGovern ref) s = .next (s.take (.cameToGovern ref))) ∧
      (∀ e, s.entry? ref = some e → e.vol.state = .ready →
        exec (.ceasedToGovern ref) s = .next { s.take (.ceasedToGovern ref) with
          bt := { s.bt with table := s.bt.table.map fun (y : Entry) =>
            if y.fix.ref == e.fix.ref then inState .preparing y else y }
          nq := (s.notify (.notReady ref .notGoverning)).nq
          reports := (s.reports.erase (.ceasedToGovern ref)) ++ [change e] }) ∧
      ((∀ e, s.entry? ref = some e → e.vol.state ≠ .ready) →
        exec (.ceasedToGovern ref) s = .next (s.take (.ceasedToGovern ref)))) ∧
    (s.UniqueRefs → ∀ g,
      let gains (e : Entry) : Bool := e.vol.state == .preparing && segHas g e.fix.first
        && s.lm.groups.any (fun r => r.segs == g && r.governing == some e.fix.ref)
      let loses (e : Entry) : Bool := e.vol.state == .ready && segHas g e.fix.first
      exec (.settledReport g) s = .next { s.take (.settledReport g) with
        bt := { s.bt with
          table := s.bt.table.map fun (e : Entry) => if gains e then inState .ready e else e
          rates := (s.bt.table.filter gains).foldl s.ratesAfter s.bt.rates }
        nq := (s.notifyAll ((s.bt.table.filter gains).map s.readyNotice)).nq
        reports := s.reports.erase (.settledReport g) ++ (s.bt.table.filter gains).map change } ∧
      exec (.lostSettledReport g) s = .next { s.take (.lostSettledReport g) with
        bt := { s.bt with
          table := s.bt.table.map fun (e : Entry) => if loses e then inState .preparing e else e }
        nq := (s.notifyAll ((s.bt.table.filter loses).map fun (e : Entry) =>
          .notReady e.fix.ref .unsettled)).nq
        reports := s.reports.erase (.lostSettledReport g) ++ (s.bt.table.filter loses).map change })

/-- REGROUP_REPORT and EXIT_REPORT at each receiver: a record for every formed group with LM's standing, none
for a group that has gone, and the kept records as they stand; after an exit exactly the groups named. A loop
formed in RUN begins in ACQUIRE toward its active setpoint, else PARKED, is evaluated, and AL hands on one demand
update, behind the losses of SETTLED of the discarded records and after the exit report's clamp of every live setpoint;
the model chooses for a setpoint that cannot be read [12], [49], the time before the exit report [52], a standing
not reported yet [13], [50], [39], the people figure of a set LM has no record of [28] and a formed set of which a
record still stands [62]. A record AD forms is
provisional, one that stands is kept, after an exit only where the update of AL's exit evaluation came first, told
by its figures [40]; AD recomputes, and grant, source and timer stand. SI's two maps are formed anew with the
groups named; at OT the segments of the formed groups covered exactly while an in-session item covers them, by
the lists as they stand, the model's choice [38], and a walk-in record inherited or fresh where the group is
occupied below SESSION; at LBU the rows and blinds of the formed groups resolved, after an exit with the
standing that the model gives a group OT has not reported [39] (R77, R88, R96, R98, R104, R106, R112, R129,
R133, R143, R165, R168). The order of SI's reports [47] and that a segment no formed group holds is looked up in
LM's record is the model's reading [43]. Targets are formed as the model reads R150 and R157 in a passing state
[12], [41] and at a vacant SESSION [54]. -/
def Obligations.RegroupAndExitReportsRebuildRecords : Prop :=
  ∀ (s : State) (gone : List Segs) (formed : List GroupRec), s.alive = true → s.OutputsFollow →
    (∀ r ∈ formed, r.segs ∉ gone) →
    let sets := formed.map (·.segs)
    let c (b : Block) := Instr.regroupReport b gone formed
    let x (b : Block) := Instr.exitReport b formed
    let low (g : Segs) : Nat := ((segList g).map fun i => (s.segRec i).airMin).sum
    let high (g : Segs) : Nat := ((segList g).map fun i => (s.segRec i).airMax).sum
    let begun (t : State) (r : GroupRec) : Loop :=
      let parked : Loop := {
        segs := r.segs, governing := r.governing, level := r.level, people := r.people
        mode := .parked, settled := false, reference := none
        windowMinutes := 0, windowWorst := 0, good := 0, temp := none, noTemp := true
        qd := low r.segs, qmin := low r.segs, qvent := 0, reheat := 0 }
      let setpoint := t.setpointFor parked
      t.evaluate (if s.inRun = true ∧ t.al.awaitsExit = false ∧ setpoint.isSome = true
        then { parked with mode := .acquire, reference := setpoint } else parked)
    let within (e : Entry) (n : Nat) : Nat :=
      let stored := e.fix.setpoint.getD (comfortOf s.comm e.fix.kind)
      max (max 160 (stored - s.suite.adjustRange)) (min (min 280 (stored + s.suite.adjustRange)) n)
    let update (t : State) : Instr :=
      .demandUpdate (t.al.loops.map fun l => ⟨l.segs, l.qd, l.qmin, l.qvent⟩)
    let had (g : Segs) : Option AdGroup := s.ad.groups.find? fun y => y.segs == g
    let figures (y : AdGroup) := (y.segs, y.qd, y.qmin, y.qvent, y.qmax)
    let provisional (g : Segs) := (g, low g, low g, 0, high g)
    let divided (t : State) (was : Segs → Option AdGroup) : Prop :=
      let qd := (t.ad.groups.map (·.qd)).sum
      let qmin := (t.ad.groups.map (·.qmin)).sum
      t.ad = { s.ad with groups := t.ad.groups, total := t.ad.total, targets := t.ad.targets } ∧
      (s.inRun = true → t.ad.total = max qmin (qd * s.ad.grant / 1000) ∧
        t.ad.groups.map (·.alloc) = allocations t.ad.total t.ad.groups ∧ t.TargetsFollow ∧
        (∀ y ∈ t.ad.groups, y.short = decide (y.alloc < y.qvent)) ∧
        t.nq = (s.notifyAll (t.ad.groups.flatMap fun y =>
          airNotices s.ad.grant ((was y.segs).any (·.short)) y)).nq) ∧
      (s.inRun = false → t.ad.total = qmin ∧
        (∀ y ∈ t.ad.groups, y.alloc = y.qmin ∧ y.short = (was y.segs).any (·.short)) ∧
        (∀ i, t.ad.targets.get i = if s.configured i then (s.segRec i).airMin else 0) ∧
        t.nq = s.nq)
    let mapped (t : State) (a : Instr) : Prop := t.Mapped sets ∧
      t.reports = s.reports.erase a ++ sourceReports s t ∧
      t = { s.take a with
        si := { s.si with
          presenceSource := t.si.presenceSource, daylightSource := t.si.daylightSource }
        reports := t.reports }
    let covers (t : State) : Prop := ∀ i, t.ot.segs.get i = { s.ot.segs.get i with
      covered := if sets.any (fun g => segHas g i) = true then s.listed i
        else (s.ot.segs.get i).covered }
    let fresh : WalkIn := ⟨0, none, s.suite.walkInSetpoint⟩
    let keeps (t : State) (y : OtGroup) (record : WalkIn) : Prop :=
      y.occupied = t.groupOccupied y.segs ∧
      y.walkIn = (if y.occupied = true ∧ y.level ≠ .session then some record else none) ∧
      ∀ b ∈ [Block.al, .lbu], .occupancyReport b y.segs y.occupied y.walkIn ∈ t.reports
    let lit (t : State) : Prop :=
      let u : State := { s with lbu := { s.lbu with groups := t.lbu.groups, occ := t.lbu.occ } }
      u.LitOnlyIn t sets ∧ ∀ r ∈ formed, u.GroupLit t ⟨r.segs, r.governing, r.level⟩ true false
    (∃ t, exec (c .si) s = .next t ∧ mapped t (c .si)) ∧
    (∃ t, exec (c .ot) s = .next t ∧
      t = { s.take (c .ot) with ot := t.ot, reports := t.reports } ∧
      (∀ r ∈ formed, ∃ y ∈ t.ot.groups, y.segs = r.segs ∧ y.level = r.level ∧ keeps t y
        (((s.ot.groups.filter fun x => segsMeet x.segs r.segs).findSome? (·.walkIn)).getD fresh)) ∧
      covers t ∧
      (∀ y ∈ s.ot.groups, y.segs ∉ gone → y.segs ∉ sets → y ∈ t.ot.groups) ∧
      ∀ y ∈ t.ot.groups, y.segs ∉ gone) ∧
    (∃ t, exec (c .al) s = .next t ∧
      t = { s.take (c .al) with al := t.al, reports := t.reports, os := t.os } ∧
      t.os = t.drive.os ∧
      t.al.loops.Perm ((s.al.loops.filter fun y =>
        !gone.contains y.segs && !sets.contains y.segs) ++ formed.map (begun t)) ∧
      t.al = { s.al with loops := t.al.loops, occ := t.al.occ } ∧
      (∀ g ∈ sets, standingOf t.al.occ g = some ((standingOf s.al.occ g).getD
        (let from_ := s.al.occ.filter fun o => gone.contains o.segs && segsMeet o.segs g
        ⟨g, from_.any (·.occupied), from_.any (·.walkIn), true⟩))) ∧
      (∀ g, g ∉ gone → g ∉ sets → standingOf t.al.occ g = standingOf s.al.occ g) ∧
      t.reports = s.reports.erase (c .al) ++
        ((s.al.loops.filter fun y =>
          (gone.contains y.segs || sets.contains y.segs) && y.settled).map fun y =>
          .lostSettledReport y.segs) ++ [update t]) ∧
    (∃ t, exec (c .lbu) s = .next t ∧
      t = { s.take (c .lbu) with lbu := t.lbu, os := t.os } ∧
      (∀ r ∈ formed, ⟨r.segs, r.governing, r.level⟩ ∈ t.lbu.groups) ∧
      (∀ y ∈ s.lbu.groups, y.segs ∉ gone → y.segs ∉ sets → y ∈ t.lbu.groups) ∧
      (∀ y ∈ t.lbu.groups, y.segs ∉ gone) ∧ lit t) ∧
    (∃ t, exec (c .ad) s = .next t ∧
      t = { s.take (c .ad) with ad := t.ad, nq := t.nq, os := t.os } ∧ t.os = t.drive.os ∧
      (t.ad.groups.map figures).Perm
        (((s.ad.groups.filter fun y => !gone.contains y.segs).map figures) ++
          ((sets.filter fun g => !(s.ad.groups.map (·.segs)).contains g).map provisional)) ∧
      ((s.ad.groups.map (·.segs)).Nodup → divided t had)) ∧
    (∃ t, exec (x .si) s = .next t ∧ mapped t (x .si)) ∧
    (∃ t, exec (x .ot) s = .next t ∧
      t = { s.take (x .ot) with ot := t.ot, reports := t.reports } ∧
      t.ot.groups.map (fun (y : OtGroup) => (y.segs, y.level)) =
      formed.map (fun r => (r.segs, r.level)) ∧ covers t ∧ ∀ y ∈ t.ot.groups, keeps t y fresh) ∧
    (∃ t, exec (x .al) s = .next t ∧
      t = { s.take (x .al) with
        bt := { s.bt with table := s.bt.table.map fun e =>
          { e with vol := { e.vol with liveSetpoint := e.vol.liveSetpoint.map (within e) } } }
        al := { s.al with
          loops := t.al.loops
          occ := sets.map fun g => (standingOf s.al.occ g).getD ⟨g, false, false, true⟩
          exitFigs := some (t.al.loops.map fun l => ⟨l.segs, l.qd, l.qmin, l.qvent⟩)
          awaitsExit := false }
        reports := s.reports.erase (x .al) ++ [update t]
        os := t.os } ∧
      t.al.loops = formed.map (begun t) ∧ t.os = t.drive.os) ∧
    (∃ t, exec (x .lbu) s = .next t ∧
      t = { s.take (x .lbu) with lbu := t.lbu, os := t.os } ∧
      t.lbu.groups = formed.map (fun r => ⟨r.segs, r.governing, r.level⟩) ∧
      t.lbu.occ = formed.map (fun r =>
        (standingOf s.lbu.occ r.segs).getD ⟨r.segs, false, false, true⟩) ∧ lit t) ∧
    ∃ t, exec (x .ad) s = .next t ∧
      t = { s.take (x .ad) with ad := t.ad, nq := t.nq, os := t.os } ∧ t.os = t.drive.os ∧
      let kept (g : Segs) : Option AdGroup := if s.ad.exitUpdate = true then had g else none
      t.ad.groups.map figures = sets.map (fun g => ((kept g).map figures).getD (provisional g)) ∧
      divided t kept

/-! ### Sensors and occupancy -/

/-- SENSOR_POLL is sent on a free line with 250 ms to answer and waits on a busy one (R89);
ANSWER_WINDOW_EXPIRY frees the line and sets the run of every sensor out of OK to 0 (R92);
STALE_TIMER_EXPIRY makes an OK sensor STALE and announces a spell not yet announced (R93, R94), and at a
presence or daylight sensor the map is formed anew and each changed source reported (R96), in ascending segment,
the model's choice [47]. That the expiry of a timer that does not run does nothing is the model's choice [4]. -/
def Obligations.SensorTimersFollowTheirTables : Prop :=
  ∀ (s : State) (i : Seg), s.alive = true → s.OutputsFollow →
    let poll := s.si.polls.get i
    let timer := if poll.waiting then poll.timer else some 200
    (s.configured i = false → exec (.sensorPoll i) s = .next (s.take (.sensorPoll i))) ∧
    (s.configured i = true → exec (.sensorPoll i) s = .next { s.take (.sensorPoll i) with
      si := if s.si.outstanding.isNone
        then { s.si with polls := s.si.polls.set i ⟨timer, false⟩, outstanding := some (i, 5) }
        else { s.si with polls := s.si.polls.set i ⟨timer, true⟩ } }) ∧
    (s.awaits i = false →
      exec (.answerWindowExpiry i) s = .next (s.take (.answerWindowExpiry i))) ∧
    (s.awaits i = true →
      ∃ t, exec (.answerWindowExpiry i) s = .next t ∧ t.si.outstanding = none ∧
        (∀ k, t.sensor i k = if (s.sensor i k).health = .ok then s.sensor i k
          else { s.sensor i k with run := 0 }) ∧
        (∀ j, j ≠ i → t.si.sensors.get j = s.si.sensors.get j) ∧
        t = { s.take (.answerWindowExpiry i) with
          si := { s.si with sensors := t.si.sensors, outstanding := none } }) ∧
    ∀ k, let r := s.sensor i k
      (r.stale = none → exec (.staleTimerExpiry i k) s = .next (s.take (.staleTimerExpiry i k))) ∧
      (r.stale.isSome = true →
        ∃ t, exec (.staleTimerExpiry i k) s = .next t ∧
          t.sensor i k = (match r.health with
            | .ok => { r with health := .stale, run := 0, stale := none, reported := true }
            | .stale => { r with stale := none, reported := true }
            | .fault => { r with stale := none }) ∧
          t.nq = (if r.health = .ok ∨ (r.health = .stale ∧ r.reported = false)
            then (s.notify (.sensorFault i k .stale .timeout)).nq else s.nq) ∧
          (∀ j m, j ≠ i ∨ m ≠ k → t.sensor j m = s.sensor j m) ∧
          (if r.health = .ok ∧ (k = .presence ∨ k = .daylight) then t.Mapped []
            else t.si.presenceSource = s.si.presenceSource ∧
              t.si.daylightSource = s.si.daylightSource) ∧
          t.reports = s.reports.erase (.staleTimerExpiry i k) ++ sourceReports s t ∧
          t.si.polls = s.si.polls ∧ t.si.outstanding = s.si.outstanding ∧
          t = { s.take (.staleTimerExpiry i k) with si := t.si, nq := t.nq, reports := t.reports })

/-- SENSOR_ANSWER to the poll awaited: each sample is judged, a presence or daylight sample by its mark alone
(R90), and each sensor moves by the table of R92, a third good sample making it OK; a sensor that leaves OK, or
one in a spell not yet announced, queues SENSOR_FAULT with the cause, one that is OK again SENSOR_RECOVERED
(R94); a change of health of a presence or daylight sensor forms the map anew and reports each changed source
(R96); the line is free; a presence yes and a daylight value of an OK sensor are handed on to every segment
whose source it is (R95). Another answer is not received: the model's reading [27]; so are the cause MARK of a
sample both marked and out of its range [58] and the order of the kinds and of the segments [47]. -/
def Obligations.SensorAnswerSettlesHealth : Prop :=
  ∀ (s : State) (i : Seg) (a : Answer), s.alive = true → s.OutputsFollow →
    (s.awaits i = false → exec (.sensorAnswer i a) s = .next (s.take (.sensorAnswer i a))) ∧
    let judged (k : SensorKind) : Judgement := match k with
      | .presence => if a.presenceMark then .faulty .mark else .valid none
      | .temperature => if a.temperatureMark then .faulty .mark
        else if a.temperature < -100 ∨ 600 < a.temperature then .faulty .range
        else .valid (some a.temperature)
      | .co2 => if a.co2Mark then .faulty .mark
        else if a.co2 < 250 ∨ 5000 < a.co2 then .faulty .range else .valid (some a.co2)
      | .daylight => if a.daylightMark then .faulty .mark else .valid (some a.daylight)
    let changed (t : State) (k : SensorKind) : Prop :=
      (t.sensor i k).health ≠ (s.sensor i k).health
    let notices (k : SensorKind) : List Notice :=
      let r := s.sensor i k
      match judged k with
      | .valid _ => if r.health ≠ .ok ∧ 2 ≤ r.run ∧ r.reported = true then [.sensorRecovered i k] else []
      | .faulty cause => if r.health = .ok ∨ (r.health = .stale ∧ r.reported = false)
        then [.sensorFault i k .fault cause] else []
    (s.awaits i = true →
      ∃ t sources, exec (.sensorAnswer i a) s = .next t ∧ t.si.outstanding = none ∧
        (∀ k, let r := s.sensor i k
          t.sensor i k =
            match judged k with
            | .valid v =>
              if r.health = .ok then { r with last := v, stale := some 2400 }
              else if 2 ≤ r.run then
                { r with last := v, stale := some 2400, health := .ok, run := 0, reported := false }
              else { r with last := v, stale := some 2400, run := r.run + 1 }
            | .faulty _ =>
              if r.health = .fault then { r with run := 0 }
              else { r with health := .fault, run := 0, reported := true }) ∧
        (∀ j, j ≠ i → t.si.sensors.get j = s.si.sensors.get j) ∧
        t.nq = (s.notifyAll ([.presence, .temperature, .co2, .daylight].flatMap notices)).nq ∧
        (changed t .presence ∨ changed t .daylight → t.Mapped []) ∧
        (¬ changed t .presence → ¬ changed t .daylight → sources = [] ∧
          t.si.presenceSource = s.si.presenceSource ∧ t.si.daylightSource = s.si.daylightSource) ∧
        (¬ (changed t .presence ∧ changed t .daylight) → sources = sourceReports s t) ∧
        (∀ r ∈ sourceReports s t, r ∈ sources) ∧
        (∀ r ∈ sources, ∃ j source, s.configured j = true ∧
          (r = .presenceSourceReport j source ∨ r = .daylightSourceReport j source)) ∧
        t.reports = s.reports.erase (.sensorAnswer i a) ++ sources ++
          (if a.presence = true ∧ a.presenceMark = false ∧ t.sensorOk i .presence = true
            then (allSegs.filter fun j => s.configured j && t.si.presenceSource.get j == some i).map
              .presenceEvent else []) ++
          (if a.daylightMark = false ∧ t.sensorOk i .daylight = true
            then (allSegs.filter fun j => s.configured j && t.si.daylightSource.get j == some i).map
              fun j => .daylightValue j a.daylight else []) ∧
        t = { s.take (.sensorAnswer i a) with
          si := { s.si with
            sensors := t.si.sensors
            outstanding := none
            presenceSource := t.si.presenceSource
            daylightSource := t.si.daylightSource }
          nq := t.nq
          reports := t.reports })

/-- A segment is OCCUPIED while its timer runs, or while it is assumed and covered (R98). PRESENCE_EVENT
restarts the segment's vacancy timer, its length the in-session delay of the covering entry's kind, else the
delay outside sessions, and sets presence observed on the sessions that cover it (R99, R31, R40); that a covered
segment whose entry has just left takes the latter is the model's [19]. VACANCY_TIMER_EXPIRY stops it and
reports (R100); PRESENCE_SOURCE_REPORT moves assumed and starts a restored timer on a segment occupied by
assumption alone (R101); after each a group has a walk-in record exactly while it is occupied below SESSION, and
a change is reported to AL and LBU (R102, R103). VACANCY_REPORT ends the OVERRUN entries on the segment of which
no segment is observed occupied: each leaves the table with SESSION_ENDED of cause SCHEDULE, its entry state
change and the report of its end, and the removal is written (R45, R46, R12). That a stopped timer's expiry does
nothing is the model's choice [4], and so are the table order of several ending entries [46], the groups they
governed, those LM's records name [35], and the order in which reports wait [1]. -/
def Obligations.OccupancyFollowsPresenceAndTimers : Prop :=
  ∀ (s : State) (i : Seg), s.alive = true → s.OutputsFollow →
    let o := s.ot.segs.get i
    let derived (t : State) : Prop :=
      t.ot.groups.map (fun (r : OtGroup) => (r.segs, r.level)) =
        s.ot.groups.map (fun (r : OtGroup) => (r.segs, r.level)) ∧ OccupancySettled s t
    let inSession (k : Kind) : Nat := match k with
      | .lecture => (s.comm.profiles.get 0).vacancyDelay
      | .caseStudy => (s.comm.profiles.get 1).vacancyDelay
      | .exam => (s.comm.profiles.get 2).vacancyDelay
      | .event => (s.comm.profiles.get 3).vacancyDelay
      | .adhoc => s.suite.vacancyDelay
    let covering := s.bt.table.find? fun e => isActive e && segHas (entrySegs e) i
    let length : Nat :=
      if o.covered = true then (covering.map fun e => inSession e.fix.kind).getD s.suite.vacancyDelay
      else s.suite.vacancyDelay
    s.segOccupied i = (o.vacancy.isSome || (o.assumed && o.covered)) ∧
    (s.configured i = true →
      ∃ t, exec (.presenceEvent i) s = .next t ∧
        t.ot.segs = s.ot.segs.set i { o with
          vacancy := some ⟨length, 1200 * length⟩, restored := false } ∧
        t.bt = { s.bt with table := s.bt.table.map fun e =>
          { e with vol := if e.vol.state == .inSession && segHas (entrySegs e) i
            then { e.vol with presence := some true } else e.vol } } ∧
        derived t ∧
        t = { s.take (.presenceEvent i) with ot := t.ot, bt := t.bt, reports := t.reports }) ∧
    (s.configured i = false → exec (.presenceEvent i) s = .next (s.take (.presenceEvent i))) ∧
    (o.vacancy.isSome = true →
      ∃ t, exec (.vacancyTimerExpiry i) s = .next t ∧
        t.ot.segs = s.ot.segs.set i { o with vacancy := none, restored := false } ∧
        .vacancyReport i ∈ t.reports ∧ derived t ∧
        t = { s.take (.vacancyTimerExpiry i) with ot := t.ot, reports := t.reports }) ∧
    (o.vacancy = none →
      exec (.vacancyTimerExpiry i) s = .next (s.take (.vacancyTimerExpiry i))) ∧
    (∀ source : Option Seg,
      ∃ t, exec (.presenceSourceReport i source) s = .next t ∧
        t.ot.segs = s.ot.segs.set i
          (if source.isNone then { o with assumed := true }
          else if o.assumed = true ∧ o.covered = true ∧ o.vacancy = none then
            { o with
              assumed := false
              vacancy := some ⟨length, 1200 * length⟩
              restored := true }
          else { o with assumed := false }) ∧
        derived t ∧
        t = { s.take (.presenceSourceReport i source) with ot := t.ot, reports := t.reports }) ∧
    (s.UniqueRefs →
      let ends (e : Entry) : Bool := e.vol.state == .overrun && segHas (entrySegs e) i
        && !(segList (entrySegs e)).any fun j =>
          (s.ot.segs.get j).vacancy.isSome && !(s.ot.segs.get j).restored
      let ending := s.bt.table.filter ends
      let stays := s.bt.table.filter fun e => !ends e
      exec (.vacancyReport i) s = .next { s.take (.vacancyReport i) with
        bt := { s.bt with
          table := stays
          stored := if ending.isEmpty then s.bt.stored else stays.map (·.fix) }
        nq := (s.notifyAll (ending.map fun e =>
          .sessionEnded (endedFields e s.tb.minutes .schedule))).nq
        reports := s.reports.erase (.vacancyReport i) ++ ending.flatMap fun e =>
          [.entryStateChange e.fix.ref (entrySegs e) false,
            .sessionEndOverrides e.fix.ref (s.governedBy e.fix.ref)] })

/-- OCCUPANCY_REPORT: AL notes it, and in RUN a loop of the set at NONE is PARKED without a walk-in record and
not PARKED with one (R109, R110), each loop of the set follows R110 and R111 and hands on what follows, behind
the reports that wait, the model's choice [1], while before LM's exit report it is held for the rebuild and
moves no loop (R129); the figure of a record that has gone since cannot be read, the model's choice [12]; LBU
notes it, and in RUN forms the rows and resolves the blinds of the group (R150, R152, R157), where the group has
become vacant its rows to 0 and its overrides removed (R159), while a report for a set it does not hold is only
noted, the model's choice [50]; another block does not receive it. In SERVICE the report is noted and neither moves a
loop nor forms a target: every loop and row stands, and every blind but for the overrides that a vacancy removes
(R128, R167, R159). Targets are formed as the model reads R150 and R157 in a passing state [12], [41] and at a vacant
SESSION [54]. -/
def Obligations.OccupancyReportMovesLoopAndLights : Prop :=
  ∀ (s : State) (g : Segs) (occ : Bool) (w : Option WalkIn), s.alive = true → s.OutputsFollow →
    let c (b : Block) := Instr.occupancyReport b g occ w
    (∃ t, exec (c .al) s = .next t ∧
      standingOf t.al.occ g = some ⟨g, occ, w.isSome, false⟩ ∧
      (s.inRun = true → s.al.awaitsExit = false →
        ∀ l ∈ t.al.loops, l.segs = g → l.level = .none → w = none → l.mode = .parked) ∧
      (s.inRun = true → s.al.awaitsExit = false →
        ∀ l ∈ t.al.loops, l.segs = g → l.level = .none → w.isSome = true →
          (s.walkIn? g).isSome = true → l.mode ≠ .parked) ∧
      (s.inRun = false ∨ s.al.awaitsExit = true →
        t.al.loops = s.al.loops ∧ t.reports = s.reports.erase (c .al)) ∧
      t.al.loops.map (·.segs) = s.al.loops.map (·.segs) ∧
      t.al = { s.al with
        occ := t.al.occ
        loops := s.al.loops.map fun l => if l.segs = g then t.loopFollowing l else l } ∧
      (∀ h, h ≠ g → standingOf t.al.occ h = standingOf s.al.occ h) ∧
      t.reports = s.reports.erase (c .al) ++ loopReports s.al.loops t.al.loops ∧
      t = { s.take (c .al) with al := t.al, reports := t.reports, os := t.os } ∧
      t.os = t.drive.os) ∧
    (∃ t, exec (c .lbu) s = .next t ∧
      standingOf t.lbu.occ g = some ⟨g, occ, w.isSome, false⟩ ∧ t.lbu.groups = s.lbu.groups ∧
      (let u : State := { s with lbu := { s.lbu with occ := t.lbu.occ } }
      let vacated : Bool := (standingOf s.lbu.occ g).any fun before =>
        !before.inherited && before.occupied && !occ
      let holds : Bool := s.lbu.groups.any fun r => r.segs == g
      u.LitOnlyIn t [g] ∧ (holds = false → t.lbu.segs = s.lbu.segs) ∧
      (∀ r, s.lbu.groups.find? (fun r => r.segs == g) = some r → u.GroupLit t r true vacated) ∧
      (s.inRun = false → ∀ j,
        let blind := if vacated = true ∧ holds = true ∧ j ∈ segList g
          then { s.blind j with override := none } else s.blind j
        t.lbu.segs.get j = { s.lbu.segs.get j with blind := blind })) ∧
      (∀ h, h ≠ g → standingOf t.lbu.occ h = standingOf s.lbu.occ h) ∧
      (∀ before, s.inRun = true → standingOf s.lbu.occ g = some before → before.inherited = false →
        before.occupied = true → occ = false →
        s.lbu.groups.any (fun r => r.segs == g) = true →
        ∀ j ∈ segList g, s.configured j = true →
          (t.lbu.segs.get j).window.target = 0 ∧ (t.lbu.segs.get j).inner.target = 0 ∧
          (t.blind j).override = none) ∧
      t = { s.take (c .lbu) with lbu := t.lbu, os := t.os } ∧ t.os = t.drive.os) ∧
    ∀ b ∈ [Block.si, .ot, .ad], exec (c b) s = .next (s.take (c b))

/-! ### Lights and blinds -/

/-- SCENE_CHANGE forms the rows of the groups that the entry owns and leaves no override in those that it
governs, their blinds resolved (R20, R148, R157, R159), by LBU's standing [17], and SESSION_END_OVERRIDES none
in the groups named, their blinds resolved (R159). DAYLIGHT_VALUE becomes the reading, is judged for glare, and
moves the window target alone, over 20 seconds, or 10 where the group is vacant or has no applied scene, and
only by 20 permille or more; a source gone takes reading and glare away and moves the window target whatever its
size; a new source brings its last value (R150 to R155), unless its sensor has left OK since, when nothing is
read [42]. Where the owner's scene cannot be read just now the window row stays as it is [12]. A running glare
timer that expires turns glare on or off (R154), and a change of glare by a timer or a source resolves the blind
(R155, R157). Targets are formed as the model reads R150 and R157 in a passing state [12], [41] and at a vacant
SESSION [54]. -/
def Obligations.SceneDaylightAndGlareArrivals : Prop :=
  ∀ s : State, s.alive = true →
    let only (c : Instr) (t : State) : Prop :=
      t = { s.take c with lbu := { s.lbu with segs := t.lbu.segs }, os := t.os } ∧
        t.os = t.drive.os
    let others (i : Seg) (t : State) : Prop := ∀ j, j ≠ i → t.lbu.segs.get j = s.lbu.segs.get j
    let window (i : Seg) (reading : Option Nat) (judged : Bool) : LampRow :=
      let row := (s.lbu.segs.get i).window
      let moves (target fade : Nat) : LampRow :=
        if judged = true ∧ target < row.target + 20 ∧ row.target < target + 20 then row
        else applyRow target fade row
      match s.inRun, s.lbuGroupOf? i with
      | true, some g =>
        match (if s.lbuOccupied g.segs then s.shownOf g else .nothing) with
        | .scene n => moves (windowTarget s.suite (s.comm.scene n) reading) 20
        | .nothing => moves 0 10
        | .unread => row
      | _, _ => row
    let judgedGlare (old : Glare) (lux : Nat) : Glare :=
      if old.active then { old with offTimer :=
        if lux < s.suite.glareOff then some (old.offTimer.getD 18000) else none }
      else { old with onTimer :=
        if s.suite.glareOn < lux then some (old.onTimer.getD 6000) else none }
    (∀ ref, ∃ t, exec (.sceneChange ref) s = .next t ∧ only (.sceneChange ref) t ∧
      s.LitOnlyIn t ((s.lbu.groups.filter fun r => r.governing == some ref).map (·.segs)) ∧
      ∀ r ∈ s.lbu.groups, r.governing = some ref → s.GroupLit t r (r.level == .session) true ∧
        ∀ j ∈ segList r.segs, (t.blind j).override = none) ∧
    (∀ ref groups, ∃ t, exec (.sessionEndOverrides ref groups) s = .next t ∧
      only (.sessionEndOverrides ref groups) t ∧
      s.LitOnlyIn t groups ∧ ∀ g ∈ groups, ∀ j ∈ segList g, (t.blind j).override = none ∧
        t.lbu.segs.get j = { s.lbu.segs.get j with blind := s.blindResolved j true }) ∧
    (∀ i lux, s.configured i = true →
      ∃ t, exec (.daylightValue i lux) s = .next t ∧ only (.daylightValue i lux) t ∧
        t.lbu.segs.get i = { s.lbu.segs.get i with
          daylight := some lux
          glare := judgedGlare (s.lbu.segs.get i).glare lux
          window := window i (some lux) true } ∧ others i t) ∧
    (∀ i, s.configured i = true →
      ∃ t, exec (.daylightSourceReport i none) s = .next t ∧ only (.daylightSourceReport i none) t ∧
        t.lbu.segs.get i = { s.lbu.segs.get i with
          daylight := none
          glare := ⟨false, none, none⟩
          window := window i none false
          blind := (s.mapGlare i fun _ => ⟨false, none, none⟩).blindResolved i false } ∧ others i t) ∧
    (∀ i j, s.configured i = true →
      let c := Instr.daylightSourceReport i (some j)
      (∀ lux, s.sensorOk j .daylight = true → (s.sensor j .daylight).last = some lux →
        ∃ t, exec c s = .next t ∧ only c t ∧ others i t ∧
          t.lbu.segs.get i = { s.lbu.segs.get i with
            daylight := some lux.toNat
            glare := judgedGlare (s.lbu.segs.get i).glare lux.toNat
            window := window i (some lux.toNat) true
            blind := s.blindResolved i false }) ∧
      (s.sensorOk j .daylight = false ∨ (s.sensor j .daylight).last = none →
        exec c s = .next (s.take c).drive)) ∧
    (∀ i, (s.lbu.segs.get i).glare.onTimer.isSome = true →
      ∃ t, exec (.glareOnExpiry i) s = .next t ∧ only (.glareOnExpiry i) t ∧
        t.lbu.segs.get i = { s.lbu.segs.get i with
          glare := ⟨true, none, none⟩
          blind := (s.mapGlare i fun _ => ⟨true, none, none⟩).blindResolved i false } ∧ others i t) ∧
    ∀ i, (s.lbu.segs.get i).glare.offTimer.isSome = true →
      ∃ t, exec (.glareOffExpiry i) s = .next t ∧ only (.glareOffExpiry i) t ∧
        t.lbu.segs.get i = { s.lbu.segs.get i with
          glare := ⟨false, none, none⟩
          blind := (s.mapGlare i fun _ => ⟨false, none, none⟩).blindResolved i false } ∧ others i t

/-- The scene owner and applied scene of a group (R145), the row targets they give (R150), the fade of the scene
or of 10 seconds into the dark (R152); what a new target does to a row, the level after k tenths of a fade, and
its end at the target (R153); FADE_STEP takes one tenth of one row and touches nothing else of LBU. An owner whose
scene has left while the report of it waits has nothing to read and leaves the rows as they are [12]. -/
def Obligations.FadesReachTheirTargetOnTime : Prop :=
  (∀ (s : State) (g : LbuGroup),
    (∀ ref, g.level = .session → g.governing = some ref → s.shownOf g =
      (match (s.entry? ref).bind (·.vol.currentScene) with
      | some n => .scene n
      | none => .unread)) ∧
    (g.level = .session → g.governing = none → s.shownOf g = .nothing) ∧
    (g.level ≠ .session → s.shownOf g =
      if s.lbuWalkIn g.segs = true
        then (match s.walkIn? g.segs with
          | some w => .scene w.scene
          | none => .unread)
        else .nothing) ∧
    ∀ i, s.inRun = true → s.configured i = true →
      let l := s.lbu.segs.get i
      let made := (s.formRows g i).lbu.segs.get i
      let shown := if s.lbuOccupied g.segs = true then s.shownOf g else .nothing
      (∀ n, shown = .scene n →
        let r := s.comm.scene n
        let target := match r.harvesting, l.daylight with
          | true, some lux =>
            max (r.window - lux * s.suite.harvestGain / 256) (min r.window s.suite.minimumLevel)
          | _, _ => r.window
        made = { l with
          window := applyRow target r.fade l.window, inner := applyRow r.inner r.fade l.inner }) ∧
      (shown = .nothing →
        made = { l with window := applyRow 0 10 l.window, inner := applyRow 0 10 l.inner }) ∧
      (shown = .unread → made = l) ∧
      ∀ j, j ≠ i → (s.formRows g i).lbu.segs.get j = s.lbu.segs.get j) ∧
  (∀ (T F : Nat) (r : LampRow), T ≠ r.target →
    applyRow T F r =
      (if T = r.level then ⟨r.level, T, none⟩
      else if F = 0 then ⟨T, T, none⟩
      else ⟨r.level, T, some ⟨r.level, F, 0⟩⟩)) ∧
  (∀ (r : LampRow) (F k : Nat), r.fade = some ⟨r.level, F, 0⟩ → 1 ≤ F → k ≤ 10 * F →
    let after := stepRow^[k] r
    after.level = (if r.target ≤ r.level then r.level - (r.level - r.target) * k / (10 * F)
      else r.level + (r.target - r.level) * k / (10 * F)) ∧
    after.target = r.target ∧ (after.fade = none ↔ k = 10 * F) ∧
    (k = 10 * F → after.level = r.target)) ∧
  ∀ (s : State) (i : Seg), s.alive = true →
    (∃ t, exec (.fadeStep i .window) s = .next t ∧
      t.lbu = { s.lbu with segs := s.lbu.segs.set i { s.lbu.segs.get i with
        window := stepRow (s.lbu.segs.get i).window } } ∧
      t = { s.take (.fadeStep i .window) with lbu := t.lbu, os := t.os } ∧ t.os = t.drive.os) ∧
    ∃ t, exec (.fadeStep i .inner) s = .next t ∧
      t.lbu = { s.lbu with segs := s.lbu.segs.set i { s.lbu.segs.get i with
        inner := stepRow (s.lbu.segs.get i).inner } } ∧
      t = { s.take (.fadeStep i .inner) with lbu := t.lbu, os := t.os } ∧ t.os = t.drive.os

/-- The blind's own events (R160 to R164): a step of a run, the end of the dead time, the charge and the refill
of the budget, the way out of HELD, and the end of the drive-up, which hands the recorded target on in RUN and
leaves the blind at the top in SERVICE; no other segment moves. Which states take a charge or a refill beyond
the spec's is the model's choice [29], and so is that a drive-up over a SERVICE exit counts by the T_full now in
effect [51]. A target resolved afresh follows the four cases of R157, raised for glare in the second and third,
and meets the blind by the table of R160. The base that LEAVE keeps while a group, occupied or awaiting OT's
report, has no owner is the model's reading [41], and that a group gone vacant at SESSION keeps its scene's
blind target, where R157 and the third row of R166 disagree, is too [54]; a scene that cannot be read just now
leaves the blind as it is [12]. -/
def Obligations.BlindMotionAndBudgetFollowTheirRules : Prop :=
  (∀ (s : State) (i : Seg), s.alive = true →
    let b := s.blind i
    let full := (s.segRec i).fullTravel
    let becomes (c : Instr) (x : Blind) : Prop :=
      ∃ t, exec c s = .next t ∧
        t.lbu = { s.lbu with segs := s.lbu.segs.set i { s.lbu.segs.get i with blind := x } } ∧
        t = { s.take c with lbu := t.lbu, os := t.os } ∧ t.os = t.drive.os
    let run (target : Nat) : Blind := { b with
      target := target
      motion := if target < b.position then .movingUp else .movingDown
      lastDir := if target < b.position then .up else .down
      rest := 0, runStart := b.position, runSteps := 0, reversing := none }
    let far := 100 * (b.runSteps + 1) / full
    let place := if b.target ≤ b.runStart then max b.target (b.runStart - far)
      else min b.target (b.runStart + far)
    (b.driveUp = none → isMoving b = true → becomes (.blindStep i) { b with
      runSteps := b.runSteps + 1
      position := place
      uncharged := b.uncharged + 1
      motion := if place = b.target then .stopped else b.motion }) ∧
    (b.driveUp.isSome = true → becomes (.blindStep i) { b with
      runSteps := b.runSteps + 1, position := b.runStart - far }) ∧
    (b.motion = .reversing → becomes (.reversingEnd i)
      (if b.target = b.position then { b with motion := .stopped, reversing := none }
      else if 1 ≤ b.budget then run b.target
      else { b with motion := .held, reversing := none })) ∧
    (b.driveUp = none → isMoving b = true → becomes (.budgetCharge i) { b with
      budget := b.budget - 1
      uncharged := b.uncharged - 10
      motion := if b.budget ≤ 1 then .held else b.motion }) ∧
    (s.configured i = true → b.driveUp = none → isMoving b = false → b.motion ≠ .held →
      becomes (.budgetRefill i)
        { b with budget := min (3 * full) (b.budget + 1), rest := b.rest - 40 }) ∧
    (s.configured i = true → b.driveUp = none → b.motion = .held →
      let budget := min (3 * full) (b.budget + 1)
      becomes (.budgetRefill i)
        (if budget < full / 2 then { b with budget := budget, rest := b.rest - 40 }
        else if b.target = b.position then
          { b with budget := budget, rest := b.rest - 40, motion := .stopped }
        else if (b.target < b.position ↔ b.lastDir = .up) then
          { run b.target with budget := budget }
        else { b with
          budget := budget, rest := b.rest - 40, motion := .reversing
          reversing := some 20 })) ∧
    (b.driveUp.isSome = true → 1 ≤ full →
      let top : Blind := { b with
        position := 0, budget := 3 * full, uncharged := 0, rest := 0, lastDir := .up
        motion := .stopped, runStart := 0, runSteps := 0, driveUp := none }
      (s.inRun = false → becomes (.driveUpEnd i) { top with target := 0 }) ∧
      (s.inRun = true → b.target = 0 → becomes (.driveUpEnd i) { top with reversing := none }) ∧
      (s.inRun = true → 0 < b.target → becomes (.driveUpEnd i)
        { top with motion := .movingDown, lastDir := .down, reversing := none }))) ∧
  (∀ (s : State) (i : Seg) (g : LbuGroup), s.inRun = true → s.configured i = true →
    s.lbuGroupOf? i = some g →
    let b := s.blind i
    let left := b.keptBase.getD b.base
    let passing := match standingOf s.lbu.occ g.segs with
      | some o => if o.occupied = true ∨ o.inherited = true then some left else none
      | none => none
    let raised (base : Nat) : Nat :=
      if (s.lbu.segs.get i).glare.active = true then max base (s.segRec i).glarePosition else base
    let vacant := (s.segRec i).vacantPosition
    let shows (n : Nat) : Nat := ((s.comm.scene n).blind).getD left
    let prepared : Option Nat := if g.level = .prepare then
      g.governing.bind fun ref => (s.entry? ref).bind (·.vol.currentScene) else none
    let becomes (base target : Nat) (kept : Option Nat) : Prop :=
      (s.resolveBlind i).blind i = (
        let b1 : Blind := { b with base := base, keptBase := kept }
        if target = b.target then b1 else handTarget b1 target)
    (∀ o, b.override = some o → becomes o o none) ∧
    (∀ n, b.override = none → s.shownOf g = .scene n → becomes (shows n) (raised (shows n)) none) ∧
    (b.override = none → s.shownOf g = .unread → (s.resolveBlind i).blind i = b) ∧
    (∀ n, b.override = none → s.shownOf g = .nothing → prepared = some n →
      becomes (shows n) (raised (shows n)) passing) ∧
    (b.override = none → s.shownOf g = .nothing → (g.level ≠ .prepare ∨ g.governing = none) →
      becomes vacant vacant passing)) ∧
  ∀ (b : Blind) (x : Nat),
    let aimed : Blind := { b with target := x }
    let run : Blind := { b with
      target := x
      motion := if x < b.position then .movingUp else .movingDown
      lastDir := if x < b.position then .up else .down
      rest := 0, runStart := b.position, runSteps := 0, reversing := none }
    let ahead := (b.motion = .movingUp ∧ x < b.position) ∨ (b.motion = .movingDown ∧ b.position < x)
    (b.driveUp.isSome = true → handTarget b x = aimed) ∧
    (b.driveUp = none → b.motion = .stopped → handTarget b x =
      if x = b.position then { aimed with reversing := none }
      else if 1 ≤ b.budget then run
      else { aimed with motion := .held, reversing := none }) ∧
    (b.driveUp = none → isMoving b = true → handTarget b x =
      if x = b.position then { aimed with motion := .stopped }
      else if ahead then { aimed with runStart := b.position, runSteps := 0 }
      else { aimed with motion := .reversing, reversing := some 20 }) ∧
    (b.driveUp = none → b.motion = .reversing → handTarget b x = aimed) ∧
    (b.driveUp = none → b.motion = .held → handTarget b x =
      if x = b.position then { aimed with motion := .stopped } else aimed)

/-! ### Invariants that every step keeps -/

/-- Whatever a step does, the table stays in order under unique references with at most 128 entries (R1), no
two entries overlap (R11), the non-volatile image holds their fixed fields (R12), references and the ad-hoc
counter stay in their ranges (R6), and the staging area keeps the like with at most 64 (R56, R58). -/
def Obligations.TableSoundAfterEveryStep : Prop :=
  ∀ s t : State, s.TableSound → step s = .next t → t.TableSound

/-- Whatever a step does, the outputs stay those of AL, AD and LBU while the part runs and 0 while it does
not (R121, R139, R149, R156, R193), the notice queue keeps at most 32 notices with its counter in range
(R175), the records in effect and pending stay within the ranges of their fields (R188, R189), and the
grant stays within 0 to 1000 (R131, R134). The segment sets of LM's groups stay those that the accepted partition
states and the segment count form (R75 to R77). The outputs of AL, AD and LBU are, for each configured segment, the
terminal at AD's target, the reheat of the loop whose group holds the segment, the levels of its two rows, and the
motor up or down as its blind moves and else stopped; a segment that is not configured has everything at 0. -/
def Obligations.OutputsNoticesAndRecordsFitAfterEveryStep : Prop :=
  (∀ s : State, s.drive = { s with os := s.drive.os } ∧
    ∀ i : Seg,
      let l := s.lbu.segs.get i
      (s.configured i = false → s.drive.os.get i = ⟨0, 0, 0, 0, .stop⟩) ∧
      (s.configured i = true → s.drive.os.get i = {
        airflow := s.ad.targets.get i
        reheat := match s.al.loops.find? fun x =>
            x.segs.first ≤ i.val && i.val < x.segs.first + x.segs.span with
          | some x => x.reheat
          | none => 0
        window := l.window.level
        inner := l.inner.level
        blind := match l.blind.motion with
          | .movingUp => .up
          | .movingDown => .down
          | .stopped | .reversing | .held => .stop })) ∧
  ∀ s t : State, step s = .next t →
    (s.OutputsFollow → t.OutputsFollow) ∧ (s.NoticesFit → t.NoticesFit) ∧
    (s.RecordsFit → t.RecordsFit) ∧ (s.GroupsFormed → t.GroupsFormed)
end

