-- ==== Sys2Proof/Laws/State.lean ====
section
/-! SUPPORT. What each update of the state leaves as it was: one lemma for each field and update. -/

namespace Sys2Proof.Machine

variable (s : State)

/-! ### setTable -/

@[simp] theorem State.setTable_tb (t : List Entry) : (s.setTable t).tb = s.tb := rfl
@[simp] theorem State.setTable_load (t : List Entry) : (s.setTable t).load = s.load := rfl
@[simp] theorem State.setTable_lm (t : List Entry) : (s.setTable t).lm = s.lm := rfl
@[simp] theorem State.setTable_si (t : List Entry) : (s.setTable t).si = s.si := rfl
@[simp] theorem State.setTable_ot (t : List Entry) : (s.setTable t).ot = s.ot := rfl
@[simp] theorem State.setTable_al (t : List Entry) : (s.setTable t).al = s.al := rfl
@[simp] theorem State.setTable_ad (t : List Entry) : (s.setTable t).ad = s.ad := rfl
@[simp] theorem State.setTable_lbu (t : List Entry) : (s.setTable t).lbu = s.lbu := rfl
@[simp] theorem State.setTable_os (t : List Entry) : (s.setTable t).os = s.os := rfl
@[simp] theorem State.setTable_nq (t : List Entry) : (s.setTable t).nq = s.nq := rfl
@[simp] theorem State.setTable_cs (t : List Entry) : (s.setTable t).cs = s.cs := rfl
@[simp] theorem State.setTable_wp (t : List Entry) : (s.setTable t).wp = s.wp := rfl
@[simp] theorem State.setTable_rl (t : List Entry) : (s.setTable t).rl = s.rl := rfl
@[simp] theorem State.setTable_pins (t : List Entry) : (s.setTable t).pins = s.pins := rfl
@[simp] theorem State.setTable_tenth (t : List Entry) : (s.setTable t).tenth = s.tenth := rfl
@[simp] theorem State.setTable_reports (t : List Entry) : (s.setTable t).reports = s.reports := rfl
@[simp] theorem State.setTable_pending (t : List Entry) : (s.setTable t).pending = s.pending := rfl

/-! ### addEntry -/

@[simp] theorem State.addEntry_tb (e : Entry) : (s.addEntry e).tb = s.tb := rfl
@[simp] theorem State.addEntry_load (e : Entry) : (s.addEntry e).load = s.load := rfl
@[simp] theorem State.addEntry_lm (e : Entry) : (s.addEntry e).lm = s.lm := rfl
@[simp] theorem State.addEntry_si (e : Entry) : (s.addEntry e).si = s.si := rfl
@[simp] theorem State.addEntry_ot (e : Entry) : (s.addEntry e).ot = s.ot := rfl
@[simp] theorem State.addEntry_al (e : Entry) : (s.addEntry e).al = s.al := rfl
@[simp] theorem State.addEntry_ad (e : Entry) : (s.addEntry e).ad = s.ad := rfl
@[simp] theorem State.addEntry_lbu (e : Entry) : (s.addEntry e).lbu = s.lbu := rfl
@[simp] theorem State.addEntry_os (e : Entry) : (s.addEntry e).os = s.os := rfl
@[simp] theorem State.addEntry_nq (e : Entry) : (s.addEntry e).nq = s.nq := rfl
@[simp] theorem State.addEntry_cs (e : Entry) : (s.addEntry e).cs = s.cs := rfl
@[simp] theorem State.addEntry_wp (e : Entry) : (s.addEntry e).wp = s.wp := rfl
@[simp] theorem State.addEntry_rl (e : Entry) : (s.addEntry e).rl = s.rl := rfl
@[simp] theorem State.addEntry_pins (e : Entry) : (s.addEntry e).pins = s.pins := rfl
@[simp] theorem State.addEntry_tenth (e : Entry) : (s.addEntry e).tenth = s.tenth := rfl
@[simp] theorem State.addEntry_reports (e : Entry) : (s.addEntry e).reports = s.reports := rfl
@[simp] theorem State.addEntry_pending (e : Entry) : (s.addEntry e).pending = s.pending := rfl

/-! ### dropEntry -/

@[simp] theorem State.dropEntry_tb (ref : Nat) : (s.dropEntry ref).tb = s.tb := rfl
@[simp] theorem State.dropEntry_load (ref : Nat) : (s.dropEntry ref).load = s.load := rfl
@[simp] theorem State.dropEntry_lm (ref : Nat) : (s.dropEntry ref).lm = s.lm := rfl
@[simp] theorem State.dropEntry_si (ref : Nat) : (s.dropEntry ref).si = s.si := rfl
@[simp] theorem State.dropEntry_ot (ref : Nat) : (s.dropEntry ref).ot = s.ot := rfl
@[simp] theorem State.dropEntry_al (ref : Nat) : (s.dropEntry ref).al = s.al := rfl
@[simp] theorem State.dropEntry_ad (ref : Nat) : (s.dropEntry ref).ad = s.ad := rfl
@[simp] theorem State.dropEntry_lbu (ref : Nat) : (s.dropEntry ref).lbu = s.lbu := rfl
@[simp] theorem State.dropEntry_os (ref : Nat) : (s.dropEntry ref).os = s.os := rfl
@[simp] theorem State.dropEntry_nq (ref : Nat) : (s.dropEntry ref).nq = s.nq := rfl
@[simp] theorem State.dropEntry_cs (ref : Nat) : (s.dropEntry ref).cs = s.cs := rfl
@[simp] theorem State.dropEntry_wp (ref : Nat) : (s.dropEntry ref).wp = s.wp := rfl
@[simp] theorem State.dropEntry_rl (ref : Nat) : (s.dropEntry ref).rl = s.rl := rfl
@[simp] theorem State.dropEntry_pins (ref : Nat) : (s.dropEntry ref).pins = s.pins := rfl
@[simp] theorem State.dropEntry_tenth (ref : Nat) : (s.dropEntry ref).tenth = s.tenth := rfl
@[simp] theorem State.dropEntry_reports (ref : Nat) : (s.dropEntry ref).reports = s.reports := rfl
@[simp] theorem State.dropEntry_pending (ref : Nat) : (s.dropEntry ref).pending = s.pending := rfl

/-! ### replaceFixed -/

@[simp] theorem State.replaceFixed_tb (e : Entry) (f : Fixed) : (s.replaceFixed e f).tb = s.tb := rfl
@[simp] theorem State.replaceFixed_load (e : Entry) (f : Fixed) : (s.replaceFixed e f).load = s.load := rfl
@[simp] theorem State.replaceFixed_lm (e : Entry) (f : Fixed) : (s.replaceFixed e f).lm = s.lm := rfl
@[simp] theorem State.replaceFixed_si (e : Entry) (f : Fixed) : (s.replaceFixed e f).si = s.si := rfl
@[simp] theorem State.replaceFixed_ot (e : Entry) (f : Fixed) : (s.replaceFixed e f).ot = s.ot := rfl
@[simp] theorem State.replaceFixed_al (e : Entry) (f : Fixed) : (s.replaceFixed e f).al = s.al := rfl
@[simp] theorem State.replaceFixed_ad (e : Entry) (f : Fixed) : (s.replaceFixed e f).ad = s.ad := rfl
@[simp] theorem State.replaceFixed_lbu (e : Entry) (f : Fixed) : (s.replaceFixed e f).lbu = s.lbu := rfl
@[simp] theorem State.replaceFixed_os (e : Entry) (f : Fixed) : (s.replaceFixed e f).os = s.os := rfl
@[simp] theorem State.replaceFixed_nq (e : Entry) (f : Fixed) : (s.replaceFixed e f).nq = s.nq := rfl
@[simp] theorem State.replaceFixed_cs (e : Entry) (f : Fixed) : (s.replaceFixed e f).cs = s.cs := rfl
@[simp] theorem State.replaceFixed_wp (e : Entry) (f : Fixed) : (s.replaceFixed e f).wp = s.wp := rfl
@[simp] theorem State.replaceFixed_rl (e : Entry) (f : Fixed) : (s.replaceFixed e f).rl = s.rl := rfl
@[simp] theorem State.replaceFixed_pins (e : Entry) (f : Fixed) : (s.replaceFixed e f).pins = s.pins := rfl
@[simp] theorem State.replaceFixed_tenth (e : Entry) (f : Fixed) : (s.replaceFixed e f).tenth = s.tenth := rfl
@[simp] theorem State.replaceFixed_reports (e : Entry) (f : Fixed) : (s.replaceFixed e f).reports = s.reports := rfl
@[simp] theorem State.replaceFixed_pending (e : Entry) (f : Fixed) : (s.replaceFixed e f).pending = s.pending := rfl

/-! ### mapVolatile -/

@[simp] theorem State.mapVolatile_tb (ref : Nat) (f : Volatile → Volatile) : (s.mapVolatile ref f).tb = s.tb := rfl
@[simp] theorem State.mapVolatile_load (ref : Nat) (f : Volatile → Volatile) : (s.mapVolatile ref f).load = s.load := rfl
@[simp] theorem State.mapVolatile_lm (ref : Nat) (f : Volatile → Volatile) : (s.mapVolatile ref f).lm = s.lm := rfl
@[simp] theorem State.mapVolatile_si (ref : Nat) (f : Volatile → Volatile) : (s.mapVolatile ref f).si = s.si := rfl
@[simp] theorem State.mapVolatile_ot (ref : Nat) (f : Volatile → Volatile) : (s.mapVolatile ref f).ot = s.ot := rfl
@[simp] theorem State.mapVolatile_al (ref : Nat) (f : Volatile → Volatile) : (s.mapVolatile ref f).al = s.al := rfl
@[simp] theorem State.mapVolatile_ad (ref : Nat) (f : Volatile → Volatile) : (s.mapVolatile ref f).ad = s.ad := rfl
@[simp] theorem State.mapVolatile_lbu (ref : Nat) (f : Volatile → Volatile) : (s.mapVolatile ref f).lbu = s.lbu := rfl
@[simp] theorem State.mapVolatile_os (ref : Nat) (f : Volatile → Volatile) : (s.mapVolatile ref f).os = s.os := rfl
@[simp] theorem State.mapVolatile_nq (ref : Nat) (f : Volatile → Volatile) : (s.mapVolatile ref f).nq = s.nq := rfl
@[simp] theorem State.mapVolatile_cs (ref : Nat) (f : Volatile → Volatile) : (s.mapVolatile ref f).cs = s.cs := rfl
@[simp] theorem State.mapVolatile_wp (ref : Nat) (f : Volatile → Volatile) : (s.mapVolatile ref f).wp = s.wp := rfl
@[simp] theorem State.mapVolatile_rl (ref : Nat) (f : Volatile → Volatile) : (s.mapVolatile ref f).rl = s.rl := rfl
@[simp] theorem State.mapVolatile_pins (ref : Nat) (f : Volatile → Volatile) : (s.mapVolatile ref f).pins = s.pins := rfl
@[simp] theorem State.mapVolatile_tenth (ref : Nat) (f : Volatile → Volatile) : (s.mapVolatile ref f).tenth = s.tenth := rfl
@[simp] theorem State.mapVolatile_reports (ref : Nat) (f : Volatile → Volatile) : (s.mapVolatile ref f).reports = s.reports := rfl
@[simp] theorem State.mapVolatile_pending (ref : Nat) (f : Volatile → Volatile) : (s.mapVolatile ref f).pending = s.pending := rfl

/-! ### mapEveryVolatile -/

@[simp] theorem State.mapEveryVolatile_tb (f : Entry → Volatile) : (s.mapEveryVolatile f).tb = s.tb := rfl
@[simp] theorem State.mapEveryVolatile_load (f : Entry → Volatile) : (s.mapEveryVolatile f).load = s.load := rfl
@[simp] theorem State.mapEveryVolatile_lm (f : Entry → Volatile) : (s.mapEveryVolatile f).lm = s.lm := rfl
@[simp] theorem State.mapEveryVolatile_si (f : Entry → Volatile) : (s.mapEveryVolatile f).si = s.si := rfl
@[simp] theorem State.mapEveryVolatile_ot (f : Entry → Volatile) : (s.mapEveryVolatile f).ot = s.ot := rfl
@[simp] theorem State.mapEveryVolatile_al (f : Entry → Volatile) : (s.mapEveryVolatile f).al = s.al := rfl
@[simp] theorem State.mapEveryVolatile_ad (f : Entry → Volatile) : (s.mapEveryVolatile f).ad = s.ad := rfl
@[simp] theorem State.mapEveryVolatile_lbu (f : Entry → Volatile) : (s.mapEveryVolatile f).lbu = s.lbu := rfl
@[simp] theorem State.mapEveryVolatile_os (f : Entry → Volatile) : (s.mapEveryVolatile f).os = s.os := rfl
@[simp] theorem State.mapEveryVolatile_nq (f : Entry → Volatile) : (s.mapEveryVolatile f).nq = s.nq := rfl
@[simp] theorem State.mapEveryVolatile_cs (f : Entry → Volatile) : (s.mapEveryVolatile f).cs = s.cs := rfl
@[simp] theorem State.mapEveryVolatile_wp (f : Entry → Volatile) : (s.mapEveryVolatile f).wp = s.wp := rfl
@[simp] theorem State.mapEveryVolatile_rl (f : Entry → Volatile) : (s.mapEveryVolatile f).rl = s.rl := rfl
@[simp] theorem State.mapEveryVolatile_pins (f : Entry → Volatile) : (s.mapEveryVolatile f).pins = s.pins := rfl
@[simp] theorem State.mapEveryVolatile_tenth (f : Entry → Volatile) : (s.mapEveryVolatile f).tenth = s.tenth := rfl
@[simp] theorem State.mapEveryVolatile_reports (f : Entry → Volatile) : (s.mapEveryVolatile f).reports = s.reports := rfl
@[simp] theorem State.mapEveryVolatile_pending (f : Entry → Volatile) : (s.mapEveryVolatile f).pending = s.pending := rfl

/-! ### notify -/

@[simp] theorem State.notify_tb (n : Notice) : (s.notify n).tb = s.tb := rfl
@[simp] theorem State.notify_bt (n : Notice) : (s.notify n).bt = s.bt := rfl
@[simp] theorem State.notify_load (n : Notice) : (s.notify n).load = s.load := rfl
@[simp] theorem State.notify_lm (n : Notice) : (s.notify n).lm = s.lm := rfl
@[simp] theorem State.notify_si (n : Notice) : (s.notify n).si = s.si := rfl
@[simp] theorem State.notify_ot (n : Notice) : (s.notify n).ot = s.ot := rfl
@[simp] theorem State.notify_al (n : Notice) : (s.notify n).al = s.al := rfl
@[simp] theorem State.notify_ad (n : Notice) : (s.notify n).ad = s.ad := rfl
@[simp] theorem State.notify_lbu (n : Notice) : (s.notify n).lbu = s.lbu := rfl
@[simp] theorem State.notify_os (n : Notice) : (s.notify n).os = s.os := rfl
@[simp] theorem State.notify_cs (n : Notice) : (s.notify n).cs = s.cs := rfl
@[simp] theorem State.notify_wp (n : Notice) : (s.notify n).wp = s.wp := rfl
@[simp] theorem State.notify_rl (n : Notice) : (s.notify n).rl = s.rl := rfl
@[simp] theorem State.notify_pins (n : Notice) : (s.notify n).pins = s.pins := rfl
@[simp] theorem State.notify_tenth (n : Notice) : (s.notify n).tenth = s.tenth := rfl
@[simp] theorem State.notify_reports (n : Notice) : (s.notify n).reports = s.reports := rfl
@[simp] theorem State.notify_pending (n : Notice) : (s.notify n).pending = s.pending := rfl

/-! ### raise -/

@[simp] theorem State.raise_tb (c : Instr) : (s.raise c).tb = s.tb := rfl
@[simp] theorem State.raise_bt (c : Instr) : (s.raise c).bt = s.bt := rfl
@[simp] theorem State.raise_load (c : Instr) : (s.raise c).load = s.load := rfl
@[simp] theorem State.raise_lm (c : Instr) : (s.raise c).lm = s.lm := rfl
@[simp] theorem State.raise_si (c : Instr) : (s.raise c).si = s.si := rfl
@[simp] theorem State.raise_ot (c : Instr) : (s.raise c).ot = s.ot := rfl
@[simp] theorem State.raise_al (c : Instr) : (s.raise c).al = s.al := rfl
@[simp] theorem State.raise_ad (c : Instr) : (s.raise c).ad = s.ad := rfl
@[simp] theorem State.raise_lbu (c : Instr) : (s.raise c).lbu = s.lbu := rfl
@[simp] theorem State.raise_os (c : Instr) : (s.raise c).os = s.os := rfl
@[simp] theorem State.raise_nq (c : Instr) : (s.raise c).nq = s.nq := rfl
@[simp] theorem State.raise_cs (c : Instr) : (s.raise c).cs = s.cs := rfl
@[simp] theorem State.raise_wp (c : Instr) : (s.raise c).wp = s.wp := rfl
@[simp] theorem State.raise_rl (c : Instr) : (s.raise c).rl = s.rl := rfl
@[simp] theorem State.raise_pins (c : Instr) : (s.raise c).pins = s.pins := rfl
@[simp] theorem State.raise_tenth (c : Instr) : (s.raise c).tenth = s.tenth := rfl
@[simp] theorem State.raise_pending (c : Instr) : (s.raise c).pending = s.pending := rfl

/-! ### raiseAll -/

@[simp] theorem State.raiseAll_tb (cs : List Instr) : (s.raiseAll cs).tb = s.tb := rfl
@[simp] theorem State.raiseAll_bt (cs : List Instr) : (s.raiseAll cs).bt = s.bt := rfl
@[simp] theorem State.raiseAll_load (cs : List Instr) : (s.raiseAll cs).load = s.load := rfl
@[simp] theorem State.raiseAll_lm (cs : List Instr) : (s.raiseAll cs).lm = s.lm := rfl
@[simp] theorem State.raiseAll_si (cs : List Instr) : (s.raiseAll cs).si = s.si := rfl
@[simp] theorem State.raiseAll_ot (cs : List Instr) : (s.raiseAll cs).ot = s.ot := rfl
@[simp] theorem State.raiseAll_al (cs : List Instr) : (s.raiseAll cs).al = s.al := rfl
@[simp] theorem State.raiseAll_ad (cs : List Instr) : (s.raiseAll cs).ad = s.ad := rfl
@[simp] theorem State.raiseAll_lbu (cs : List Instr) : (s.raiseAll cs).lbu = s.lbu := rfl
@[simp] theorem State.raiseAll_os (cs : List Instr) : (s.raiseAll cs).os = s.os := rfl
@[simp] theorem State.raiseAll_nq (cs : List Instr) : (s.raiseAll cs).nq = s.nq := rfl
@[simp] theorem State.raiseAll_cs (cs : List Instr) : (s.raiseAll cs).cs = s.cs := rfl
@[simp] theorem State.raiseAll_wp (cs : List Instr) : (s.raiseAll cs).wp = s.wp := rfl
@[simp] theorem State.raiseAll_rl (cs : List Instr) : (s.raiseAll cs).rl = s.rl := rfl
@[simp] theorem State.raiseAll_pins (cs : List Instr) : (s.raiseAll cs).pins = s.pins := rfl
@[simp] theorem State.raiseAll_tenth (cs : List Instr) : (s.raiseAll cs).tenth = s.tenth := rfl
@[simp] theorem State.raiseAll_pending (cs : List Instr) : (s.raiseAll cs).pending = s.pending := rfl

/-! ### raiseEarly -/

@[simp] theorem State.raiseEarly_tb (cs : List Instr) : (s.raiseEarly cs).tb = s.tb := rfl
@[simp] theorem State.raiseEarly_bt (cs : List Instr) : (s.raiseEarly cs).bt = s.bt := rfl
@[simp] theorem State.raiseEarly_load (cs : List Instr) : (s.raiseEarly cs).load = s.load := rfl
@[simp] theorem State.raiseEarly_lm (cs : List Instr) : (s.raiseEarly cs).lm = s.lm := rfl
@[simp] theorem State.raiseEarly_si (cs : List Instr) : (s.raiseEarly cs).si = s.si := rfl
@[simp] theorem State.raiseEarly_ot (cs : List Instr) : (s.raiseEarly cs).ot = s.ot := rfl
@[simp] theorem State.raiseEarly_al (cs : List Instr) : (s.raiseEarly cs).al = s.al := rfl
@[simp] theorem State.raiseEarly_ad (cs : List Instr) : (s.raiseEarly cs).ad = s.ad := rfl
@[simp] theorem State.raiseEarly_lbu (cs : List Instr) : (s.raiseEarly cs).lbu = s.lbu := rfl
@[simp] theorem State.raiseEarly_os (cs : List Instr) : (s.raiseEarly cs).os = s.os := rfl
@[simp] theorem State.raiseEarly_nq (cs : List Instr) : (s.raiseEarly cs).nq = s.nq := rfl
@[simp] theorem State.raiseEarly_cs (cs : List Instr) : (s.raiseEarly cs).cs = s.cs := rfl
@[simp] theorem State.raiseEarly_wp (cs : List Instr) : (s.raiseEarly cs).wp = s.wp := rfl
@[simp] theorem State.raiseEarly_rl (cs : List Instr) : (s.raiseEarly cs).rl = s.rl := rfl
@[simp] theorem State.raiseEarly_pins (cs : List Instr) : (s.raiseEarly cs).pins = s.pins := rfl
@[simp] theorem State.raiseEarly_tenth (cs : List Instr) : (s.raiseEarly cs).tenth = s.tenth := rfl
@[simp] theorem State.raiseEarly_pending (cs : List Instr) : (s.raiseEarly cs).pending = s.pending := rfl

/-! ### take -/

@[simp] theorem State.take_tb (c : Instr) : (s.take c).tb = s.tb := rfl
@[simp] theorem State.take_bt (c : Instr) : (s.take c).bt = s.bt := rfl
@[simp] theorem State.take_load (c : Instr) : (s.take c).load = s.load := rfl
@[simp] theorem State.take_lm (c : Instr) : (s.take c).lm = s.lm := rfl
@[simp] theorem State.take_si (c : Instr) : (s.take c).si = s.si := rfl
@[simp] theorem State.take_ot (c : Instr) : (s.take c).ot = s.ot := rfl
@[simp] theorem State.take_al (c : Instr) : (s.take c).al = s.al := rfl
@[simp] theorem State.take_ad (c : Instr) : (s.take c).ad = s.ad := rfl
@[simp] theorem State.take_lbu (c : Instr) : (s.take c).lbu = s.lbu := rfl
@[simp] theorem State.take_os (c : Instr) : (s.take c).os = s.os := rfl
@[simp] theorem State.take_nq (c : Instr) : (s.take c).nq = s.nq := rfl
@[simp] theorem State.take_cs (c : Instr) : (s.take c).cs = s.cs := rfl
@[simp] theorem State.take_wp (c : Instr) : (s.take c).wp = s.wp := rfl
@[simp] theorem State.take_rl (c : Instr) : (s.take c).rl = s.rl := rfl
@[simp] theorem State.take_pins (c : Instr) : (s.take c).pins = s.pins := rfl
@[simp] theorem State.take_tenth (c : Instr) : (s.take c).tenth = s.tenth := rfl
@[simp] theorem State.take_pending (c : Instr) : (s.take c).pending = s.pending := rfl

/-! ### drive -/

@[simp] theorem State.drive_tb : (s.drive).tb = s.tb := rfl
@[simp] theorem State.drive_bt : (s.drive).bt = s.bt := rfl
@[simp] theorem State.drive_load : (s.drive).load = s.load := rfl
@[simp] theorem State.drive_lm : (s.drive).lm = s.lm := rfl
@[simp] theorem State.drive_si : (s.drive).si = s.si := rfl
@[simp] theorem State.drive_ot : (s.drive).ot = s.ot := rfl
@[simp] theorem State.drive_al : (s.drive).al = s.al := rfl
@[simp] theorem State.drive_ad : (s.drive).ad = s.ad := rfl
@[simp] theorem State.drive_lbu : (s.drive).lbu = s.lbu := rfl
@[simp] theorem State.drive_nq : (s.drive).nq = s.nq := rfl
@[simp] theorem State.drive_cs : (s.drive).cs = s.cs := rfl
@[simp] theorem State.drive_wp : (s.drive).wp = s.wp := rfl
@[simp] theorem State.drive_rl : (s.drive).rl = s.rl := rfl
@[simp] theorem State.drive_pins : (s.drive).pins = s.pins := rfl
@[simp] theorem State.drive_tenth : (s.drive).tenth = s.tenth := rfl
@[simp] theorem State.drive_reports : (s.drive).reports = s.reports := rfl
@[simp] theorem State.drive_pending : (s.drive).pending = s.pending := rfl

/-! ### learn -/

@[simp] theorem State.learn_tb (e : Entry) : (s.learn e).tb = s.tb := rfl
@[simp] theorem State.learn_load (e : Entry) : (s.learn e).load = s.load := rfl
@[simp] theorem State.learn_lm (e : Entry) : (s.learn e).lm = s.lm := rfl
@[simp] theorem State.learn_si (e : Entry) : (s.learn e).si = s.si := rfl
@[simp] theorem State.learn_ot (e : Entry) : (s.learn e).ot = s.ot := rfl
@[simp] theorem State.learn_al (e : Entry) : (s.learn e).al = s.al := rfl
@[simp] theorem State.learn_ad (e : Entry) : (s.learn e).ad = s.ad := rfl
@[simp] theorem State.learn_lbu (e : Entry) : (s.learn e).lbu = s.lbu := rfl
@[simp] theorem State.learn_os (e : Entry) : (s.learn e).os = s.os := rfl
@[simp] theorem State.learn_nq (e : Entry) : (s.learn e).nq = s.nq := rfl
@[simp] theorem State.learn_cs (e : Entry) : (s.learn e).cs = s.cs := rfl
@[simp] theorem State.learn_wp (e : Entry) : (s.learn e).wp = s.wp := rfl
@[simp] theorem State.learn_rl (e : Entry) : (s.learn e).rl = s.rl := rfl
@[simp] theorem State.learn_pins (e : Entry) : (s.learn e).pins = s.pins := rfl
@[simp] theorem State.learn_tenth (e : Entry) : (s.learn e).tenth = s.tenth := rfl
@[simp] theorem State.learn_reports (e : Entry) : (s.learn e).reports = s.reports := rfl
@[simp] theorem State.learn_pending (e : Entry) : (s.learn e).pending = s.pending := rfl

/-! ### setOcc -/

@[simp] theorem State.setOcc_tb (i : Seg) (o : Occ) : (s.setOcc i o).tb = s.tb := rfl
@[simp] theorem State.setOcc_bt (i : Seg) (o : Occ) : (s.setOcc i o).bt = s.bt := rfl
@[simp] theorem State.setOcc_load (i : Seg) (o : Occ) : (s.setOcc i o).load = s.load := rfl
@[simp] theorem State.setOcc_lm (i : Seg) (o : Occ) : (s.setOcc i o).lm = s.lm := rfl
@[simp] theorem State.setOcc_si (i : Seg) (o : Occ) : (s.setOcc i o).si = s.si := rfl
@[simp] theorem State.setOcc_al (i : Seg) (o : Occ) : (s.setOcc i o).al = s.al := rfl
@[simp] theorem State.setOcc_ad (i : Seg) (o : Occ) : (s.setOcc i o).ad = s.ad := rfl
@[simp] theorem State.setOcc_lbu (i : Seg) (o : Occ) : (s.setOcc i o).lbu = s.lbu := rfl
@[simp] theorem State.setOcc_os (i : Seg) (o : Occ) : (s.setOcc i o).os = s.os := rfl
@[simp] theorem State.setOcc_nq (i : Seg) (o : Occ) : (s.setOcc i o).nq = s.nq := rfl
@[simp] theorem State.setOcc_cs (i : Seg) (o : Occ) : (s.setOcc i o).cs = s.cs := rfl
@[simp] theorem State.setOcc_wp (i : Seg) (o : Occ) : (s.setOcc i o).wp = s.wp := rfl
@[simp] theorem State.setOcc_rl (i : Seg) (o : Occ) : (s.setOcc i o).rl = s.rl := rfl
@[simp] theorem State.setOcc_pins (i : Seg) (o : Occ) : (s.setOcc i o).pins = s.pins := rfl
@[simp] theorem State.setOcc_tenth (i : Seg) (o : Occ) : (s.setOcc i o).tenth = s.tenth := rfl
@[simp] theorem State.setOcc_reports (i : Seg) (o : Occ) : (s.setOcc i o).reports = s.reports := rfl
@[simp] theorem State.setOcc_pending (i : Seg) (o : Occ) : (s.setOcc i o).pending = s.pending := rfl

/-! ### mapWalkIn -/

@[simp] theorem State.mapWalkIn_tb (g : Segs) (f : WalkIn → WalkIn) : (s.mapWalkIn g f).tb = s.tb := rfl
@[simp] theorem State.mapWalkIn_bt (g : Segs) (f : WalkIn → WalkIn) : (s.mapWalkIn g f).bt = s.bt := rfl
@[simp] theorem State.mapWalkIn_load (g : Segs) (f : WalkIn → WalkIn) : (s.mapWalkIn g f).load = s.load := rfl
@[simp] theorem State.mapWalkIn_lm (g : Segs) (f : WalkIn → WalkIn) : (s.mapWalkIn g f).lm = s.lm := rfl
@[simp] theorem State.mapWalkIn_si (g : Segs) (f : WalkIn → WalkIn) : (s.mapWalkIn g f).si = s.si := rfl
@[simp] theorem State.mapWalkIn_al (g : Segs) (f : WalkIn → WalkIn) : (s.mapWalkIn g f).al = s.al := rfl
@[simp] theorem State.mapWalkIn_ad (g : Segs) (f : WalkIn → WalkIn) : (s.mapWalkIn g f).ad = s.ad := rfl
@[simp] theorem State.mapWalkIn_lbu (g : Segs) (f : WalkIn → WalkIn) : (s.mapWalkIn g f).lbu = s.lbu := rfl
@[simp] theorem State.mapWalkIn_os (g : Segs) (f : WalkIn → WalkIn) : (s.mapWalkIn g f).os = s.os := rfl
@[simp] theorem State.mapWalkIn_nq (g : Segs) (f : WalkIn → WalkIn) : (s.mapWalkIn g f).nq = s.nq := rfl
@[simp] theorem State.mapWalkIn_cs (g : Segs) (f : WalkIn → WalkIn) : (s.mapWalkIn g f).cs = s.cs := rfl
@[simp] theorem State.mapWalkIn_wp (g : Segs) (f : WalkIn → WalkIn) : (s.mapWalkIn g f).wp = s.wp := rfl
@[simp] theorem State.mapWalkIn_rl (g : Segs) (f : WalkIn → WalkIn) : (s.mapWalkIn g f).rl = s.rl := rfl
@[simp] theorem State.mapWalkIn_pins (g : Segs) (f : WalkIn → WalkIn) : (s.mapWalkIn g f).pins = s.pins := rfl
@[simp] theorem State.mapWalkIn_tenth (g : Segs) (f : WalkIn → WalkIn) : (s.mapWalkIn g f).tenth = s.tenth := rfl
@[simp] theorem State.mapWalkIn_reports (g : Segs) (f : WalkIn → WalkIn) : (s.mapWalkIn g f).reports = s.reports := rfl
@[simp] theorem State.mapWalkIn_pending (g : Segs) (f : WalkIn → WalkIn) : (s.mapWalkIn g f).pending = s.pending := rfl

/-! ### otCover -/

@[simp] theorem State.otCover_tb (g : Segs) : (s.otCover g).tb = s.tb := rfl
@[simp] theorem State.otCover_bt (g : Segs) : (s.otCover g).bt = s.bt := rfl
@[simp] theorem State.otCover_load (g : Segs) : (s.otCover g).load = s.load := rfl
@[simp] theorem State.otCover_lm (g : Segs) : (s.otCover g).lm = s.lm := rfl
@[simp] theorem State.otCover_si (g : Segs) : (s.otCover g).si = s.si := rfl
@[simp] theorem State.otCover_al (g : Segs) : (s.otCover g).al = s.al := rfl
@[simp] theorem State.otCover_ad (g : Segs) : (s.otCover g).ad = s.ad := rfl
@[simp] theorem State.otCover_lbu (g : Segs) : (s.otCover g).lbu = s.lbu := rfl
@[simp] theorem State.otCover_os (g : Segs) : (s.otCover g).os = s.os := rfl
@[simp] theorem State.otCover_nq (g : Segs) : (s.otCover g).nq = s.nq := rfl
@[simp] theorem State.otCover_cs (g : Segs) : (s.otCover g).cs = s.cs := rfl
@[simp] theorem State.otCover_wp (g : Segs) : (s.otCover g).wp = s.wp := rfl
@[simp] theorem State.otCover_rl (g : Segs) : (s.otCover g).rl = s.rl := rfl
@[simp] theorem State.otCover_pins (g : Segs) : (s.otCover g).pins = s.pins := rfl
@[simp] theorem State.otCover_tenth (g : Segs) : (s.otCover g).tenth = s.tenth := rfl
@[simp] theorem State.otCover_reports (g : Segs) : (s.otCover g).reports = s.reports := rfl
@[simp] theorem State.otCover_pending (g : Segs) : (s.otCover g).pending = s.pending := rfl

/-! ### setPart -/

@[simp] theorem State.setPart_tb (p : Part) (r : Partition) : (s.setPart p r).tb = s.tb := rfl
@[simp] theorem State.setPart_bt (p : Part) (r : Partition) : (s.setPart p r).bt = s.bt := rfl
@[simp] theorem State.setPart_load (p : Part) (r : Partition) : (s.setPart p r).load = s.load := rfl
@[simp] theorem State.setPart_si (p : Part) (r : Partition) : (s.setPart p r).si = s.si := rfl
@[simp] theorem State.setPart_ot (p : Part) (r : Partition) : (s.setPart p r).ot = s.ot := rfl
@[simp] theorem State.setPart_al (p : Part) (r : Partition) : (s.setPart p r).al = s.al := rfl
@[simp] theorem State.setPart_ad (p : Part) (r : Partition) : (s.setPart p r).ad = s.ad := rfl
@[simp] theorem State.setPart_lbu (p : Part) (r : Partition) : (s.setPart p r).lbu = s.lbu := rfl
@[simp] theorem State.setPart_os (p : Part) (r : Partition) : (s.setPart p r).os = s.os := rfl
@[simp] theorem State.setPart_nq (p : Part) (r : Partition) : (s.setPart p r).nq = s.nq := rfl
@[simp] theorem State.setPart_cs (p : Part) (r : Partition) : (s.setPart p r).cs = s.cs := rfl
@[simp] theorem State.setPart_wp (p : Part) (r : Partition) : (s.setPart p r).wp = s.wp := rfl
@[simp] theorem State.setPart_rl (p : Part) (r : Partition) : (s.setPart p r).rl = s.rl := rfl
@[simp] theorem State.setPart_pins (p : Part) (r : Partition) : (s.setPart p r).pins = s.pins := rfl
@[simp] theorem State.setPart_tenth (p : Part) (r : Partition) : (s.setPart p r).tenth = s.tenth := rfl
@[simp] theorem State.setPart_reports (p : Part) (r : Partition) : (s.setPart p r).reports = s.reports := rfl
@[simp] theorem State.setPart_pending (p : Part) (r : Partition) : (s.setPart p r).pending = s.pending := rfl

/-! ### setContacts -/

@[simp] theorem State.setContacts_tb (p : Part) (a b : Bool) : (s.setContacts p a b).tb = s.tb := rfl
@[simp] theorem State.setContacts_bt (p : Part) (a b : Bool) : (s.setContacts p a b).bt = s.bt := rfl
@[simp] theorem State.setContacts_load (p : Part) (a b : Bool) : (s.setContacts p a b).load = s.load := rfl
@[simp] theorem State.setContacts_si (p : Part) (a b : Bool) : (s.setContacts p a b).si = s.si := rfl
@[simp] theorem State.setContacts_ot (p : Part) (a b : Bool) : (s.setContacts p a b).ot = s.ot := rfl
@[simp] theorem State.setContacts_al (p : Part) (a b : Bool) : (s.setContacts p a b).al = s.al := rfl
@[simp] theorem State.setContacts_ad (p : Part) (a b : Bool) : (s.setContacts p a b).ad = s.ad := rfl
@[simp] theorem State.setContacts_lbu (p : Part) (a b : Bool) : (s.setContacts p a b).lbu = s.lbu := rfl
@[simp] theorem State.setContacts_os (p : Part) (a b : Bool) : (s.setContacts p a b).os = s.os := rfl
@[simp] theorem State.setContacts_nq (p : Part) (a b : Bool) : (s.setContacts p a b).nq = s.nq := rfl
@[simp] theorem State.setContacts_cs (p : Part) (a b : Bool) : (s.setContacts p a b).cs = s.cs := rfl
@[simp] theorem State.setContacts_wp (p : Part) (a b : Bool) : (s.setContacts p a b).wp = s.wp := rfl
@[simp] theorem State.setContacts_rl (p : Part) (a b : Bool) : (s.setContacts p a b).rl = s.rl := rfl
@[simp] theorem State.setContacts_pins (p : Part) (a b : Bool) : (s.setContacts p a b).pins = s.pins := rfl
@[simp] theorem State.setContacts_tenth (p : Part) (a b : Bool) : (s.setContacts p a b).tenth = s.tenth := rfl
@[simp] theorem State.setContacts_reports (p : Part) (a b : Bool) : (s.setContacts p a b).reports = s.reports := rfl
@[simp] theorem State.setContacts_pending (p : Part) (a b : Bool) : (s.setContacts p a b).pending = s.pending := rfl

/-! ### setGroups -/

@[simp] theorem State.setGroups_tb (gs : List GroupRec) : (s.setGroups gs).tb = s.tb := rfl
@[simp] theorem State.setGroups_bt (gs : List GroupRec) : (s.setGroups gs).bt = s.bt := rfl
@[simp] theorem State.setGroups_load (gs : List GroupRec) : (s.setGroups gs).load = s.load := rfl
@[simp] theorem State.setGroups_si (gs : List GroupRec) : (s.setGroups gs).si = s.si := rfl
@[simp] theorem State.setGroups_ot (gs : List GroupRec) : (s.setGroups gs).ot = s.ot := rfl
@[simp] theorem State.setGroups_al (gs : List GroupRec) : (s.setGroups gs).al = s.al := rfl
@[simp] theorem State.setGroups_ad (gs : List GroupRec) : (s.setGroups gs).ad = s.ad := rfl
@[simp] theorem State.setGroups_lbu (gs : List GroupRec) : (s.setGroups gs).lbu = s.lbu := rfl
@[simp] theorem State.setGroups_os (gs : List GroupRec) : (s.setGroups gs).os = s.os := rfl
@[simp] theorem State.setGroups_nq (gs : List GroupRec) : (s.setGroups gs).nq = s.nq := rfl
@[simp] theorem State.setGroups_cs (gs : List GroupRec) : (s.setGroups gs).cs = s.cs := rfl
@[simp] theorem State.setGroups_wp (gs : List GroupRec) : (s.setGroups gs).wp = s.wp := rfl
@[simp] theorem State.setGroups_rl (gs : List GroupRec) : (s.setGroups gs).rl = s.rl := rfl
@[simp] theorem State.setGroups_pins (gs : List GroupRec) : (s.setGroups gs).pins = s.pins := rfl
@[simp] theorem State.setGroups_tenth (gs : List GroupRec) : (s.setGroups gs).tenth = s.tenth := rfl
@[simp] theorem State.setGroups_reports (gs : List GroupRec) : (s.setGroups gs).reports = s.reports := rfl
@[simp] theorem State.setGroups_pending (gs : List GroupRec) : (s.setGroups gs).pending = s.pending := rfl

/-! ### lmHeadcount -/

@[simp] theorem State.lmHeadcount_tb (ref : Nat) : (s.lmHeadcount ref).tb = s.tb := rfl
@[simp] theorem State.lmHeadcount_bt (ref : Nat) : (s.lmHeadcount ref).bt = s.bt := rfl
@[simp] theorem State.lmHeadcount_load (ref : Nat) : (s.lmHeadcount ref).load = s.load := rfl
@[simp] theorem State.lmHeadcount_si (ref : Nat) : (s.lmHeadcount ref).si = s.si := rfl
@[simp] theorem State.lmHeadcount_ot (ref : Nat) : (s.lmHeadcount ref).ot = s.ot := rfl
@[simp] theorem State.lmHeadcount_al (ref : Nat) : (s.lmHeadcount ref).al = s.al := rfl
@[simp] theorem State.lmHeadcount_ad (ref : Nat) : (s.lmHeadcount ref).ad = s.ad := rfl
@[simp] theorem State.lmHeadcount_lbu (ref : Nat) : (s.lmHeadcount ref).lbu = s.lbu := rfl
@[simp] theorem State.lmHeadcount_os (ref : Nat) : (s.lmHeadcount ref).os = s.os := rfl
@[simp] theorem State.lmHeadcount_nq (ref : Nat) : (s.lmHeadcount ref).nq = s.nq := rfl
@[simp] theorem State.lmHeadcount_cs (ref : Nat) : (s.lmHeadcount ref).cs = s.cs := rfl
@[simp] theorem State.lmHeadcount_wp (ref : Nat) : (s.lmHeadcount ref).wp = s.wp := rfl
@[simp] theorem State.lmHeadcount_rl (ref : Nat) : (s.lmHeadcount ref).rl = s.rl := rfl
@[simp] theorem State.lmHeadcount_pins (ref : Nat) : (s.lmHeadcount ref).pins = s.pins := rfl
@[simp] theorem State.lmHeadcount_tenth (ref : Nat) : (s.lmHeadcount ref).tenth = s.tenth := rfl
@[simp] theorem State.lmHeadcount_reports (ref : Nat) : (s.lmHeadcount ref).reports = s.reports := rfl
@[simp] theorem State.lmHeadcount_pending (ref : Nat) : (s.lmHeadcount ref).pending = s.pending := rfl

/-! ### setSensor -/

@[simp] theorem State.setSensor_tb (i : Seg) (k : SensorKind) (r : Sensor) : (s.setSensor i k r).tb = s.tb := rfl
@[simp] theorem State.setSensor_bt (i : Seg) (k : SensorKind) (r : Sensor) : (s.setSensor i k r).bt = s.bt := rfl
@[simp] theorem State.setSensor_load (i : Seg) (k : SensorKind) (r : Sensor) : (s.setSensor i k r).load = s.load := rfl
@[simp] theorem State.setSensor_lm (i : Seg) (k : SensorKind) (r : Sensor) : (s.setSensor i k r).lm = s.lm := rfl
@[simp] theorem State.setSensor_ot (i : Seg) (k : SensorKind) (r : Sensor) : (s.setSensor i k r).ot = s.ot := rfl
@[simp] theorem State.setSensor_al (i : Seg) (k : SensorKind) (r : Sensor) : (s.setSensor i k r).al = s.al := rfl
@[simp] theorem State.setSensor_ad (i : Seg) (k : SensorKind) (r : Sensor) : (s.setSensor i k r).ad = s.ad := rfl
@[simp] theorem State.setSensor_lbu (i : Seg) (k : SensorKind) (r : Sensor) : (s.setSensor i k r).lbu = s.lbu := rfl
@[simp] theorem State.setSensor_os (i : Seg) (k : SensorKind) (r : Sensor) : (s.setSensor i k r).os = s.os := rfl
@[simp] theorem State.setSensor_nq (i : Seg) (k : SensorKind) (r : Sensor) : (s.setSensor i k r).nq = s.nq := rfl
@[simp] theorem State.setSensor_cs (i : Seg) (k : SensorKind) (r : Sensor) : (s.setSensor i k r).cs = s.cs := rfl
@[simp] theorem State.setSensor_wp (i : Seg) (k : SensorKind) (r : Sensor) : (s.setSensor i k r).wp = s.wp := rfl
@[simp] theorem State.setSensor_rl (i : Seg) (k : SensorKind) (r : Sensor) : (s.setSensor i k r).rl = s.rl := rfl
@[simp] theorem State.setSensor_pins (i : Seg) (k : SensorKind) (r : Sensor) : (s.setSensor i k r).pins = s.pins := rfl
@[simp] theorem State.setSensor_tenth (i : Seg) (k : SensorKind) (r : Sensor) : (s.setSensor i k r).tenth = s.tenth := rfl
@[simp] theorem State.setSensor_reports (i : Seg) (k : SensorKind) (r : Sensor) : (s.setSensor i k r).reports = s.reports := rfl
@[simp] theorem State.setSensor_pending (i : Seg) (k : SensorKind) (r : Sensor) : (s.setSensor i k r).pending = s.pending := rfl

/-! ### setPoll -/

@[simp] theorem State.setPoll_tb (i : Seg) (p : Poll) : (s.setPoll i p).tb = s.tb := rfl
@[simp] theorem State.setPoll_bt (i : Seg) (p : Poll) : (s.setPoll i p).bt = s.bt := rfl
@[simp] theorem State.setPoll_load (i : Seg) (p : Poll) : (s.setPoll i p).load = s.load := rfl
@[simp] theorem State.setPoll_lm (i : Seg) (p : Poll) : (s.setPoll i p).lm = s.lm := rfl
@[simp] theorem State.setPoll_ot (i : Seg) (p : Poll) : (s.setPoll i p).ot = s.ot := rfl
@[simp] theorem State.setPoll_al (i : Seg) (p : Poll) : (s.setPoll i p).al = s.al := rfl
@[simp] theorem State.setPoll_ad (i : Seg) (p : Poll) : (s.setPoll i p).ad = s.ad := rfl
@[simp] theorem State.setPoll_lbu (i : Seg) (p : Poll) : (s.setPoll i p).lbu = s.lbu := rfl
@[simp] theorem State.setPoll_os (i : Seg) (p : Poll) : (s.setPoll i p).os = s.os := rfl
@[simp] theorem State.setPoll_nq (i : Seg) (p : Poll) : (s.setPoll i p).nq = s.nq := rfl
@[simp] theorem State.setPoll_cs (i : Seg) (p : Poll) : (s.setPoll i p).cs = s.cs := rfl
@[simp] theorem State.setPoll_wp (i : Seg) (p : Poll) : (s.setPoll i p).wp = s.wp := rfl
@[simp] theorem State.setPoll_rl (i : Seg) (p : Poll) : (s.setPoll i p).rl = s.rl := rfl
@[simp] theorem State.setPoll_pins (i : Seg) (p : Poll) : (s.setPoll i p).pins = s.pins := rfl
@[simp] theorem State.setPoll_tenth (i : Seg) (p : Poll) : (s.setPoll i p).tenth = s.tenth := rfl
@[simp] theorem State.setPoll_reports (i : Seg) (p : Poll) : (s.setPoll i p).reports = s.reports := rfl
@[simp] theorem State.setPoll_pending (i : Seg) (p : Poll) : (s.setPoll i p).pending = s.pending := rfl

/-! ### lineFree -/

@[simp] theorem State.lineFree_tb : (s.lineFree).tb = s.tb := rfl
@[simp] theorem State.lineFree_bt : (s.lineFree).bt = s.bt := rfl
@[simp] theorem State.lineFree_load : (s.lineFree).load = s.load := rfl
@[simp] theorem State.lineFree_lm : (s.lineFree).lm = s.lm := rfl
@[simp] theorem State.lineFree_ot : (s.lineFree).ot = s.ot := rfl
@[simp] theorem State.lineFree_al : (s.lineFree).al = s.al := rfl
@[simp] theorem State.lineFree_ad : (s.lineFree).ad = s.ad := rfl
@[simp] theorem State.lineFree_lbu : (s.lineFree).lbu = s.lbu := rfl
@[simp] theorem State.lineFree_os : (s.lineFree).os = s.os := rfl
@[simp] theorem State.lineFree_nq : (s.lineFree).nq = s.nq := rfl
@[simp] theorem State.lineFree_cs : (s.lineFree).cs = s.cs := rfl
@[simp] theorem State.lineFree_wp : (s.lineFree).wp = s.wp := rfl
@[simp] theorem State.lineFree_rl : (s.lineFree).rl = s.rl := rfl
@[simp] theorem State.lineFree_pins : (s.lineFree).pins = s.pins := rfl
@[simp] theorem State.lineFree_tenth : (s.lineFree).tenth = s.tenth := rfl
@[simp] theorem State.lineFree_reports : (s.lineFree).reports = s.reports := rfl
@[simp] theorem State.lineFree_pending : (s.lineFree).pending = s.pending := rfl

/-! ### siRestart -/

@[simp] theorem State.siRestart_tb : (s.siRestart).tb = s.tb := rfl
@[simp] theorem State.siRestart_bt : (s.siRestart).bt = s.bt := rfl
@[simp] theorem State.siRestart_load : (s.siRestart).load = s.load := rfl
@[simp] theorem State.siRestart_lm : (s.siRestart).lm = s.lm := rfl
@[simp] theorem State.siRestart_ot : (s.siRestart).ot = s.ot := rfl
@[simp] theorem State.siRestart_al : (s.siRestart).al = s.al := rfl
@[simp] theorem State.siRestart_ad : (s.siRestart).ad = s.ad := rfl
@[simp] theorem State.siRestart_lbu : (s.siRestart).lbu = s.lbu := rfl
@[simp] theorem State.siRestart_os : (s.siRestart).os = s.os := rfl
@[simp] theorem State.siRestart_nq : (s.siRestart).nq = s.nq := rfl
@[simp] theorem State.siRestart_cs : (s.siRestart).cs = s.cs := rfl
@[simp] theorem State.siRestart_wp : (s.siRestart).wp = s.wp := rfl
@[simp] theorem State.siRestart_rl : (s.siRestart).rl = s.rl := rfl
@[simp] theorem State.siRestart_pins : (s.siRestart).pins = s.pins := rfl
@[simp] theorem State.siRestart_tenth : (s.siRestart).tenth = s.tenth := rfl
@[simp] theorem State.siRestart_reports : (s.siRestart).reports = s.reports := rfl
@[simp] theorem State.siRestart_pending : (s.siRestart).pending = s.pending := rfl

/-! ### siExit -/

@[simp] theorem State.siExit_tb (n : Nat) : (s.siExit n).tb = s.tb := rfl
@[simp] theorem State.siExit_bt (n : Nat) : (s.siExit n).bt = s.bt := rfl
@[simp] theorem State.siExit_load (n : Nat) : (s.siExit n).load = s.load := rfl
@[simp] theorem State.siExit_lm (n : Nat) : (s.siExit n).lm = s.lm := rfl
@[simp] theorem State.siExit_ot (n : Nat) : (s.siExit n).ot = s.ot := rfl
@[simp] theorem State.siExit_al (n : Nat) : (s.siExit n).al = s.al := rfl
@[simp] theorem State.siExit_ad (n : Nat) : (s.siExit n).ad = s.ad := rfl
@[simp] theorem State.siExit_lbu (n : Nat) : (s.siExit n).lbu = s.lbu := rfl
@[simp] theorem State.siExit_os (n : Nat) : (s.siExit n).os = s.os := rfl
@[simp] theorem State.siExit_nq (n : Nat) : (s.siExit n).nq = s.nq := rfl
@[simp] theorem State.siExit_cs (n : Nat) : (s.siExit n).cs = s.cs := rfl
@[simp] theorem State.siExit_wp (n : Nat) : (s.siExit n).wp = s.wp := rfl
@[simp] theorem State.siExit_rl (n : Nat) : (s.siExit n).rl = s.rl := rfl
@[simp] theorem State.siExit_pins (n : Nat) : (s.siExit n).pins = s.pins := rfl
@[simp] theorem State.siExit_tenth (n : Nat) : (s.siExit n).tenth = s.tenth := rfl
@[simp] theorem State.siExit_reports (n : Nat) : (s.siExit n).reports = s.reports := rfl
@[simp] theorem State.siExit_pending (n : Nat) : (s.siExit n).pending = s.pending := rfl

/-! ### setLoops -/

@[simp] theorem State.setLoops_tb (ls : List Loop) : (s.setLoops ls).tb = s.tb := rfl
@[simp] theorem State.setLoops_bt (ls : List Loop) : (s.setLoops ls).bt = s.bt := rfl
@[simp] theorem State.setLoops_load (ls : List Loop) : (s.setLoops ls).load = s.load := rfl
@[simp] theorem State.setLoops_lm (ls : List Loop) : (s.setLoops ls).lm = s.lm := rfl
@[simp] theorem State.setLoops_si (ls : List Loop) : (s.setLoops ls).si = s.si := rfl
@[simp] theorem State.setLoops_ot (ls : List Loop) : (s.setLoops ls).ot = s.ot := rfl
@[simp] theorem State.setLoops_ad (ls : List Loop) : (s.setLoops ls).ad = s.ad := rfl
@[simp] theorem State.setLoops_lbu (ls : List Loop) : (s.setLoops ls).lbu = s.lbu := rfl
@[simp] theorem State.setLoops_os (ls : List Loop) : (s.setLoops ls).os = s.os := rfl
@[simp] theorem State.setLoops_nq (ls : List Loop) : (s.setLoops ls).nq = s.nq := rfl
@[simp] theorem State.setLoops_cs (ls : List Loop) : (s.setLoops ls).cs = s.cs := rfl
@[simp] theorem State.setLoops_wp (ls : List Loop) : (s.setLoops ls).wp = s.wp := rfl
@[simp] theorem State.setLoops_rl (ls : List Loop) : (s.setLoops ls).rl = s.rl := rfl
@[simp] theorem State.setLoops_pins (ls : List Loop) : (s.setLoops ls).pins = s.pins := rfl
@[simp] theorem State.setLoops_tenth (ls : List Loop) : (s.setLoops ls).tenth = s.tenth := rfl
@[simp] theorem State.setLoops_reports (ls : List Loop) : (s.setLoops ls).reports = s.reports := rfl
@[simp] theorem State.setLoops_pending (ls : List Loop) : (s.setLoops ls).pending = s.pending := rfl

/-! ### handOn -/

@[simp] theorem State.handOn_tb : (s.handOn).tb = s.tb := rfl
@[simp] theorem State.handOn_bt : (s.handOn).bt = s.bt := rfl
@[simp] theorem State.handOn_load : (s.handOn).load = s.load := rfl
@[simp] theorem State.handOn_lm : (s.handOn).lm = s.lm := rfl
@[simp] theorem State.handOn_si : (s.handOn).si = s.si := rfl
@[simp] theorem State.handOn_ot : (s.handOn).ot = s.ot := rfl
@[simp] theorem State.handOn_al : (s.handOn).al = s.al := rfl
@[simp] theorem State.handOn_ad : (s.handOn).ad = s.ad := rfl
@[simp] theorem State.handOn_lbu : (s.handOn).lbu = s.lbu := rfl
@[simp] theorem State.handOn_os : (s.handOn).os = s.os := rfl
@[simp] theorem State.handOn_nq : (s.handOn).nq = s.nq := rfl
@[simp] theorem State.handOn_cs : (s.handOn).cs = s.cs := rfl
@[simp] theorem State.handOn_wp : (s.handOn).wp = s.wp := rfl
@[simp] theorem State.handOn_rl : (s.handOn).rl = s.rl := rfl
@[simp] theorem State.handOn_pins : (s.handOn).pins = s.pins := rfl
@[simp] theorem State.handOn_tenth : (s.handOn).tenth = s.tenth := rfl
@[simp] theorem State.handOn_pending : (s.handOn).pending = s.pending := rfl

/-! ### setAdGroups -/

@[simp] theorem State.setAdGroups_tb (gs : List AdGroup) : (s.setAdGroups gs).tb = s.tb := rfl
@[simp] theorem State.setAdGroups_bt (gs : List AdGroup) : (s.setAdGroups gs).bt = s.bt := rfl
@[simp] theorem State.setAdGroups_load (gs : List AdGroup) : (s.setAdGroups gs).load = s.load := rfl
@[simp] theorem State.setAdGroups_lm (gs : List AdGroup) : (s.setAdGroups gs).lm = s.lm := rfl
@[simp] theorem State.setAdGroups_si (gs : List AdGroup) : (s.setAdGroups gs).si = s.si := rfl
@[simp] theorem State.setAdGroups_ot (gs : List AdGroup) : (s.setAdGroups gs).ot = s.ot := rfl
@[simp] theorem State.setAdGroups_al (gs : List AdGroup) : (s.setAdGroups gs).al = s.al := rfl
@[simp] theorem State.setAdGroups_lbu (gs : List AdGroup) : (s.setAdGroups gs).lbu = s.lbu := rfl
@[simp] theorem State.setAdGroups_os (gs : List AdGroup) : (s.setAdGroups gs).os = s.os := rfl
@[simp] theorem State.setAdGroups_nq (gs : List AdGroup) : (s.setAdGroups gs).nq = s.nq := rfl
@[simp] theorem State.setAdGroups_cs (gs : List AdGroup) : (s.setAdGroups gs).cs = s.cs := rfl
@[simp] theorem State.setAdGroups_wp (gs : List AdGroup) : (s.setAdGroups gs).wp = s.wp := rfl
@[simp] theorem State.setAdGroups_rl (gs : List AdGroup) : (s.setAdGroups gs).rl = s.rl := rfl
@[simp] theorem State.setAdGroups_pins (gs : List AdGroup) : (s.setAdGroups gs).pins = s.pins := rfl
@[simp] theorem State.setAdGroups_tenth (gs : List AdGroup) : (s.setAdGroups gs).tenth = s.tenth := rfl
@[simp] theorem State.setAdGroups_reports (gs : List AdGroup) : (s.setAdGroups gs).reports = s.reports := rfl
@[simp] theorem State.setAdGroups_pending (gs : List AdGroup) : (s.setAdGroups gs).pending = s.pending := rfl

/-! ### adRestart -/

@[simp] theorem State.adRestart_tb : (s.adRestart).tb = s.tb := rfl
@[simp] theorem State.adRestart_bt : (s.adRestart).bt = s.bt := rfl
@[simp] theorem State.adRestart_load : (s.adRestart).load = s.load := rfl
@[simp] theorem State.adRestart_lm : (s.adRestart).lm = s.lm := rfl
@[simp] theorem State.adRestart_si : (s.adRestart).si = s.si := rfl
@[simp] theorem State.adRestart_ot : (s.adRestart).ot = s.ot := rfl
@[simp] theorem State.adRestart_al : (s.adRestart).al = s.al := rfl
@[simp] theorem State.adRestart_lbu : (s.adRestart).lbu = s.lbu := rfl
@[simp] theorem State.adRestart_os : (s.adRestart).os = s.os := rfl
@[simp] theorem State.adRestart_nq : (s.adRestart).nq = s.nq := rfl
@[simp] theorem State.adRestart_cs : (s.adRestart).cs = s.cs := rfl
@[simp] theorem State.adRestart_wp : (s.adRestart).wp = s.wp := rfl
@[simp] theorem State.adRestart_rl : (s.adRestart).rl = s.rl := rfl
@[simp] theorem State.adRestart_pins : (s.adRestart).pins = s.pins := rfl
@[simp] theorem State.adRestart_tenth : (s.adRestart).tenth = s.tenth := rfl
@[simp] theorem State.adRestart_reports : (s.adRestart).reports = s.reports := rfl
@[simp] theorem State.adRestart_pending : (s.adRestart).pending = s.pending := rfl

/-! ### adLeave -/

@[simp] theorem State.adLeave_tb (n : Nat) : (s.adLeave n).tb = s.tb := rfl
@[simp] theorem State.adLeave_bt (n : Nat) : (s.adLeave n).bt = s.bt := rfl
@[simp] theorem State.adLeave_load (n : Nat) : (s.adLeave n).load = s.load := rfl
@[simp] theorem State.adLeave_lm (n : Nat) : (s.adLeave n).lm = s.lm := rfl
@[simp] theorem State.adLeave_si (n : Nat) : (s.adLeave n).si = s.si := rfl
@[simp] theorem State.adLeave_ot (n : Nat) : (s.adLeave n).ot = s.ot := rfl
@[simp] theorem State.adLeave_al (n : Nat) : (s.adLeave n).al = s.al := rfl
@[simp] theorem State.adLeave_lbu (n : Nat) : (s.adLeave n).lbu = s.lbu := rfl
@[simp] theorem State.adLeave_os (n : Nat) : (s.adLeave n).os = s.os := rfl
@[simp] theorem State.adLeave_nq (n : Nat) : (s.adLeave n).nq = s.nq := rfl
@[simp] theorem State.adLeave_cs (n : Nat) : (s.adLeave n).cs = s.cs := rfl
@[simp] theorem State.adLeave_wp (n : Nat) : (s.adLeave n).wp = s.wp := rfl
@[simp] theorem State.adLeave_rl (n : Nat) : (s.adLeave n).rl = s.rl := rfl
@[simp] theorem State.adLeave_pins (n : Nat) : (s.adLeave n).pins = s.pins := rfl
@[simp] theorem State.adLeave_tenth (n : Nat) : (s.adLeave n).tenth = s.tenth := rfl
@[simp] theorem State.adLeave_reports (n : Nat) : (s.adLeave n).reports = s.reports := rfl
@[simp] theorem State.adLeave_pending (n : Nat) : (s.adLeave n).pending = s.pending := rfl

/-! ### mapLbuSeg -/

@[simp] theorem State.mapLbuSeg_tb (i : Seg) (f : LbuSeg → LbuSeg) : (s.mapLbuSeg i f).tb = s.tb := rfl
@[simp] theorem State.mapLbuSeg_bt (i : Seg) (f : LbuSeg → LbuSeg) : (s.mapLbuSeg i f).bt = s.bt := rfl
@[simp] theorem State.mapLbuSeg_load (i : Seg) (f : LbuSeg → LbuSeg) : (s.mapLbuSeg i f).load = s.load := rfl
@[simp] theorem State.mapLbuSeg_lm (i : Seg) (f : LbuSeg → LbuSeg) : (s.mapLbuSeg i f).lm = s.lm := rfl
@[simp] theorem State.mapLbuSeg_si (i : Seg) (f : LbuSeg → LbuSeg) : (s.mapLbuSeg i f).si = s.si := rfl
@[simp] theorem State.mapLbuSeg_ot (i : Seg) (f : LbuSeg → LbuSeg) : (s.mapLbuSeg i f).ot = s.ot := rfl
@[simp] theorem State.mapLbuSeg_al (i : Seg) (f : LbuSeg → LbuSeg) : (s.mapLbuSeg i f).al = s.al := rfl
@[simp] theorem State.mapLbuSeg_ad (i : Seg) (f : LbuSeg → LbuSeg) : (s.mapLbuSeg i f).ad = s.ad := rfl
@[simp] theorem State.mapLbuSeg_os (i : Seg) (f : LbuSeg → LbuSeg) : (s.mapLbuSeg i f).os = s.os := rfl
@[simp] theorem State.mapLbuSeg_nq (i : Seg) (f : LbuSeg → LbuSeg) : (s.mapLbuSeg i f).nq = s.nq := rfl
@[simp] theorem State.mapLbuSeg_cs (i : Seg) (f : LbuSeg → LbuSeg) : (s.mapLbuSeg i f).cs = s.cs := rfl
@[simp] theorem State.mapLbuSeg_wp (i : Seg) (f : LbuSeg → LbuSeg) : (s.mapLbuSeg i f).wp = s.wp := rfl
@[simp] theorem State.mapLbuSeg_rl (i : Seg) (f : LbuSeg → LbuSeg) : (s.mapLbuSeg i f).rl = s.rl := rfl
@[simp] theorem State.mapLbuSeg_pins (i : Seg) (f : LbuSeg → LbuSeg) : (s.mapLbuSeg i f).pins = s.pins := rfl
@[simp] theorem State.mapLbuSeg_tenth (i : Seg) (f : LbuSeg → LbuSeg) : (s.mapLbuSeg i f).tenth = s.tenth := rfl
@[simp] theorem State.mapLbuSeg_reports (i : Seg) (f : LbuSeg → LbuSeg) : (s.mapLbuSeg i f).reports = s.reports := rfl
@[simp] theorem State.mapLbuSeg_pending (i : Seg) (f : LbuSeg → LbuSeg) : (s.mapLbuSeg i f).pending = s.pending := rfl

/-! ### mapBlind -/

@[simp] theorem State.mapBlind_tb (i : Seg) (f : Blind → Blind) : (s.mapBlind i f).tb = s.tb := rfl
@[simp] theorem State.mapBlind_bt (i : Seg) (f : Blind → Blind) : (s.mapBlind i f).bt = s.bt := rfl
@[simp] theorem State.mapBlind_load (i : Seg) (f : Blind → Blind) : (s.mapBlind i f).load = s.load := rfl
@[simp] theorem State.mapBlind_lm (i : Seg) (f : Blind → Blind) : (s.mapBlind i f).lm = s.lm := rfl
@[simp] theorem State.mapBlind_si (i : Seg) (f : Blind → Blind) : (s.mapBlind i f).si = s.si := rfl
@[simp] theorem State.mapBlind_ot (i : Seg) (f : Blind → Blind) : (s.mapBlind i f).ot = s.ot := rfl
@[simp] theorem State.mapBlind_al (i : Seg) (f : Blind → Blind) : (s.mapBlind i f).al = s.al := rfl
@[simp] theorem State.mapBlind_ad (i : Seg) (f : Blind → Blind) : (s.mapBlind i f).ad = s.ad := rfl
@[simp] theorem State.mapBlind_os (i : Seg) (f : Blind → Blind) : (s.mapBlind i f).os = s.os := rfl
@[simp] theorem State.mapBlind_nq (i : Seg) (f : Blind → Blind) : (s.mapBlind i f).nq = s.nq := rfl
@[simp] theorem State.mapBlind_cs (i : Seg) (f : Blind → Blind) : (s.mapBlind i f).cs = s.cs := rfl
@[simp] theorem State.mapBlind_wp (i : Seg) (f : Blind → Blind) : (s.mapBlind i f).wp = s.wp := rfl
@[simp] theorem State.mapBlind_rl (i : Seg) (f : Blind → Blind) : (s.mapBlind i f).rl = s.rl := rfl
@[simp] theorem State.mapBlind_pins (i : Seg) (f : Blind → Blind) : (s.mapBlind i f).pins = s.pins := rfl
@[simp] theorem State.mapBlind_tenth (i : Seg) (f : Blind → Blind) : (s.mapBlind i f).tenth = s.tenth := rfl
@[simp] theorem State.mapBlind_reports (i : Seg) (f : Blind → Blind) : (s.mapBlind i f).reports = s.reports := rfl
@[simp] theorem State.mapBlind_pending (i : Seg) (f : Blind → Blind) : (s.mapBlind i f).pending = s.pending := rfl

/-! ### mapGlare -/

@[simp] theorem State.mapGlare_tb (i : Seg) (f : Glare → Glare) : (s.mapGlare i f).tb = s.tb := rfl
@[simp] theorem State.mapGlare_bt (i : Seg) (f : Glare → Glare) : (s.mapGlare i f).bt = s.bt := rfl
@[simp] theorem State.mapGlare_load (i : Seg) (f : Glare → Glare) : (s.mapGlare i f).load = s.load := rfl
@[simp] theorem State.mapGlare_lm (i : Seg) (f : Glare → Glare) : (s.mapGlare i f).lm = s.lm := rfl
@[simp] theorem State.mapGlare_si (i : Seg) (f : Glare → Glare) : (s.mapGlare i f).si = s.si := rfl
@[simp] theorem State.mapGlare_ot (i : Seg) (f : Glare → Glare) : (s.mapGlare i f).ot = s.ot := rfl
@[simp] theorem State.mapGlare_al (i : Seg) (f : Glare → Glare) : (s.mapGlare i f).al = s.al := rfl
@[simp] theorem State.mapGlare_ad (i : Seg) (f : Glare → Glare) : (s.mapGlare i f).ad = s.ad := rfl
@[simp] theorem State.mapGlare_os (i : Seg) (f : Glare → Glare) : (s.mapGlare i f).os = s.os := rfl
@[simp] theorem State.mapGlare_nq (i : Seg) (f : Glare → Glare) : (s.mapGlare i f).nq = s.nq := rfl
@[simp] theorem State.mapGlare_cs (i : Seg) (f : Glare → Glare) : (s.mapGlare i f).cs = s.cs := rfl
@[simp] theorem State.mapGlare_wp (i : Seg) (f : Glare → Glare) : (s.mapGlare i f).wp = s.wp := rfl
@[simp] theorem State.mapGlare_rl (i : Seg) (f : Glare → Glare) : (s.mapGlare i f).rl = s.rl := rfl
@[simp] theorem State.mapGlare_pins (i : Seg) (f : Glare → Glare) : (s.mapGlare i f).pins = s.pins := rfl
@[simp] theorem State.mapGlare_tenth (i : Seg) (f : Glare → Glare) : (s.mapGlare i f).tenth = s.tenth := rfl
@[simp] theorem State.mapGlare_reports (i : Seg) (f : Glare → Glare) : (s.mapGlare i f).reports = s.reports := rfl
@[simp] theorem State.mapGlare_pending (i : Seg) (f : Glare → Glare) : (s.mapGlare i f).pending = s.pending := rfl

/-! ### lbuService -/

@[simp] theorem State.lbuService_tb : (s.lbuService).tb = s.tb := rfl
@[simp] theorem State.lbuService_bt : (s.lbuService).bt = s.bt := rfl
@[simp] theorem State.lbuService_load : (s.lbuService).load = s.load := rfl
@[simp] theorem State.lbuService_lm : (s.lbuService).lm = s.lm := rfl
@[simp] theorem State.lbuService_si : (s.lbuService).si = s.si := rfl
@[simp] theorem State.lbuService_ot : (s.lbuService).ot = s.ot := rfl
@[simp] theorem State.lbuService_al : (s.lbuService).al = s.al := rfl
@[simp] theorem State.lbuService_ad : (s.lbuService).ad = s.ad := rfl
@[simp] theorem State.lbuService_os : (s.lbuService).os = s.os := rfl
@[simp] theorem State.lbuService_nq : (s.lbuService).nq = s.nq := rfl
@[simp] theorem State.lbuService_cs : (s.lbuService).cs = s.cs := rfl
@[simp] theorem State.lbuService_wp : (s.lbuService).wp = s.wp := rfl
@[simp] theorem State.lbuService_rl : (s.lbuService).rl = s.rl := rfl
@[simp] theorem State.lbuService_pins : (s.lbuService).pins = s.pins := rfl
@[simp] theorem State.lbuService_tenth : (s.lbuService).tenth = s.tenth := rfl
@[simp] theorem State.lbuService_reports : (s.lbuService).reports = s.reports := rfl
@[simp] theorem State.lbuService_pending : (s.lbuService).pending = s.pending := rfl

/-! ### lbuLeaveSegs -/

@[simp] theorem State.lbuLeaveSegs_tb (n : Nat) : (s.lbuLeaveSegs n).tb = s.tb := rfl
@[simp] theorem State.lbuLeaveSegs_bt (n : Nat) : (s.lbuLeaveSegs n).bt = s.bt := rfl
@[simp] theorem State.lbuLeaveSegs_load (n : Nat) : (s.lbuLeaveSegs n).load = s.load := rfl
@[simp] theorem State.lbuLeaveSegs_lm (n : Nat) : (s.lbuLeaveSegs n).lm = s.lm := rfl
@[simp] theorem State.lbuLeaveSegs_si (n : Nat) : (s.lbuLeaveSegs n).si = s.si := rfl
@[simp] theorem State.lbuLeaveSegs_ot (n : Nat) : (s.lbuLeaveSegs n).ot = s.ot := rfl
@[simp] theorem State.lbuLeaveSegs_al (n : Nat) : (s.lbuLeaveSegs n).al = s.al := rfl
@[simp] theorem State.lbuLeaveSegs_ad (n : Nat) : (s.lbuLeaveSegs n).ad = s.ad := rfl
@[simp] theorem State.lbuLeaveSegs_os (n : Nat) : (s.lbuLeaveSegs n).os = s.os := rfl
@[simp] theorem State.lbuLeaveSegs_nq (n : Nat) : (s.lbuLeaveSegs n).nq = s.nq := rfl
@[simp] theorem State.lbuLeaveSegs_cs (n : Nat) : (s.lbuLeaveSegs n).cs = s.cs := rfl
@[simp] theorem State.lbuLeaveSegs_wp (n : Nat) : (s.lbuLeaveSegs n).wp = s.wp := rfl
@[simp] theorem State.lbuLeaveSegs_rl (n : Nat) : (s.lbuLeaveSegs n).rl = s.rl := rfl
@[simp] theorem State.lbuLeaveSegs_pins (n : Nat) : (s.lbuLeaveSegs n).pins = s.pins := rfl
@[simp] theorem State.lbuLeaveSegs_tenth (n : Nat) : (s.lbuLeaveSegs n).tenth = s.tenth := rfl
@[simp] theorem State.lbuLeaveSegs_reports (n : Nat) : (s.lbuLeaveSegs n).reports = s.reports := rfl
@[simp] theorem State.lbuLeaveSegs_pending (n : Nat) : (s.lbuLeaveSegs n).pending = s.pending := rfl

/-! ### lbuLeaveOcc -/

@[simp] theorem State.lbuLeaveOcc_tb : (s.lbuLeaveOcc).tb = s.tb := rfl
@[simp] theorem State.lbuLeaveOcc_bt : (s.lbuLeaveOcc).bt = s.bt := rfl
@[simp] theorem State.lbuLeaveOcc_load : (s.lbuLeaveOcc).load = s.load := rfl
@[simp] theorem State.lbuLeaveOcc_lm : (s.lbuLeaveOcc).lm = s.lm := rfl
@[simp] theorem State.lbuLeaveOcc_si : (s.lbuLeaveOcc).si = s.si := rfl
@[simp] theorem State.lbuLeaveOcc_ot : (s.lbuLeaveOcc).ot = s.ot := rfl
@[simp] theorem State.lbuLeaveOcc_al : (s.lbuLeaveOcc).al = s.al := rfl
@[simp] theorem State.lbuLeaveOcc_ad : (s.lbuLeaveOcc).ad = s.ad := rfl
@[simp] theorem State.lbuLeaveOcc_os : (s.lbuLeaveOcc).os = s.os := rfl
@[simp] theorem State.lbuLeaveOcc_nq : (s.lbuLeaveOcc).nq = s.nq := rfl
@[simp] theorem State.lbuLeaveOcc_cs : (s.lbuLeaveOcc).cs = s.cs := rfl
@[simp] theorem State.lbuLeaveOcc_wp : (s.lbuLeaveOcc).wp = s.wp := rfl
@[simp] theorem State.lbuLeaveOcc_rl : (s.lbuLeaveOcc).rl = s.rl := rfl
@[simp] theorem State.lbuLeaveOcc_pins : (s.lbuLeaveOcc).pins = s.pins := rfl
@[simp] theorem State.lbuLeaveOcc_tenth : (s.lbuLeaveOcc).tenth = s.tenth := rfl
@[simp] theorem State.lbuLeaveOcc_reports : (s.lbuLeaveOcc).reports = s.reports := rfl
@[simp] theorem State.lbuLeaveOcc_pending : (s.lbuLeaveOcc).pending = s.pending := rfl

/-! ### pruneSaved -/

@[simp] theorem State.pruneSaved_tb : (s.pruneSaved).tb = s.tb := rfl
@[simp] theorem State.pruneSaved_load : (s.pruneSaved).load = s.load := rfl
@[simp] theorem State.pruneSaved_lm : (s.pruneSaved).lm = s.lm := rfl
@[simp] theorem State.pruneSaved_si : (s.pruneSaved).si = s.si := rfl
@[simp] theorem State.pruneSaved_ot : (s.pruneSaved).ot = s.ot := rfl
@[simp] theorem State.pruneSaved_al : (s.pruneSaved).al = s.al := rfl
@[simp] theorem State.pruneSaved_ad : (s.pruneSaved).ad = s.ad := rfl
@[simp] theorem State.pruneSaved_lbu : (s.pruneSaved).lbu = s.lbu := rfl
@[simp] theorem State.pruneSaved_os : (s.pruneSaved).os = s.os := rfl
@[simp] theorem State.pruneSaved_nq : (s.pruneSaved).nq = s.nq := rfl
@[simp] theorem State.pruneSaved_cs : (s.pruneSaved).cs = s.cs := rfl
@[simp] theorem State.pruneSaved_wp : (s.pruneSaved).wp = s.wp := rfl
@[simp] theorem State.pruneSaved_rl : (s.pruneSaved).rl = s.rl := rfl
@[simp] theorem State.pruneSaved_pins : (s.pruneSaved).pins = s.pins := rfl
@[simp] theorem State.pruneSaved_tenth : (s.pruneSaved).tenth = s.tenth := rfl
@[simp] theorem State.pruneSaved_reports : (s.pruneSaved).reports = s.reports := rfl
@[simp] theorem State.pruneSaved_pending : (s.pruneSaved).pending = s.pending := rfl

/-! ### lbuRestart -/

@[simp] theorem State.lbuRestart_tb : (s.lbuRestart).tb = s.tb := rfl
@[simp] theorem State.lbuRestart_bt : (s.lbuRestart).bt = s.bt := rfl
@[simp] theorem State.lbuRestart_load : (s.lbuRestart).load = s.load := rfl
@[simp] theorem State.lbuRestart_lm : (s.lbuRestart).lm = s.lm := rfl
@[simp] theorem State.lbuRestart_si : (s.lbuRestart).si = s.si := rfl
@[simp] theorem State.lbuRestart_ot : (s.lbuRestart).ot = s.ot := rfl
@[simp] theorem State.lbuRestart_al : (s.lbuRestart).al = s.al := rfl
@[simp] theorem State.lbuRestart_ad : (s.lbuRestart).ad = s.ad := rfl
@[simp] theorem State.lbuRestart_os : (s.lbuRestart).os = s.os := rfl
@[simp] theorem State.lbuRestart_nq : (s.lbuRestart).nq = s.nq := rfl
@[simp] theorem State.lbuRestart_cs : (s.lbuRestart).cs = s.cs := rfl
@[simp] theorem State.lbuRestart_wp : (s.lbuRestart).wp = s.wp := rfl
@[simp] theorem State.lbuRestart_rl : (s.lbuRestart).rl = s.rl := rfl
@[simp] theorem State.lbuRestart_pins : (s.lbuRestart).pins = s.pins := rfl
@[simp] theorem State.lbuRestart_tenth : (s.lbuRestart).tenth = s.tenth := rfl
@[simp] theorem State.lbuRestart_reports : (s.lbuRestart).reports = s.reports := rfl
@[simp] theorem State.lbuRestart_pending : (s.lbuRestart).pending = s.pending := rfl

/-! ### alLeave -/

@[simp] theorem State.alLeave_tb : (s.alLeave).tb = s.tb := rfl
@[simp] theorem State.alLeave_bt : (s.alLeave).bt = s.bt := rfl
@[simp] theorem State.alLeave_load : (s.alLeave).load = s.load := rfl
@[simp] theorem State.alLeave_lm : (s.alLeave).lm = s.lm := rfl
@[simp] theorem State.alLeave_si : (s.alLeave).si = s.si := rfl
@[simp] theorem State.alLeave_ot : (s.alLeave).ot = s.ot := rfl
@[simp] theorem State.alLeave_ad : (s.alLeave).ad = s.ad := rfl
@[simp] theorem State.alLeave_lbu : (s.alLeave).lbu = s.lbu := rfl
@[simp] theorem State.alLeave_os : (s.alLeave).os = s.os := rfl
@[simp] theorem State.alLeave_nq : (s.alLeave).nq = s.nq := rfl
@[simp] theorem State.alLeave_cs : (s.alLeave).cs = s.cs := rfl
@[simp] theorem State.alLeave_wp : (s.alLeave).wp = s.wp := rfl
@[simp] theorem State.alLeave_rl : (s.alLeave).rl = s.rl := rfl
@[simp] theorem State.alLeave_pins : (s.alLeave).pins = s.pins := rfl
@[simp] theorem State.alLeave_tenth : (s.alLeave).tenth = s.tenth := rfl
@[simp] theorem State.alLeave_reports : (s.alLeave).reports = s.reports := rfl
@[simp] theorem State.alLeave_pending : (s.alLeave).pending = s.pending := rfl

/-! ### clampLive -/

@[simp] theorem State.clampLive_tb : (s.clampLive).tb = s.tb := rfl
@[simp] theorem State.clampLive_load : (s.clampLive).load = s.load := rfl
@[simp] theorem State.clampLive_lm : (s.clampLive).lm = s.lm := rfl
@[simp] theorem State.clampLive_si : (s.clampLive).si = s.si := rfl
@[simp] theorem State.clampLive_ot : (s.clampLive).ot = s.ot := rfl
@[simp] theorem State.clampLive_al : (s.clampLive).al = s.al := rfl
@[simp] theorem State.clampLive_ad : (s.clampLive).ad = s.ad := rfl
@[simp] theorem State.clampLive_lbu : (s.clampLive).lbu = s.lbu := rfl
@[simp] theorem State.clampLive_os : (s.clampLive).os = s.os := rfl
@[simp] theorem State.clampLive_nq : (s.clampLive).nq = s.nq := rfl
@[simp] theorem State.clampLive_cs : (s.clampLive).cs = s.cs := rfl
@[simp] theorem State.clampLive_wp : (s.clampLive).wp = s.wp := rfl
@[simp] theorem State.clampLive_rl : (s.clampLive).rl = s.rl := rfl
@[simp] theorem State.clampLive_pins : (s.clampLive).pins = s.pins := rfl
@[simp] theorem State.clampLive_tenth : (s.clampLive).tenth = s.tenth := rfl
@[simp] theorem State.clampLive_reports : (s.clampLive).reports = s.reports := rfl
@[simp] theorem State.clampLive_pending : (s.clampLive).pending = s.pending := rfl

/-! ### hold -/

@[simp] theorem State.hold_tb (code : Nat) : (s.hold code).tb = s.tb := rfl
@[simp] theorem State.hold_bt (code : Nat) : (s.hold code).bt = s.bt := rfl
@[simp] theorem State.hold_load (code : Nat) : (s.hold code).load = s.load := rfl
@[simp] theorem State.hold_lm (code : Nat) : (s.hold code).lm = s.lm := rfl
@[simp] theorem State.hold_si (code : Nat) : (s.hold code).si = s.si := rfl
@[simp] theorem State.hold_ot (code : Nat) : (s.hold code).ot = s.ot := rfl
@[simp] theorem State.hold_al (code : Nat) : (s.hold code).al = s.al := rfl
@[simp] theorem State.hold_ad (code : Nat) : (s.hold code).ad = s.ad := rfl
@[simp] theorem State.hold_lbu (code : Nat) : (s.hold code).lbu = s.lbu := rfl
@[simp] theorem State.hold_os (code : Nat) : (s.hold code).os = s.os := rfl
@[simp] theorem State.hold_nq (code : Nat) : (s.hold code).nq = s.nq := rfl
@[simp] theorem State.hold_cs (code : Nat) : (s.hold code).cs = s.cs := rfl
@[simp] theorem State.hold_rl (code : Nat) : (s.hold code).rl = s.rl := rfl
@[simp] theorem State.hold_pins (code : Nat) : (s.hold code).pins = s.pins := rfl
@[simp] theorem State.hold_tenth (code : Nat) : (s.hold code).tenth = s.tenth := rfl
@[simp] theorem State.hold_reports (code : Nat) : (s.hold code).reports = s.reports := rfl
@[simp] theorem State.hold_pending (code : Nat) : (s.hold code).pending = s.pending := rfl

/-! ### closeLoad -/

@[simp] theorem State.closeLoad_tb : (s.closeLoad).tb = s.tb := rfl
@[simp] theorem State.closeLoad_bt : (s.closeLoad).bt = s.bt := rfl
@[simp] theorem State.closeLoad_lm : (s.closeLoad).lm = s.lm := rfl
@[simp] theorem State.closeLoad_si : (s.closeLoad).si = s.si := rfl
@[simp] theorem State.closeLoad_ot : (s.closeLoad).ot = s.ot := rfl
@[simp] theorem State.closeLoad_al : (s.closeLoad).al = s.al := rfl
@[simp] theorem State.closeLoad_ad : (s.closeLoad).ad = s.ad := rfl
@[simp] theorem State.closeLoad_lbu : (s.closeLoad).lbu = s.lbu := rfl
@[simp] theorem State.closeLoad_os : (s.closeLoad).os = s.os := rfl
@[simp] theorem State.closeLoad_nq : (s.closeLoad).nq = s.nq := rfl
@[simp] theorem State.closeLoad_cs : (s.closeLoad).cs = s.cs := rfl
@[simp] theorem State.closeLoad_wp : (s.closeLoad).wp = s.wp := rfl
@[simp] theorem State.closeLoad_rl : (s.closeLoad).rl = s.rl := rfl
@[simp] theorem State.closeLoad_pins : (s.closeLoad).pins = s.pins := rfl
@[simp] theorem State.closeLoad_tenth : (s.closeLoad).tenth = s.tenth := rfl
@[simp] theorem State.closeLoad_reports : (s.closeLoad).reports = s.reports := rfl
@[simp] theorem State.closeLoad_pending : (s.closeLoad).pending = s.pending := rfl

/-! ### putPending -/

@[simp] theorem State.putPending_tb (r : Record) : (s.putPending r).tb = s.tb := rfl
@[simp] theorem State.putPending_bt (r : Record) : (s.putPending r).bt = s.bt := rfl
@[simp] theorem State.putPending_load (r : Record) : (s.putPending r).load = s.load := rfl
@[simp] theorem State.putPending_lm (r : Record) : (s.putPending r).lm = s.lm := rfl
@[simp] theorem State.putPending_si (r : Record) : (s.putPending r).si = s.si := rfl
@[simp] theorem State.putPending_ot (r : Record) : (s.putPending r).ot = s.ot := rfl
@[simp] theorem State.putPending_al (r : Record) : (s.putPending r).al = s.al := rfl
@[simp] theorem State.putPending_ad (r : Record) : (s.putPending r).ad = s.ad := rfl
@[simp] theorem State.putPending_lbu (r : Record) : (s.putPending r).lbu = s.lbu := rfl
@[simp] theorem State.putPending_os (r : Record) : (s.putPending r).os = s.os := rfl
@[simp] theorem State.putPending_nq (r : Record) : (s.putPending r).nq = s.nq := rfl
@[simp] theorem State.putPending_wp (r : Record) : (s.putPending r).wp = s.wp := rfl
@[simp] theorem State.putPending_rl (r : Record) : (s.putPending r).rl = s.rl := rfl
@[simp] theorem State.putPending_pins (r : Record) : (s.putPending r).pins = s.pins := rfl
@[simp] theorem State.putPending_tenth (r : Record) : (s.putPending r).tenth = s.tenth := rfl
@[simp] theorem State.putPending_reports (r : Record) : (s.putPending r).reports = s.reports := rfl
@[simp] theorem State.putPending_pending (r : Record) : (s.putPending r).pending = s.pending := rfl

/-! ### takePending -/

@[simp] theorem State.takePending_tb : (s.takePending).tb = s.tb := rfl
@[simp] theorem State.takePending_bt : (s.takePending).bt = s.bt := rfl
@[simp] theorem State.takePending_load : (s.takePending).load = s.load := rfl
@[simp] theorem State.takePending_lm : (s.takePending).lm = s.lm := rfl
@[simp] theorem State.takePending_si : (s.takePending).si = s.si := rfl
@[simp] theorem State.takePending_ot : (s.takePending).ot = s.ot := rfl
@[simp] theorem State.takePending_al : (s.takePending).al = s.al := rfl
@[simp] theorem State.takePending_ad : (s.takePending).ad = s.ad := rfl
@[simp] theorem State.takePending_lbu : (s.takePending).lbu = s.lbu := rfl
@[simp] theorem State.takePending_os : (s.takePending).os = s.os := rfl
@[simp] theorem State.takePending_nq : (s.takePending).nq = s.nq := rfl
@[simp] theorem State.takePending_wp : (s.takePending).wp = s.wp := rfl
@[simp] theorem State.takePending_rl : (s.takePending).rl = s.rl := rfl
@[simp] theorem State.takePending_pins : (s.takePending).pins = s.pins := rfl
@[simp] theorem State.takePending_tenth : (s.takePending).tenth = s.tenth := rfl
@[simp] theorem State.takePending_reports : (s.takePending).reports = s.reports := rfl
@[simp] theorem State.takePending_pending : (s.takePending).pending = s.pending := rfl

/-! ### clampHeadcounts -/

@[simp] theorem State.clampHeadcounts_tb : (s.clampHeadcounts).tb = s.tb := rfl
@[simp] theorem State.clampHeadcounts_load : (s.clampHeadcounts).load = s.load := rfl
@[simp] theorem State.clampHeadcounts_lm : (s.clampHeadcounts).lm = s.lm := rfl
@[simp] theorem State.clampHeadcounts_si : (s.clampHeadcounts).si = s.si := rfl
@[simp] theorem State.clampHeadcounts_ot : (s.clampHeadcounts).ot = s.ot := rfl
@[simp] theorem State.clampHeadcounts_al : (s.clampHeadcounts).al = s.al := rfl
@[simp] theorem State.clampHeadcounts_ad : (s.clampHeadcounts).ad = s.ad := rfl
@[simp] theorem State.clampHeadcounts_lbu : (s.clampHeadcounts).lbu = s.lbu := rfl
@[simp] theorem State.clampHeadcounts_os : (s.clampHeadcounts).os = s.os := rfl
@[simp] theorem State.clampHeadcounts_nq : (s.clampHeadcounts).nq = s.nq := rfl
@[simp] theorem State.clampHeadcounts_cs : (s.clampHeadcounts).cs = s.cs := rfl
@[simp] theorem State.clampHeadcounts_wp : (s.clampHeadcounts).wp = s.wp := rfl
@[simp] theorem State.clampHeadcounts_rl : (s.clampHeadcounts).rl = s.rl := rfl
@[simp] theorem State.clampHeadcounts_pins : (s.clampHeadcounts).pins = s.pins := rfl
@[simp] theorem State.clampHeadcounts_tenth : (s.clampHeadcounts).tenth = s.tenth := rfl
@[simp] theorem State.clampHeadcounts_reports : (s.clampHeadcounts).reports = s.reports := rfl
@[simp] theorem State.clampHeadcounts_pending : (s.clampHeadcounts).pending = s.pending := rfl

/-! ### otLeave -/

@[simp] theorem State.otLeave_tb (n : Nat) : (s.otLeave n).tb = s.tb := rfl
@[simp] theorem State.otLeave_bt (n : Nat) : (s.otLeave n).bt = s.bt := rfl
@[simp] theorem State.otLeave_load (n : Nat) : (s.otLeave n).load = s.load := rfl
@[simp] theorem State.otLeave_lm (n : Nat) : (s.otLeave n).lm = s.lm := rfl
@[simp] theorem State.otLeave_si (n : Nat) : (s.otLeave n).si = s.si := rfl
@[simp] theorem State.otLeave_al (n : Nat) : (s.otLeave n).al = s.al := rfl
@[simp] theorem State.otLeave_ad (n : Nat) : (s.otLeave n).ad = s.ad := rfl
@[simp] theorem State.otLeave_lbu (n : Nat) : (s.otLeave n).lbu = s.lbu := rfl
@[simp] theorem State.otLeave_os (n : Nat) : (s.otLeave n).os = s.os := rfl
@[simp] theorem State.otLeave_nq (n : Nat) : (s.otLeave n).nq = s.nq := rfl
@[simp] theorem State.otLeave_cs (n : Nat) : (s.otLeave n).cs = s.cs := rfl
@[simp] theorem State.otLeave_wp (n : Nat) : (s.otLeave n).wp = s.wp := rfl
@[simp] theorem State.otLeave_rl (n : Nat) : (s.otLeave n).rl = s.rl := rfl
@[simp] theorem State.otLeave_pins (n : Nat) : (s.otLeave n).pins = s.pins := rfl
@[simp] theorem State.otLeave_tenth (n : Nat) : (s.otLeave n).tenth = s.tenth := rfl
@[simp] theorem State.otLeave_reports (n : Nat) : (s.otLeave n).reports = s.reports := rfl
@[simp] theorem State.otLeave_pending (n : Nat) : (s.otLeave n).pending = s.pending := rfl

/-! ### otRestart -/

@[simp] theorem State.otRestart_tb : (s.otRestart).tb = s.tb := rfl
@[simp] theorem State.otRestart_bt : (s.otRestart).bt = s.bt := rfl
@[simp] theorem State.otRestart_load : (s.otRestart).load = s.load := rfl
@[simp] theorem State.otRestart_lm : (s.otRestart).lm = s.lm := rfl
@[simp] theorem State.otRestart_si : (s.otRestart).si = s.si := rfl
@[simp] theorem State.otRestart_al : (s.otRestart).al = s.al := rfl
@[simp] theorem State.otRestart_ad : (s.otRestart).ad = s.ad := rfl
@[simp] theorem State.otRestart_lbu : (s.otRestart).lbu = s.lbu := rfl
@[simp] theorem State.otRestart_os : (s.otRestart).os = s.os := rfl
@[simp] theorem State.otRestart_nq : (s.otRestart).nq = s.nq := rfl
@[simp] theorem State.otRestart_cs : (s.otRestart).cs = s.cs := rfl
@[simp] theorem State.otRestart_wp : (s.otRestart).wp = s.wp := rfl
@[simp] theorem State.otRestart_rl : (s.otRestart).rl = s.rl := rfl
@[simp] theorem State.otRestart_pins : (s.otRestart).pins = s.pins := rfl
@[simp] theorem State.otRestart_tenth : (s.otRestart).tenth = s.tenth := rfl
@[simp] theorem State.otRestart_reports : (s.otRestart).reports = s.reports := rfl
@[simp] theorem State.otRestart_pending : (s.otRestart).pending = s.pending := rfl

/-! ### rlLeave -/

@[simp] theorem State.rlLeave_tb : (s.rlLeave).tb = s.tb := rfl
@[simp] theorem State.rlLeave_bt : (s.rlLeave).bt = s.bt := rfl
@[simp] theorem State.rlLeave_load : (s.rlLeave).load = s.load := rfl
@[simp] theorem State.rlLeave_lm : (s.rlLeave).lm = s.lm := rfl
@[simp] theorem State.rlLeave_si : (s.rlLeave).si = s.si := rfl
@[simp] theorem State.rlLeave_ot : (s.rlLeave).ot = s.ot := rfl
@[simp] theorem State.rlLeave_al : (s.rlLeave).al = s.al := rfl
@[simp] theorem State.rlLeave_ad : (s.rlLeave).ad = s.ad := rfl
@[simp] theorem State.rlLeave_lbu : (s.rlLeave).lbu = s.lbu := rfl
@[simp] theorem State.rlLeave_os : (s.rlLeave).os = s.os := rfl
@[simp] theorem State.rlLeave_nq : (s.rlLeave).nq = s.nq := rfl
@[simp] theorem State.rlLeave_cs : (s.rlLeave).cs = s.cs := rfl
@[simp] theorem State.rlLeave_wp : (s.rlLeave).wp = s.wp := rfl
@[simp] theorem State.rlLeave_pins : (s.rlLeave).pins = s.pins := rfl
@[simp] theorem State.rlLeave_tenth : (s.rlLeave).tenth = s.tenth := rfl
@[simp] theorem State.rlLeave_reports : (s.rlLeave).reports = s.reports := rfl
@[simp] theorem State.rlLeave_pending : (s.rlLeave).pending = s.pending := rfl

/-! ### reportSources -/

@[simp] theorem State.reportSources_tb : (s.reportSources).tb = s.tb := rfl
@[simp] theorem State.reportSources_bt : (s.reportSources).bt = s.bt := rfl
@[simp] theorem State.reportSources_load : (s.reportSources).load = s.load := rfl
@[simp] theorem State.reportSources_lm : (s.reportSources).lm = s.lm := rfl
@[simp] theorem State.reportSources_si : (s.reportSources).si = s.si := rfl
@[simp] theorem State.reportSources_ot : (s.reportSources).ot = s.ot := rfl
@[simp] theorem State.reportSources_al : (s.reportSources).al = s.al := rfl
@[simp] theorem State.reportSources_ad : (s.reportSources).ad = s.ad := rfl
@[simp] theorem State.reportSources_lbu : (s.reportSources).lbu = s.lbu := rfl
@[simp] theorem State.reportSources_os : (s.reportSources).os = s.os := rfl
@[simp] theorem State.reportSources_nq : (s.reportSources).nq = s.nq := rfl
@[simp] theorem State.reportSources_cs : (s.reportSources).cs = s.cs := rfl
@[simp] theorem State.reportSources_wp : (s.reportSources).wp = s.wp := rfl
@[simp] theorem State.reportSources_rl : (s.reportSources).rl = s.rl := rfl
@[simp] theorem State.reportSources_pins : (s.reportSources).pins = s.pins := rfl
@[simp] theorem State.reportSources_tenth : (s.reportSources).tenth = s.tenth := rfl
@[simp] theorem State.reportSources_pending : (s.reportSources).pending = s.pending := rfl

/-! ### setServiceLine -/

@[simp] theorem State.setServiceLine_tb (b : Bool) : (s.setServiceLine b).tb = s.tb := rfl
@[simp] theorem State.setServiceLine_bt (b : Bool) : (s.setServiceLine b).bt = s.bt := rfl
@[simp] theorem State.setServiceLine_load (b : Bool) : (s.setServiceLine b).load = s.load := rfl
@[simp] theorem State.setServiceLine_lm (b : Bool) : (s.setServiceLine b).lm = s.lm := rfl
@[simp] theorem State.setServiceLine_si (b : Bool) : (s.setServiceLine b).si = s.si := rfl
@[simp] theorem State.setServiceLine_ot (b : Bool) : (s.setServiceLine b).ot = s.ot := rfl
@[simp] theorem State.setServiceLine_al (b : Bool) : (s.setServiceLine b).al = s.al := rfl
@[simp] theorem State.setServiceLine_ad (b : Bool) : (s.setServiceLine b).ad = s.ad := rfl
@[simp] theorem State.setServiceLine_lbu (b : Bool) : (s.setServiceLine b).lbu = s.lbu := rfl
@[simp] theorem State.setServiceLine_os (b : Bool) : (s.setServiceLine b).os = s.os := rfl
@[simp] theorem State.setServiceLine_nq (b : Bool) : (s.setServiceLine b).nq = s.nq := rfl
@[simp] theorem State.setServiceLine_wp (b : Bool) : (s.setServiceLine b).wp = s.wp := rfl
@[simp] theorem State.setServiceLine_rl (b : Bool) : (s.setServiceLine b).rl = s.rl := rfl
@[simp] theorem State.setServiceLine_pins (b : Bool) : (s.setServiceLine b).pins = s.pins := rfl
@[simp] theorem State.setServiceLine_tenth (b : Bool) : (s.setServiceLine b).tenth = s.tenth := rfl
@[simp] theorem State.setServiceLine_reports (b : Bool) : (s.setServiceLine b).reports = s.reports := rfl
@[simp] theorem State.setServiceLine_pending (b : Bool) : (s.setServiceLine b).pending = s.pending := rfl

/-! ### holdOutputs -/

@[simp] theorem State.holdOutputs_tb : (s.holdOutputs).tb = s.tb := rfl
@[simp] theorem State.holdOutputs_bt : (s.holdOutputs).bt = s.bt := rfl
@[simp] theorem State.holdOutputs_load : (s.holdOutputs).load = s.load := rfl
@[simp] theorem State.holdOutputs_lm : (s.holdOutputs).lm = s.lm := rfl
@[simp] theorem State.holdOutputs_si : (s.holdOutputs).si = s.si := rfl
@[simp] theorem State.holdOutputs_ot : (s.holdOutputs).ot = s.ot := rfl
@[simp] theorem State.holdOutputs_al : (s.holdOutputs).al = s.al := rfl
@[simp] theorem State.holdOutputs_ad : (s.holdOutputs).ad = s.ad := rfl
@[simp] theorem State.holdOutputs_lbu : (s.holdOutputs).lbu = s.lbu := rfl
@[simp] theorem State.holdOutputs_nq : (s.holdOutputs).nq = s.nq := rfl
@[simp] theorem State.holdOutputs_cs : (s.holdOutputs).cs = s.cs := rfl
@[simp] theorem State.holdOutputs_wp : (s.holdOutputs).wp = s.wp := rfl
@[simp] theorem State.holdOutputs_rl : (s.holdOutputs).rl = s.rl := rfl
@[simp] theorem State.holdOutputs_pins : (s.holdOutputs).pins = s.pins := rfl
@[simp] theorem State.holdOutputs_tenth : (s.holdOutputs).tenth = s.tenth := rfl
@[simp] theorem State.holdOutputs_reports : (s.holdOutputs).reports = s.reports := rfl
@[simp] theorem State.holdOutputs_pending : (s.holdOutputs).pending = s.pending := rfl

/-! ### dropPorts -/

@[simp] theorem State.dropPorts_tb : (s.dropPorts).tb = s.tb := rfl
@[simp] theorem State.dropPorts_bt : (s.dropPorts).bt = s.bt := rfl
@[simp] theorem State.dropPorts_load : (s.dropPorts).load = s.load := rfl
@[simp] theorem State.dropPorts_lm : (s.dropPorts).lm = s.lm := rfl
@[simp] theorem State.dropPorts_si : (s.dropPorts).si = s.si := rfl
@[simp] theorem State.dropPorts_ot : (s.dropPorts).ot = s.ot := rfl
@[simp] theorem State.dropPorts_al : (s.dropPorts).al = s.al := rfl
@[simp] theorem State.dropPorts_ad : (s.dropPorts).ad = s.ad := rfl
@[simp] theorem State.dropPorts_lbu : (s.dropPorts).lbu = s.lbu := rfl
@[simp] theorem State.dropPorts_os : (s.dropPorts).os = s.os := rfl
@[simp] theorem State.dropPorts_nq : (s.dropPorts).nq = s.nq := rfl
@[simp] theorem State.dropPorts_cs : (s.dropPorts).cs = s.cs := rfl
@[simp] theorem State.dropPorts_pins : (s.dropPorts).pins = s.pins := rfl
@[simp] theorem State.dropPorts_tenth : (s.dropPorts).tenth = s.tenth := rfl
@[simp] theorem State.dropPorts_reports : (s.dropPorts).reports = s.reports := rfl
@[simp] theorem State.dropPorts_pending : (s.dropPorts).pending = s.pending := rfl

/-! ### setPins -/

@[simp] theorem State.setPins_tb (a b : Bool) : (s.setPins a b).tb = s.tb := rfl
@[simp] theorem State.setPins_bt (a b : Bool) : (s.setPins a b).bt = s.bt := rfl
@[simp] theorem State.setPins_load (a b : Bool) : (s.setPins a b).load = s.load := rfl
@[simp] theorem State.setPins_lm (a b : Bool) : (s.setPins a b).lm = s.lm := rfl
@[simp] theorem State.setPins_si (a b : Bool) : (s.setPins a b).si = s.si := rfl
@[simp] theorem State.setPins_ot (a b : Bool) : (s.setPins a b).ot = s.ot := rfl
@[simp] theorem State.setPins_al (a b : Bool) : (s.setPins a b).al = s.al := rfl
@[simp] theorem State.setPins_ad (a b : Bool) : (s.setPins a b).ad = s.ad := rfl
@[simp] theorem State.setPins_lbu (a b : Bool) : (s.setPins a b).lbu = s.lbu := rfl
@[simp] theorem State.setPins_os (a b : Bool) : (s.setPins a b).os = s.os := rfl
@[simp] theorem State.setPins_nq (a b : Bool) : (s.setPins a b).nq = s.nq := rfl
@[simp] theorem State.setPins_cs (a b : Bool) : (s.setPins a b).cs = s.cs := rfl
@[simp] theorem State.setPins_wp (a b : Bool) : (s.setPins a b).wp = s.wp := rfl
@[simp] theorem State.setPins_rl (a b : Bool) : (s.setPins a b).rl = s.rl := rfl
@[simp] theorem State.setPins_tenth (a b : Bool) : (s.setPins a b).tenth = s.tenth := rfl
@[simp] theorem State.setPins_reports (a b : Bool) : (s.setPins a b).reports = s.reports := rfl
@[simp] theorem State.setPins_pending (a b : Bool) : (s.setPins a b).pending = s.pending := rfl

/-! ### echoFrame -/

@[simp] theorem State.echoFrame_tb (bytes : List Byte) : (s.echoFrame bytes).tb = s.tb := rfl
@[simp] theorem State.echoFrame_bt (bytes : List Byte) : (s.echoFrame bytes).bt = s.bt := rfl
@[simp] theorem State.echoFrame_load (bytes : List Byte) : (s.echoFrame bytes).load = s.load := rfl
@[simp] theorem State.echoFrame_lm (bytes : List Byte) : (s.echoFrame bytes).lm = s.lm := rfl
@[simp] theorem State.echoFrame_si (bytes : List Byte) : (s.echoFrame bytes).si = s.si := rfl
@[simp] theorem State.echoFrame_ot (bytes : List Byte) : (s.echoFrame bytes).ot = s.ot := rfl
@[simp] theorem State.echoFrame_al (bytes : List Byte) : (s.echoFrame bytes).al = s.al := rfl
@[simp] theorem State.echoFrame_ad (bytes : List Byte) : (s.echoFrame bytes).ad = s.ad := rfl
@[simp] theorem State.echoFrame_lbu (bytes : List Byte) : (s.echoFrame bytes).lbu = s.lbu := rfl
@[simp] theorem State.echoFrame_os (bytes : List Byte) : (s.echoFrame bytes).os = s.os := rfl
@[simp] theorem State.echoFrame_nq (bytes : List Byte) : (s.echoFrame bytes).nq = s.nq := rfl
@[simp] theorem State.echoFrame_cs (bytes : List Byte) : (s.echoFrame bytes).cs = s.cs := rfl
@[simp] theorem State.echoFrame_wp (bytes : List Byte) : (s.echoFrame bytes).wp = s.wp := rfl
@[simp] theorem State.echoFrame_pins (bytes : List Byte) : (s.echoFrame bytes).pins = s.pins := rfl
@[simp] theorem State.echoFrame_tenth (bytes : List Byte) : (s.echoFrame bytes).tenth = s.tenth := rfl
@[simp] theorem State.echoFrame_reports (bytes : List Byte) : (s.echoFrame bytes).reports = s.reports := rfl
@[simp] theorem State.echoFrame_pending (bytes : List Byte) : (s.echoFrame bytes).pending = s.pending := rfl

/-! ### linkStore -/

@[simp] theorem State.linkStore_tb (b : Byte) (x : RlState) (f : List Byte) : (s.linkStore b x f).tb = s.tb := rfl
@[simp] theorem State.linkStore_bt (b : Byte) (x : RlState) (f : List Byte) : (s.linkStore b x f).bt = s.bt := rfl
@[simp] theorem State.linkStore_load (b : Byte) (x : RlState) (f : List Byte) : (s.linkStore b x f).load = s.load := rfl
@[simp] theorem State.linkStore_lm (b : Byte) (x : RlState) (f : List Byte) : (s.linkStore b x f).lm = s.lm := rfl
@[simp] theorem State.linkStore_si (b : Byte) (x : RlState) (f : List Byte) : (s.linkStore b x f).si = s.si := rfl
@[simp] theorem State.linkStore_ot (b : Byte) (x : RlState) (f : List Byte) : (s.linkStore b x f).ot = s.ot := rfl
@[simp] theorem State.linkStore_al (b : Byte) (x : RlState) (f : List Byte) : (s.linkStore b x f).al = s.al := rfl
@[simp] theorem State.linkStore_ad (b : Byte) (x : RlState) (f : List Byte) : (s.linkStore b x f).ad = s.ad := rfl
@[simp] theorem State.linkStore_lbu (b : Byte) (x : RlState) (f : List Byte) : (s.linkStore b x f).lbu = s.lbu := rfl
@[simp] theorem State.linkStore_os (b : Byte) (x : RlState) (f : List Byte) : (s.linkStore b x f).os = s.os := rfl
@[simp] theorem State.linkStore_nq (b : Byte) (x : RlState) (f : List Byte) : (s.linkStore b x f).nq = s.nq := rfl
@[simp] theorem State.linkStore_cs (b : Byte) (x : RlState) (f : List Byte) : (s.linkStore b x f).cs = s.cs := rfl
@[simp] theorem State.linkStore_wp (b : Byte) (x : RlState) (f : List Byte) : (s.linkStore b x f).wp = s.wp := rfl
@[simp] theorem State.linkStore_pins (b : Byte) (x : RlState) (f : List Byte) : (s.linkStore b x f).pins = s.pins := rfl
@[simp] theorem State.linkStore_tenth (b : Byte) (x : RlState) (f : List Byte) : (s.linkStore b x f).tenth = s.tenth := rfl
@[simp] theorem State.linkStore_reports (b : Byte) (x : RlState) (f : List Byte) : (s.linkStore b x f).reports = s.reports := rfl
@[simp] theorem State.linkStore_pending (b : Byte) (x : RlState) (f : List Byte) : (s.linkStore b x f).pending = s.pending := rfl

/-! ### linkIdle -/

@[simp] theorem State.linkIdle_tb (bytes : List Byte) (b : Bool) : (s.linkIdle bytes b).tb = s.tb := rfl
@[simp] theorem State.linkIdle_bt (bytes : List Byte) (b : Bool) : (s.linkIdle bytes b).bt = s.bt := rfl
@[simp] theorem State.linkIdle_load (bytes : List Byte) (b : Bool) : (s.linkIdle bytes b).load = s.load := rfl
@[simp] theorem State.linkIdle_lm (bytes : List Byte) (b : Bool) : (s.linkIdle bytes b).lm = s.lm := rfl
@[simp] theorem State.linkIdle_si (bytes : List Byte) (b : Bool) : (s.linkIdle bytes b).si = s.si := rfl
@[simp] theorem State.linkIdle_ot (bytes : List Byte) (b : Bool) : (s.linkIdle bytes b).ot = s.ot := rfl
@[simp] theorem State.linkIdle_al (bytes : List Byte) (b : Bool) : (s.linkIdle bytes b).al = s.al := rfl
@[simp] theorem State.linkIdle_ad (bytes : List Byte) (b : Bool) : (s.linkIdle bytes b).ad = s.ad := rfl
@[simp] theorem State.linkIdle_lbu (bytes : List Byte) (b : Bool) : (s.linkIdle bytes b).lbu = s.lbu := rfl
@[simp] theorem State.linkIdle_os (bytes : List Byte) (b : Bool) : (s.linkIdle bytes b).os = s.os := rfl
@[simp] theorem State.linkIdle_nq (bytes : List Byte) (b : Bool) : (s.linkIdle bytes b).nq = s.nq := rfl
@[simp] theorem State.linkIdle_cs (bytes : List Byte) (b : Bool) : (s.linkIdle bytes b).cs = s.cs := rfl
@[simp] theorem State.linkIdle_wp (bytes : List Byte) (b : Bool) : (s.linkIdle bytes b).wp = s.wp := rfl
@[simp] theorem State.linkIdle_pins (bytes : List Byte) (b : Bool) : (s.linkIdle bytes b).pins = s.pins := rfl
@[simp] theorem State.linkIdle_tenth (bytes : List Byte) (b : Bool) : (s.linkIdle bytes b).tenth = s.tenth := rfl
@[simp] theorem State.linkIdle_reports (bytes : List Byte) (b : Bool) : (s.linkIdle bytes b).reports = s.reports := rfl
@[simp] theorem State.linkIdle_pending (bytes : List Byte) (b : Bool) : (s.linkIdle bytes b).pending = s.pending := rfl

end Sys2Proof.Machine
end

