-- ==== Sys2Proof/Laws/Ops.lean ====
section
/-! SUPPORT. What each shared operation can do, said once: positions, byte strings, the order of the
table, looking up and writing entries, notices, the checks in order, the outputs, and the three wrappers
(request, event, panel frame). -/

namespace Sys2Proof

/-! ### One value for each position -/

@[simp] theorem Four.get_set_same {α : Type} (v : Four α) (i : Seg) (a : α) :
    (v.set i a).get i = a := by
  fin_cases i <;> rfl

theorem Four.get_set_other {α : Type} (v : Four α) {i j : Seg} (a : α) (h : j ≠ i) :
    (v.set i a).get j = v.get j := by
  fin_cases i <;> fin_cases j <;> first | rfl | exact absurd rfl h

theorem Four.set_get {α : Type} (v : Four α) (i : Seg) : v.set i (v.get i) = v := by
  fin_cases i <;> rfl

@[simp] theorem Four.get_all {α : Type} (a : α) (i : Seg) : (Four.all a).get i = a := by
  fin_cases i <;> rfl

@[simp] theorem Four.get_mapIdx {α β : Type} (f : Seg → α → β) (v : Four α) (i : Seg) :
    (v.mapIdx f).get i = f i (v.get i) := by
  fin_cases i <;> rfl

@[simp] theorem Three.get_set_same {α : Type} (v : Three α) (p : Part) (a : α) :
    (v.set p a).get p = a := by
  fin_cases p <;> rfl

theorem Three.get_set_other {α : Type} (v : Three α) {p q : Part} (a : α) (h : q ≠ p) :
    (v.set p a).get q = v.get q := by
  fin_cases p <;> fin_cases q <;> first | rfl | exact absurd rfl h

end Sys2Proof

namespace Sys2Proof.Machine

/-! ### Segment sets -/

theorem mem_segList {g : Segs} {i : Seg} : i ∈ segList g ↔ segHas g i = true := by
  fin_cases i <;> simp [segList, allSegs, List.mem_filter]

/-! ### Byte strings -/

@[simp] theorem be_length (k n : Nat) : (be k n).length = k := by
  induction k with
  | zero => rfl
  | succ k ih => simp [be, ih]

@[simp] theorem optBytes_length (k : Nat) (o : Option Nat) : (optBytes k o).length = k + 1 := by
  cases o <;> simp [optBytes]

@[simp] theorem optSegs_length (o : Option Segs) : (optSegs o).length = 3 := by
  cases o <;> simp [optSegs, segsBytes]

@[simp] theorem segsBytes_length (g : Segs) : (segsBytes g).length = 2 := by simp [segsBytes]

/-! ### Order of a list (R1) -/

theorem mem_insertBy {α : Type} (before : α → α → Bool) (a x : α) (l : List α) :
    x ∈ insertBy before a l ↔ x = a ∨ x ∈ l := by
  induction l with
  | nil => simp [insertBy]
  | cons b l ih =>
    simp only [insertBy]
    split
    · simp
    · simp only [List.mem_cons, ih]; tauto

theorem length_insertBy {α : Type} (before : α → α → Bool) (a : α) (l : List α) :
    (insertBy before a l).length = l.length + 1 := by
  induction l with
  | nil => rfl
  | cons b l ih =>
    simp only [insertBy]
    split
    · rfl
    · simp [ih]

theorem map_insertBy {α β : Type} (f : α → β) (ba : α → α → Bool) (bb : β → β → Bool)
    (h : ∀ x y, bb (f x) (f y) = ba x y) (a : α) (l : List α) :
    (insertBy ba a l).map f = insertBy bb (f a) (l.map f) := by
  induction l with
  | nil => rfl
  | cons b l ih =>
    simp only [insertBy, List.map_cons, h]
    split
    · rfl
    · simp [ih]

theorem map_fix_insertEntry (e : Entry) (t : List Entry) :
    (insertEntry e t).map (·.fix) = insertFixed e.fix (t.map (·.fix)) :=
  map_insertBy (·.fix) _ fixedBefore (fun _ _ => rfl) e t

/-- Joining a list sorted by a relation keeps it sorted, where the newcomer relates one way or the
other to every item. -/
theorem pairwise_insertBy {α : Type} (before : α → α → Bool) (r : α → α → Prop) (a : α) (l : List α)
    (trans : ∀ x y z, r x y → r y z → r x z)
    (fore : ∀ x ∈ l, before a x = true → r a x) (aft : ∀ x ∈ l, before a x = false → r x a)
    (h : l.Pairwise r) : (insertBy before a l).Pairwise r := by
  induction l with
  | nil => simp [insertBy]
  | cons b l ih =>
    obtain ⟨hb, hl⟩ := List.pairwise_cons.mp h
    simp only [insertBy]
    split
    · rename_i hab
      refine List.pairwise_cons.mpr ⟨?_, h⟩
      intro x hx
      rcases List.mem_cons.mp hx with rfl | hx
      · exact fore _ (by simp) hab
      · exact trans _ _ _ (fore b (by simp) hab) (hb x hx)
    · rename_i hab
      refine List.pairwise_cons.mpr ⟨?_, ih (fun x hx => fore x (by simp [hx]))
        (fun x hx => aft x (by simp [hx])) hl⟩
      intro x hx
      rcases (mem_insertBy _ _ _ _).mp hx with rfl | hx
      · exact aft b (by simp) (by simpa using hab)
      · exact hb x hx

/-- A symmetric relation over the items is kept by joining, wherever the newcomer goes. -/
theorem pairwise_insertBy_symm {α : Type} (before : α → α → Bool) (r : α → α → Prop) (a : α)
    (l : List α) (symm : ∀ x y, r x y → r y x) (new : ∀ x ∈ l, r a x) (h : l.Pairwise r) :
    (insertBy before a l).Pairwise r := by
  induction l with
  | nil => simp [insertBy]
  | cons b l ih =>
    obtain ⟨hb, hl⟩ := List.pairwise_cons.mp h
    simp only [insertBy]
    split
    · exact List.pairwise_cons.mpr ⟨new, h⟩
    · refine List.pairwise_cons.mpr ⟨?_, ih (fun x hx => new x (by simp [hx])) hl⟩
      intro x hx
      rcases (mem_insertBy _ _ _ _).mp hx with rfl | hx
      · exact symm _ _ (new b (by simp))
      · exact hb x hx

/-! ### Looking an entry up -/

theorem State.entry?_mem {s : State} {ref : Nat} {e : Entry} (h : s.entry? ref = some e) :
    e ∈ s.bt.table ∧ e.fix.ref = ref :=
  ⟨List.mem_of_find?_eq_some h, by simpa using List.find?_some h⟩

theorem State.entry?_none {s : State} {ref : Nat} :
    s.entry? ref = none ↔ ∀ e ∈ s.bt.table, e.fix.ref ≠ ref := by
  simp [State.entry?, List.find?_eq_none]

theorem State.entry?_of_mem {s : State} (hu : s.UniqueRefs) {e : Entry} (h : e ∈ s.bt.table) :
    s.entry? e.fix.ref = some e := by
  cases hf : s.entry? e.fix.ref with
  | none => exact absurd rfl (State.entry?_none.mp hf e h)
  | some x =>
    obtain ⟨hx, hr⟩ := State.entry?_mem hf
    have := List.inj_on_of_nodup_map hu hx h hr
    simp [this]

/-! ### Writing the table -/

theorem State.setTable_storedImage (s : State) (t : List Entry) : (s.setTable t).StoredImage := rfl

theorem State.mapVolatile_fixes (s : State) (ref : Nat) (f : Volatile → Volatile) :
    (s.mapVolatile ref f).bt.table.map (·.fix) = s.bt.table.map (·.fix) := by
  simp only [State.mapVolatile, List.map_map]
  refine List.map_congr_left fun e _ => ?_
  simp only [Function.comp]
  split <;> rfl

theorem State.mapEveryVolatile_fixes (s : State) (f : Entry → Volatile) :
    (s.mapEveryVolatile f).bt.table.map (·.fix) = s.bt.table.map (·.fix) := by
  simp only [State.mapEveryVolatile, List.map_map]
  rfl

theorem State.dropEntry_table (s : State) (ref : Nat) :
    (s.dropEntry ref).bt.table = s.bt.table.filter fun e => e.fix.ref != ref := rfl

/-- What every treatment of one entry keeps, a treatment of several entries keeps. -/
theorem State.forEntries_keeps (p : State → Prop) (f : Entry → State → State)
    (h : ∀ e s, p s → p (f e s)) (refs : List Nat) (s : State) (hs : p s) :
    p (State.forEntries refs f s) := by
  unfold State.forEntries
  induction refs generalizing s with
  | nil => exact hs
  | cons r refs ih =>
    simp only [List.foldl_cons]
    apply ih
    split
    · exact h _ _ hs
    · exact hs

theorem foldl_keeps {α β : Type} (p : α → Prop) (f : α → β → α) (h : ∀ a b, p a → p (f a b))
    (l : List β) (a : α) (ha : p a) : p (l.foldl f a) := by
  induction l generalizing a with
  | nil => exact ha
  | cons b l ih => exact ih _ (h _ _ ha)

/-! ### Notices -/

theorem State.notify_mem (s : State) (n : Notice) :
    ⟨s.nq.counter, s.stampMinute, n⟩ ∈ (s.notify n).nq.list := by
  simp [State.notify]

theorem State.notify_getLast (s : State) (n : Notice) :
    (s.notify n).nq.list.getLast? = some ⟨s.nq.counter, s.stampMinute, n⟩ := by
  simp [State.notify]

theorem State.notify_ne_nil (s : State) (n : Notice) : (s.notify n).nq.list ≠ [] := by
  simp [State.notify]

/-! ### Checks in order -/

@[simp] theorem judged_nil (s : State) (act : State → Answered) : judged s [] act = act s := rfl

theorem judged_fail {s : State} {r : Reason} {rest : List (Bool × Reason)} {act : State → Answered}
    (hr : r ≠ .ok) : judged s ((true, r) :: rest) act = refuse s r := by
  simp only [judged, firstFault]
  cases r <;> first | rfl | exact absurd rfl hr

@[simp] theorem judged_pass (s : State) (r : Reason) (rest : List (Bool × Reason))
    (act : State → Answered) : judged s ((false, r) :: rest) act = judged s rest act := rfl

/-! ### Outputs -/

/-- The outputs are a function of AL, AD, LBU and the records in effect alone. -/
theorem State.drive_os_congr {s t : State} (hal : t.al.loops = s.al.loops)
    (had : t.ad.targets = s.ad.targets) (hlbu : t.lbu.segs = s.lbu.segs)
    (hcs : t.cs.effective = s.cs.effective) : t.drive.os = s.drive.os := by
  have h : ∀ i, t.outsOf i = s.outsOf i := by
    intro i
    unfold State.outsOf State.configured State.segCount State.reheatOf
    rw [hal, had, hlbu, hcs]
  simp only [State.drive, h]

theorem State.os_of_follow {s : State} (ha : s.alive = true) (ho : s.OutputsFollow) :
    s.drive.os = s.os := by
  simpa [State.OutputsFollow, ha] using ho.symm

theorem State.drive_of_follow {s : State} (ha : s.alive = true) (ho : s.OutputsFollow) :
    s.drive = s := by
  have h := State.os_of_follow ha ho
  show ({ s with os := s.drive.os } : State) = s
  rw [h]

@[simp] theorem State.drive_drive (s : State) : s.drive.drive = s.drive := rfl

/-! ### The three wrappers -/

theorem State.request_taken {s : State} (h : s.TakesRequest) (code : Nat) (act : State → Answered) :
    s.request code act = (putReply code (act (s.hold code))).drive := by
  simp [State.request, h.1, h.2]

theorem State.request_skipped {s : State} (h : ¬ s.TakesRequest) (code : Nat)
    (act : State → Answered) : s.request code act = s := by
  have : (s.alive && s.wp.held.isNone) = false := by
    cases ha : s.alive <;> cases hh : s.wp.held <;> simp_all [State.TakesRequest]
  simp [State.request, this]

/-- A request whose owner touches no figure that is driven: the owner's state with the reply. -/
theorem State.request_replied {s u : State} (h : s.TakesRequest) (ho : s.OutputsFollow) {code : Nat}
    {act : State → Answered} {r : Reason} {payload : List Byte}
    (ha : act (s.hold code) = (u.hold code, r, payload)) (hos : u.os = s.os)
    (hd : u.drive.os = s.drive.os) : s.request code act = u.replied code r payload := by
  rw [State.request_taken h, ha]
  show ({ putReply code (u.hold code, r, payload) with os := u.drive.os } : State) = _
  rw [hd, State.os_of_follow h.1 ho, ← hos]
  rfl

theorem State.event_taken {s : State} (h : s.alive = true) (c : Instr) (act : State → State) :
    s.event c act = (act (s.take c)).drive := by simp [State.event, h]

theorem State.event_skipped {s : State} (h : s.alive = false) (c : Instr) (act : State → State) :
    s.event c act = s := by simp [State.event, h]

/-- An event that touches no figure that is driven. -/
theorem State.event_undriven {s : State} (h : s.alive = true) (ho : s.OutputsFollow) {c : Instr}
    {act : State → State} (hos : (act (s.take c)).os = s.os)
    (hd : (act (s.take c)).drive.os = s.drive.os) : s.event c act = act (s.take c) := by
  rw [State.event_taken h]
  show ({ act (s.take c) with os := (act (s.take c)).drive.os } : State) = _
  rw [hd, State.os_of_follow h ho, ← hos]

theorem State.panel_taken {s : State} {i : Seg} (h : s.TakesPanel i) (bytes : List Byte)
    (act : State → Answered) :
    s.panel i bytes act = (linkReply (act ((s.echoFrame bytes).presence i))).drive := by
  have hc : (s.echoFrame bytes).configured i = true := h.2
  simp [State.panel, h.1.1, h.1.2, hc]

theorem State.panel_unconfigured {s : State} {i : Seg} (h : s.Hears)
    (hc : s.configured i = false) (bytes : List Byte)
    (act : State → Answered) : s.panel i bytes act = s.panelReplied bytes .noSegment [] := by
  have hc' : (s.echoFrame bytes).configured i = false := hc
  have hb : (s.alive && s.rl.state != .reply) = true := by simp [h.1, h.2]
  unfold State.panel
  rw [if_pos hb]
  simp only [hc', Bool.false_eq_true, if_false]
  rfl

theorem State.panel_skipped {s : State} (h : ¬ s.Hears) (i : Seg)
    (bytes : List Byte) (act : State → Answered) : s.panel i bytes act = s := by
  have hb : (s.alive && s.rl.state != .reply) = false := by
    cases ha : s.alive <;> simp_all [State.Hears]
  simp [State.panel, hb]

/-! ### The byte table of the room link (R181) -/

/-- Outside REPLY and the echo of a break RL takes a byte: IDLE begins a frame at an address byte. -/
theorem State.linkByte_idle {s : State} (h : s.hears = true) (hi : s.rl.state = .idle) (b : Byte) :
    s.linkByte b =
      if isPanelAddress b then s.linkStore b .receive [b] else s.linkStore b .idle [] := by
  simp [State.linkByte, h, hi]

theorem State.linkByte_receive {s : State} (h : s.hears = true) (hr : s.rl.state = .receive)
    (b : Byte) : s.linkByte b = s.linkJoin b := by
  simp [State.linkByte, h, hr]

theorem State.linkByte_deaf {s : State} (h : s.hears = false) (b : Byte) : s.linkByte b = s := by
  simp [State.linkByte, h]

theorem State.linkBytes_deaf {s : State} (h : s.hears = false) (bytes : List Byte) :
    s.linkBytes bytes = s := by
  simp [State.linkBytes, h]

/-- A row's last byte is the one that discards (R181). -/
theorem State.discardFrame_append (s : State) (bytes : List Byte) (b : Byte) :
    s.discardFrame (bytes ++ [b]) = (s.linkBytes bytes).spoiltByte b := by
  simp [State.discardFrame]

theorem State.spoiltByte_deaf {s : State} (h : s.hears = false) (b : Byte) : s.spoiltByte b = s := by
  simp [State.spoiltByte, h]

/-! ### The substitution map (R96) -/

/-- A map formed anew moves SI's two maps and the reports, and no sensor. -/
theorem State.remapNamed_frame (s : State) (named : List Segs) :
    s.remapNamed named = { s with
      si := { s.si with
        presenceSource := (s.remapNamed named).si.presenceSource
        daylightSource := (s.remapNamed named).si.daylightSource }
      reports := (s.remapNamed named).reports } := rfl

/-- The source the model finds is that of R96. -/
theorem State.sourceOf_eq (s : State) (named : List Segs) (k : SensorKind) (i : Seg) :
    s.sourceOf named k i = s.sourceBy named k i := by
  cases h1 : s.configured i <;> cases h2 : s.sensorOk i k <;>
    simp [State.sourceOf, State.sourceBy, State.groupNamed, h1, h2]
  cases named.find? (fun g => segHas g i) <;> cases s.groupOf? i.val <;> simp

/-! ### Readiness (R35, R37) -/

theorem State.makeReady_rates (s : State) (e : Entry) :
    (s.makeReady e).bt.rates = s.ratesAfter s.bt.rates e := by
  by_cases h : s.mayLearn e = true
  · have h' : s.updatesRates e = true := h
    simp only [State.makeReady, State.ratesAfter, h, h']
    simp [State.learn, learnedRate, clampNat, State.minutesPrepared, State.mapVolatile, State.notify,
      State.raise, State.now]
  · have h' : ¬ s.updatesRates e = true := h
    simp only [State.makeReady, State.ratesAfter, h, h']
    rfl

theorem State.makeReady_nq (s : State) (e : Entry) :
    (s.makeReady e).nq = (s.notify (s.readyNotice e)).nq := by
  simp only [State.makeReady, State.readyNotice, show s.updatesRates e = s.mayLearn e from rfl]
  split <;> rfl

/-! ### Loops (R110, R111, R128, R129) -/

theorem State.activeSetpoint_eq (s : State) (l : Loop) : s.activeSetpoint l = s.setpointFor l := by
  cases h : l.level <;> simp [State.activeSetpoint, State.setpointFor, h] <;> rfl

/-- An evaluation and a change of mode leave a record its group. -/
@[simp] theorem State.evaluate_segs (s : State) (l : Loop) : (s.evaluate l).segs = l.segs := by
  unfold State.evaluate
  split
  · split <;> rfl
  · rfl

/-- All that a judgement between minutes makes of a loop's record. -/
theorem State.reconcile_fst (s : State) (l : Loop) : (s.reconcile l).1 = s.loopFollowing l := by
  by_cases h : s.inRun = false ∨ s.al.awaitsExit = true
  · simp only [State.reconcile, State.loopFollowing, h, if_true]
    rcases h with h | h <;> simp [h]
  · have h1 : s.inRun = true ∧ s.al.awaitsExit = false := by simpa using h
    simp only [State.reconcile, State.loopFollowing, h1, State.serves, State.activeSetpoint_eq]
    cases hl : l.level <;> cases hw : s.alWalkIn l.segs <;> cases hp : s.setpointFor l <;>
      cases hm : l.mode <;>
      simp [park, acquire, zeroCounts, hl, apply_ite Prod.fst]

@[simp] theorem State.loopFollowing_segs (s : State) (l : Loop) :
    (s.loopFollowing l).segs = l.segs := by
  unfold State.loopFollowing
  split
  · rfl
  · split
    · split <;> simp
    · split
      · rfl
      · split <;> simp

/-- In SERVICE, and after it until LM's exit report, nothing moves a loop. -/
theorem State.reconcile_still {s : State} (h : s.inRun = false ∨ s.al.awaitsExit = true) (l : Loop) :
    s.reconcile l = (l, false) := by
  rcases h with h | h <;> simp [State.reconcile, h]

/-! ### The division of air (R131, R138) -/

/-- As SERVICE ends every record of AD has the Q_max of the figures now in effect (R131). -/
theorem State.adLeave_qmax (s : State) (n : Nat) :
    ∀ g ∈ (s.adLeave n).ad.groups, g.qmax = s.maxOf g.segs := by
  simp [State.adLeave]

theorem State.spareOf_le (s : State) (spare range : Nat) (i : Seg) :
    s.spareOf spare range i ≤ (s.segRec i).airMax - (s.segRec i).airMin :=
  Nat.min_le_left _ _

/-- The notices of a shortage judgement (R140). -/
theorem judgeShort_notices (grant : Nat) (g : AdGroup) :
    (judgeShort grant g).2 = airNotices grant g.short g := by
  by_cases h : g.alloc < g.qvent <;> cases hs : g.short <;> simp [judgeShort, airNotices, h, hs]

/-! ### Lights and blinds (R150, R157) -/

theorem State.mapLbuSeg_other (s : State) {i j : Seg} (h : j ≠ i) (f : LbuSeg → LbuSeg) :
    (s.mapLbuSeg i f).lbu.segs.get j = s.lbu.segs.get j := Four.get_set_other _ _ h

/-- A segment's rows formed anew touch no other segment. -/
theorem State.formRows_other (s : State) (g : LbuGroup) {i j : Seg} (h : j ≠ i) :
    (s.formRows g i).lbu.segs.get j = s.lbu.segs.get j := by
  unfold State.formRows
  split
  · split
    · exact s.mapLbuSeg_other h _
    · rfl
  · rfl

/-- A blind resolved afresh touches no other segment. -/
theorem State.resolveBlind_other (s : State) {i j : Seg} (h : j ≠ i) :
    (s.resolveBlind i).lbu.segs.get j = s.lbu.segs.get j := by
  unfold State.resolveBlind
  split
  · split
    · exact s.mapLbuSeg_other h _
    · rfl
  · rfl


/-- A resolution sets base and kept base; a target the blind already has changes nothing else. -/
theorem setTarget_same (b : Blind) (a : Aim) (h : a.target = b.target) :
    setTarget b a = { b with base := a.base, keptBase := a.kept } := by
  simp [setTarget, h]

end Sys2Proof.Machine
end

