-- ==== Sys2Proof/Tests/Slice0.lean ====
section
/-! SUPPORT. Tests: ill-formed commands that the checks refuse, small tests with figures of the spec's
worked examples, and for every obligation with hypotheses a state and operands that meet them. -/

open Sys2Proof Sys2Proof.Machine

namespace Sys2Proof.Tests

/-! ### States and entries -/

/-- The part as shipped, the clock valid at a minute. -/
def clocked (m : Nat) : State := { State.reset with tb := ⟨m, 0, true, 0, false⟩ }

def inService (s : State) : State := { s with cs := { s.cs with mode := .service } }

/-- A suite of four segments with seats 48, 36, 36 and 24 (the suite of the worked examples), airflow
bounds as in section 7.7. -/
def fourSegments : Commission :=
  let seg (seats area low high : Nat) : SegmentRec :=
    { SegmentRec.factory with seats := seats, area := area, airMin := low, airMax := high }
  { Commission.factory with
    suite := { SuiteRec.factory with segmentCount := 4 }
    segments := ⟨seg 48 50 120 700, seg 36 90 150 900, seg 36 60 100 600, seg 24 50 80 500⟩ }

def big (s : State) : State :=
  { s with cs := { s.cs with effective := fourSegments } }

/-- The outputs brought up to the figures. -/
def driven (s : State) : State := s.drive

def fixed (ref start stop first span : Nat) : Fixed :=
  ⟨ref, start, stop, first, span, .lecture, 20, none, none, none, false, false⟩

def plannedAt (f : Fixed) : Entry := ⟨f, Volatile.planned⟩

def entryIn (x : EntryState) (f : Fixed) : Entry :=
  ⟨f, { Volatile.planned with
    state := x, liveSetpoint := some 210, currentScene := some 1, prepStart := some 580
    initialError := some 23, stamp := some ⟨0, 1⟩, actualStart := some f.start
    startCause := some .schedule, presence := some false, occupiedMinutes := some 0 }⟩

def wire (ref start stop first span kind : Nat) : FixedWire :=
  ⟨ref, start, stop, first, span, kind, 80, false, false, none, none, none⟩

def keepAll (ref : Nat) : ChangeWire :=
  ⟨ref, .keep, .keep, .keep, .keep, .keep, .keep, .keep, .keep, .keep, .keep, .keep⟩

/-- The group {0} of the shipped part at a level with a governing entry, in LM's record. -/
def governed (s : State) (ref : Option Nat) (level : Level) : State :=
  { s with lm := { s.lm with groups := [⟨⟨0, 1⟩, ref, level, [], 0⟩] } }

/-- OT's record of the group {0} with a walk-in record. -/
def walked (s : State) : State :=
  { s with ot := { s.ot with groups := [⟨⟨0, 1⟩, .none, true, some ⟨5, some 0, 220⟩⟩] } }

def partition0 (r : Partition) (s : State) : State :=
  { s with lm := { s.lm with parts := s.lm.parts.set 0 r } }

def withBlind (b : Blind) (s : State) : State := s.mapBlind 0 fun _ => b

def blindIn (m : Motion) (driveUp : Option Nat) : Blind :=
  ⟨500, 0, 0, none, none, m, .up, 29, 0, 40, 1000, 300, some 0, driveUp⟩

/-- The state that a command leaves. -/
def after (c : Instr) (s : State) : State :=
  match exec c s with
  | .next t => t
  | _ => s

/-- The state that a step leaves. -/
def step' (s : State) : State :=
  match step s with
  | .next t => t
  | _ => s

/-- The reply of WP that waits. -/
def wingReason (s : State) : Option Reason := s.wp.reply.map (·.reason)
def linkReason (s : State) : Option Reason := s.rl.reply.map (·.reason)

/-! ### Ill-formed commands -/

def illFormed : List Instr :=
  [.timeSet false (.fields (4294967296, 0)), .timeSet true (.fields (0, 256)),
    .timeSet false (.wrongLength 5), .timeSet false (.wrongLength 121),
    .bookAdd (.fields (wire 4294967296 0 10 0 1 1)), .bookAdd (.fields (wire 1 4294967296 10 0 1 1)),
    .bookAdd (.fields (wire 1 0 4294967296 0 1 1)), .bookAdd (.fields (wire 1 0 10 256 1 1)),
    .bookAdd (.fields (wire 1 0 10 0 256 1)), .bookAdd (.fields (wire 1 0 10 0 1 256)),
    .bookAdd (.fields { wire 1 0 10 0 1 1 with headcount := 65536 }),
    .bookAdd (.fields { wire 1 0 10 0 1 1 with scene := some 256 }),
    .bookAdd (.fields { wire 1 0 10 0 1 1 with setpoint := some 32768 }),
    .bookAdd (.fields { wire 1 0 10 0 1 1 with lead := some 256 }), .bookAdd (.wrongLength 26),
    .loadEntry (.fields (wire 4294967296 0 10 0 1 1)), .loadEntry (.wrongLength 26)]

def illFormedChanges : List Instr :=
  [.bookChange (.fields (keepAll 4294967296)), .bookChange (.wrongLength 34),
    .bookChange (.fields { keepAll 1 with start := .set 4294967296 }),
    .bookChange (.fields { keepAll 1 with stop := .bad 2 }),
    .bookChange (.fields { keepAll 1 with first := .set 256 }),
    .bookChange (.fields { keepAll 1 with span := .set 256 }),
    .bookChange (.fields { keepAll 1 with kind := .set 256 }),
    .bookChange (.fields { keepAll 1 with headcount := .set 65536 }),
    .bookChange (.fields { keepAll 1 with held := .bad 1 }),
    .bookChange (.fields { keepAll 1 with exempt := .bad 256 }),
    .bookChange (.fields { keepAll 1 with scene := .set 256 }),
    .bookChange (.fields { keepAll 1 with setpoint := .set (-32769) }),
    .bookChange (.fields { keepAll 1 with lead := .set 256 })]

def illFormedRequests : List Instr :=
  [.bookCancel (.fields (4294967296, false)), .bookCancel (.wrongLength 5),
    .bookFind (.fields 4294967296), .bookFind (.wrongLength 4), .bookFirst (.fields 4294967296),
    .bookFirst (.wrongLength 4), .bookNext (.wrongLength 0), .loadOpen (.fields (4294967296, 0)),
    .loadOpen (.fields (0, 4294967296)), .loadOpen (.wrongLength 8), .loadClose (.wrongLength 0),
    .loadAbort (.wrongLength 0), .suiteRead (.wrongLength 0), .noticeTake (.wrongLength 0),
    .demandRead (.wrongLength 0), .grant (.fields 65536), .grant (.wrongLength 2),
    .modeSetService (.wrongLength 2), .modeSetRun (.wrongLength 2), .modeSetLock (.wrongLength 2),
    .modeSetLock (.fields (1, false)), .modeSetLock (.fields (256, false)),
    .commissionRead (.fields 256), .commissionRead (.wrongLength 1),
    .commissionWrite (.wrongLength 9), .commissionWrite (.fields (256, [0, 0, 0, 0])),
    .commissionWrite (.fields (5, [0, 0, 0])),
    .commissionWrite (.fields (0, List.replicate 20 0)),
    .commissionWrite (.fields (5, [65536, 0, 0, 0])), .restart (.wrongLength 0),
    .unknownFunction 128, .unknownFunction 0x10]

def illFormedEvents : List Instr :=
  [.wingFrameDropped (List.replicate 126 0), .wingGapTimeout (List.replicate 126 0),
    .panelExtend 0 256, .panelHeadcount 0 65536, .panelAdjust 0 128, .panelAdjust 0 (-129),
    .panelScene 0 256, .blindTarget 0 1 0, .blindTarget 0 2 0, .blindTarget 0 256 0,
    .blindTarget 0 0 65536, .blindStop 0 65536, .blindAuto 0 65536,
    .sensorAnswer 0 ⟨true, false, 210, false, 500, false, 65536, false⟩,
    .occupancyReport .ot ⟨0, 1⟩ true none, .occupancyReport .al ⟨0, 0⟩ true none,
    .entryStateChange 1 ⟨3, 2⟩ false, .governingChange .si ⟨0, 1⟩ none .none,
    .governingChange .al ⟨0, 5⟩ none .none, .settledReport ⟨4, 1⟩, .lostSettledReport ⟨0, 0⟩,
    .regroupReport .al [⟨0, 0⟩] [], .regroupReport .al [] [GroupRec.initial ⟨4, 1⟩],
    .regroupReport .al [] [⟨⟨0, 1⟩, none, .none, [⟨1, ⟨0, 0⟩, 0⟩], 0⟩],
    .exitReport .si [GroupRec.initial ⟨0, 0⟩], .demandUpdate [⟨⟨0, 0⟩, 100, 100, 0⟩],
    .demandUpdate [⟨⟨0, 1⟩, 99, 100, 0⟩], .headcountChange 1 ⟨0, 0⟩,
    .sessionEndOverrides 1 [⟨0, 0⟩], .daylightValue 0 65536, .lineBreak (List.replicate 10 0),
    .linkGapTimeout (List.replicate 10 0), .linkFrameDiscarded (List.replicate 10 0),
    .linkFrameDiscarded [],
    .panelFrameRefused 0 256 [], .panelFrameRefused 0 12 (List.replicate 7 0)]

theorem test_wf_refuses_entry_fields : illFormed.all (fun c => !c.wf) = true := by decide
theorem test_wf_refuses_change_fields : illFormedChanges.all (fun c => !c.wf) = true := by decide
theorem test_wf_refuses_request_fields : illFormedRequests.all (fun c => !c.wf) = true := by
  decide +kernel
theorem test_wf_refuses_event_fields : illFormedEvents.all (fun c => !c.wf) = true := by
  decide +kernel

theorem test_wf_accepts :
    (Instr.bookAdd (.fields (wire 1001 600 690 0 2 1))).wf = true ∧
    (Instr.modeSetLock (.fields (2, true))).wf = true ∧
    (Instr.panelAdjust 0 (-128)).wf = true ∧
    (Instr.commissionWrite (.wrongLength 10)).wf = true ∧
    (Instr.demandUpdate [⟨⟨0, 1⟩, 100, 100, 0⟩]).wf = true := by decide

/-- No row of the table has bits, so no word spells a command. -/
theorem test_no_word_spells_a_command :
    decodeTableWord 16 0x10 = none ∧ State.reset.withFetchWord 16 0x10 = State.reset := by decide

/-! ### Figures of the worked examples -/

/-- Section 4.4: HEADCOUNT 100 over the groups {0, 1}, {2} and {3}. -/
theorem test_shares_of_section_4_4 :
    let e := { entryIn .inSession (fixed 5001 600 690 0 4) with
      vol := { Volatile.planned with state := .inSession, panelHeadcount := some 100 } }
    let groups : List Segs := [⟨0, 2⟩, ⟨2, 1⟩, ⟨3, 1⟩]
    groups.map (shareOf fourSegments groups e) = [59, 25, 16] ∧
    [(⟨0, 3⟩ : Segs), ⟨3, 1⟩].map (shareOf fourSegments [⟨0, 3⟩, ⟨3, 1⟩] e) = [84, 16] := by decide

def groupsOf77 : List AdGroup :=
  [⟨⟨0, 1⟩, 120, 120, 0, 700, 0, false⟩, ⟨⟨1, 2⟩, 1303, 250, 745, 1500, 0, false⟩,
    ⟨⟨3, 1⟩, 130, 80, 65, 500, 0, false⟩]

/-- Section 7.7: granted totals and allocations under the grants of the case. -/
theorem test_division_of_section_7_7 :
    [1000, 700, 400, 200, 0].map (grantedTotal 1553 450) = [1553, 1087, 621, 450, 450] ∧
    allocations 1087 groupsOf77 = [120, 859, 108] ∧
    allocations 621 groupsOf77 = [120, 414, 87] ∧
    allocations 450 groupsOf77 = [120, 250, 80] := by decide

/-- Section 7.7: the segment targets of group {1, 2} at 859 and at 414. -/
theorem test_split_of_section_7_7 :
    (big State.reset).splitGroup ⟨⟨1, 2⟩, 1303, 250, 745, 1500, 859, false⟩ = [(1, 516), (2, 343)] ∧
    (big State.reset).splitGroup ⟨⟨1, 2⟩, 1303, 250, 745, 1500, 414, false⟩ = [(1, 249), (2, 165)] := by
  decide

/-- Section 6.4: means, the CO2 trim and the errors of the minute. -/
theorem test_figures_of_section_6_4 :
    meanTemp? [231, 226] = some 229 ∧ meanTemp? [182] = some 182 ∧
    co2Trim 1000 745 [950, 910] = 558 ∧ co2Trim 1000 65 [1000] = 65 ∧ co2Trim 1000 65 [] = 13 ∧
    coolingError 5 (some 14) = 9 ∧ heatingError 5 (some (-23)) = 18 := by decide

/-- Section 8.9: the rows a second into a fade of 2 seconds, and the window targets by daylight. -/
theorem test_rows_of_section_8_9 :
    fadeLevel 600 0 2 10 = 300 ∧ fadeLevel 400 0 2 10 = 200 ∧ fadeLevel 700 200 2 10 = 450 ∧
    windowTarget SuiteRec.factory factoryScene0 (some 800) = 600 ∧
    windowTarget SuiteRec.factory factoryScene0 (some 2400) = 400 := by decide

/-- Section 8.10: places of runs with a full travel of 40 seconds. -/
theorem test_runs_of_section_8_10 :
    runPlace 0 1000 400 40 = 1000 ∧ runPlace 1000 0 200 40 = 500 ∧ runPlace 0 1000 20 40 = 50 := by
  decide

/-- R37: the rate of a segment that is not configured is kept unread. -/
theorem test_rate_of_an_unconfigured_segment_unread :
    ({ State.reset with bt := { State.reset.bt with rates := ⟨12, 60, 60, 60⟩ } } : State).largestRate
      ⟨0, 2⟩ = 12 := by decide

/-- Section 2.8: the rates after READY at minute 531. -/
theorem test_rates_of_section_2_8 : learnedRate 12 12 = 12 ∧ learnedRate 9 12 = 10 := by decide

/-- The catalogue's check value of the CRC that R169 describes: 0x29B1 over the digits 1 to 9. -/
theorem test_crc_check_value :
    crc16 [0x31, 0x32, 0x33, 0x34, 0x35, 0x36, 0x37, 0x38, 0x39] = 0x29B1 := by
  decide +kernel

/-- Section 1.10: the table with its three entries, and the four refusals. -/
def morning : State :=
  (driven (big (clocked 540))).withTable
    [plannedAt (fixed 1001 600 690 0 2), plannedAt (fixed 1003 600 690 2 2),
      plannedAt (fixed 1002 690 780 0 4)]

theorem test_refusals_of_section_1_10 :
    [wire 1004 660 720 1 2 1, wire 1002 800 860 3 1 1, wire 4294901760 800 860 3 1 1,
      wire 1006 800 860 3 2 1].map (fun w => wingReason (after (.bookAdd (.fields w)) morning)) =
    [some .overlap, some .duplicate, some .outOfRange, some .noSegment] := by decide

/-- Section 1.10, step 8: 1005 is accepted and its headcount clamped to the 24 seats. -/
theorem test_book_add_of_section_1_10 :
    let t := after (.bookAdd (.fields (wire 1005 800 860 3 1 1))) morning
    wingReason t = some .ok ∧ (t.entry? 1005).map (·.fix.headcount) = some 24 ∧
    t.bt.table.map (·.fix.ref) = [1001, 1003, 1002, 1005] := by decide

/-- Section 9.3: a queue that overflows keeps the newest 32 and marks it. -/
theorem test_queue_of_section_9_3 :
    let full : State := { State.reset with
      nq := ⟨(List.range 32).map fun k => ⟨40 + k, 0, .notReady 1 .unsettled⟩, false, 72⟩ }
    let t := (full.notify (.notReady 1 .changed)).notify (.notReady 2 .changed)
    t.nq.list.length = 32 ∧ t.nq.list.head?.map (·.counter) = some 42 ∧
    t.nq.list.getLast?.map (·.counter) = some 73 ∧ t.nq.overflow = true ∧ t.nq.counter = 74 := by
  decide

/-- R190: every entry to SERVICE is refused with the line released, and accepted with it asserted. -/
theorem test_service_entry_needs_the_line :
    wingReason (after (.modeSetService (.fields false)) State.reset) = some .wrongMode ∧
    wingReason (after (.modeSetService (.fields false)) (after .serviceLineAssert State.reset))
      = some .ok := by decide

/-- R193: after a reset pulse of 1 ms the queue holds RESTARTED with cause LINE alone. -/
theorem test_reset_line_restarts :
    (after (.resetLineRelease 1000) (after .resetLineAssert (clocked 540))).nq.list =
      [⟨0, 0, .restarted .line⟩] := by decide

/-- R183: a panel frame of a wrong length is answered BAD_LENGTH, and the press has been made. -/
theorem test_wrong_length_presses :
    let t := after (.panelFrameRefused 0 4 [0x1E]) State.reset
    linkReason t = some .badLength ∧ (t.ot.segs.get 0).vacancy = some ⟨5, 6000⟩ := by decide

/-- R188, R189: a suite record of four segments waits in SERVICE and is in effect after the exit. -/
theorem test_commission_write_waits_for_the_exit :
    let values := (Record.suite fourSegments.suite).values
    let t := after (.commissionWrite (.fields (0, values))) (inService (clocked 540))
    let u := after (.modeSetRun (.fields false)) (after .wingReplyEnd t)
    t.cs.pending.length = 1 ∧ t.segCount = 1 ∧ t.RecordsFit ∧ u.segCount = 4 ∧ u.RecordsFit := by
  decide +kernel

/-- R169: a false SYNC in front of a frame lost to a gap does not hide the request behind it. -/
theorem test_false_sync_before_a_gap :
    let f : Frame := ⟨62, 0x30, []⟩
    let lost := [byteOf 0x7E, byteOf 0x7E] ++ requestBytes f
    wingReason (after (.wingGapTimeout lost) State.reset) = some .ok := by decide +kernel

/-- R182: bytes that arrive while RL echoes a break are discarded; section 10.5: the panel's next whole
frame is taken. -/
theorem test_break_echo_discards :
    let s := after (.lineBreak [byteOf 0xA0]) State.reset
    (after (.linkFrameDiscarded (frameBytes 0 9 [])) s).rl.reply = none ∧
    (after (.linkFrameDiscarded (frameBytes 0 9 [])) s).rl.echo = [byteOf 0xA0] ∧
    linkReason (after (.panelStatus 0) s) = some .ok := by decide

/-- R181, R183: the byte table takes a whole frame, and a listed code is routed to its command. -/
theorem test_link_bytes_make_a_frame :
    linkReason (after (.linkGapTimeout (frameBytes 0 9 [])) State.reset) = some .ok ∧
    linkReason (after (.panelFrameRefused 0 1 []) State.reset) = some .noClock ∧
    (after (.linkGapTimeout [byteOf 0xA0, byteOf 9]) State.reset).rl.state = .idle := by decide

/-- R181: a byte with a framing error is echoed and discards the frame, be it the one that would complete
it; a length above 6 does the same. -/
theorem test_framing_error_is_echoed :
    let t := after (.linkFrameDiscarded (frameBytes 0 9 [])) State.reset
    let u := after (.linkFrameDiscarded [byteOf 0xA0, byteOf 9, byteOf 7]) State.reset
    t.rl.state = .idle ∧ t.rl.frame = [] ∧ t.rl.reply = none ∧ t.rl.echo = frameBytes 0 9 [] ∧
    u.rl.state = .idle ∧ u.rl.echo = [byteOf 0xA0, byteOf 9, byteOf 7] := by decide

/-- R131, R138: a maximum raised from 400 to 800 at a SERVICE exit is in the split of a GRANT that AD takes
before the exit report: the target is the allocation, 400. -/
theorem test_raised_maximum_before_the_exit_report :
    let seg (high : Nat) : SegmentRec := { SegmentRec.factory with airMin := 100, airMax := high }
    let comm (high : Nat) : Commission := { Commission.factory with segments := Four.all (seg high) }
    let s0 := inService State.reset
    let s : State := { s0 with
      cs := { s0.cs with effective := comm 400, pending := [.segment 0 (seg 800)] }
      ad := { s0.ad with groups := [⟨⟨0, 1⟩, 400, 100, 0, 400, 100, false⟩] } }
    let t := after (.grant (.fields 1000)) (after .serviceLineRelease s)
    t.ad.groups.map (·.qmax) = [800] ∧ t.ad.targets.get 0 = 400 := by decide +kernel

/-- R168: the blind target after LM's exit report and OT's walk-in report is the same in either order, where
scene 0 leaves the blind. -/
theorem test_exit_reports_in_either_order :
    let b : Blind := { Blind.initial SegmentRec.factory with driveUp := none, position := 300, target := 300, base := 300 }
    let s0 := after .serviceLineRelease (inService ((clocked 540).mapBlind 0 fun _ => b))
    let s : State := { s0 with ot := { s0.ot with groups := [⟨⟨0, 1⟩, .none, true, some ⟨0, none, 210⟩⟩] } }
    let lm := Instr.exitReport .lbu [GroupRec.initial ⟨0, 1⟩]
    let ot := Instr.occupancyReport .lbu ⟨0, 1⟩ true (some ⟨0, none, 210⟩)
    ((after ot (after lm s)).blind 0).target = 300 ∧ ((after lm (after ot s)).blind 0).target = 300 ∧
    ((after ot (after lm s)).blind 0).base = 300 := by decide +kernel

/-- R129: an OT report taken before the exit report moves no loop and hands nothing on; the rebuild uses it. -/
theorem test_walk_in_report_held_for_the_rebuild :
    let s0 := after .serviceLineRelease (inService State.reset)
    let s : State := { s0 with
      reports := []
      ot := { s0.ot with groups := [⟨⟨0, 1⟩, .none, true, some ⟨0, none, 210⟩⟩] } }
    let t := after (.occupancyReport .al ⟨0, 1⟩ true (some ⟨0, none, 210⟩)) s
    let u := after (.exitReport .al [GroupRec.initial ⟨0, 1⟩]) t
    t.al.loops = s.al.loops ∧ t.reports = [] ∧
    u.al.loops.map (·.mode) = [.acquire] ∧ u.al.awaitsExit = false := by decide +kernel

/-- R18: a change of the scene alone leaves an OVERRUN entry OVERRUN, a later end does not. -/
theorem test_overrun_resumes_by_a_new_end :
    let s := (clocked 600).withTable [entryIn .overrun (fixed 1 600 690 0 1)]
    let keep := after (.bookChange (.fields { keepAll 1 with scene := .set 4 })) s
    let later := after (.bookChange (.fields { keepAll 1 with stop := .set 700 })) s
    (keep.entry? 1).map (·.vol.state) = some .overrun ∧
    (later.entry? 1).map (·.vol.state) = some .inSession := by decide

/-- R138: a record formed at a minimum of 100, split once the segment's figures are 50 and 60. -/
theorem test_split_of_a_stale_record :
    let seg : SegmentRec := { SegmentRec.factory with airMin := 50, airMax := 60 }
    let s : State := { State.reset with
      cs := { State.reset.cs with effective := { Commission.factory with segments := Four.all seg } } }
    s.splitGroup ⟨⟨0, 1⟩, 100, 100, 0, 700, 100, false⟩ = [(0, 50)] ∧
    s.splitGroup ⟨⟨0, 1⟩, 500, 100, 0, 700, 500, false⟩ = [(0, 57)] := by decide

/-- R166: LM's report of a session's end taken before OT's walk-in report leaves the blind where the
session had it. -/
theorem test_leave_keeps_the_base :
    let b : Blind := { Blind.initial SegmentRec.factory with driveUp := none, position := 300, target := 300, base := 300 }
    let s0 := (State.reset.mapBlind 0 fun _ => b)
    let s : State := { s0 with
      lbu := { s0.lbu with occ := [⟨⟨0, 1⟩, true, false, false⟩] }
      ot := { s0.ot with groups := [⟨⟨0, 1⟩, .none, true, some ⟨0, none, 210⟩⟩] } }
    let t := after (.occupancyReport .lbu ⟨0, 1⟩ true (some ⟨0, none, 210⟩))
      (after (.governingChange .lbu ⟨0, 1⟩ none .none) s)
    (t.blind 0).base = 300 ∧ (t.blind 0).target = 300 ∧ (t.blind 0).keptBase = none := by decide

/-! ### Witnesses: states and operands that meet the hypotheses of the obligations, clause by clause -/

theorem witness_StepRunsFrontCommand :
    ({ State.reset with pending := [.minuteEvent, .powerLoss] } : State).pending =
      .minuteEvent :: [.powerLoss] := by decide

/-- A report waits; an event is due; nothing is due; the part does not run. -/
theorem witness_EmptyQueueTakesReportEventOrTick :
    State.reset.pending = [] ∧ State.reset.alive = true ∧ State.reset.reports ≠ [] ∧
    ({ State.reset with reports := [], al := { State.reset.al with loopTimer := some 0 } } :
      State).due = [.loopTimerExpiry] ∧
    ({ State.reset with reports := [] } : State).due = [] ∧
    (after .resetLineAssert State.reset).alive = false ∧
    (after .resetLineAssert State.reset).pending = [] := by decide

/-- No report waits. -/
def quiet : State := { State.reset with reports := [] }

/-- A clock that is invalid, and one at the last tick of a second and of a minute; a poll timer at its last
tick, a tick of a tenth with a blind that moves, one that ends a blind's rest of four seconds. -/
theorem witness_TickCountsClockAndTimers :
    (quiet.pending = [] ∧ quiet.reports = [] ∧ quiet.due = [] ∧ quiet.alive = true) ∧
    ( let s : State := { quiet with tb := ⟨540, 58, true, 19, false⟩ }
      s.due = [] ∧ s.alive = true) ∧
    ( let s : State := { quiet with tb := ⟨540, 59, true, 19, false⟩ }
      s.due = [] ∧ s.alive = true ∧ s.ticked.tb.rolloverDue = true ∧ s.ticked.tb.valid = true) ∧
    ( let s : State := { quiet with si := { quiet.si with polls := quiet.si.polls.set 0 ⟨some 1, false⟩ } }
      s.due = [] ∧ s.ticked.due = [.sensorPoll 0]) ∧
    ( let s : State := { quiet with tenth := true }
      s.due = [] ∧ s.ticked.reports = [.blindStep 0]) ∧
    ( let s (n : Nat) : State := { withBlind { blindIn .stopped none with rest := n } quiet with tenth := true }
      (s 38).ticked.due = [] ∧ (s 39).due = [] ∧ (s 39).ticked.due = [.budgetRefill 0]) := by
  decide

/-- What is due, at 0 and a tick before. -/
theorem test_due_at_the_boundary :
    let loop (n : Nat) : State := { quiet with al := { quiet.al with loopTimer := some n } }
    let grant (n : Nat) : State := { quiet with ad := { quiet.ad with age := some n } }
    let charge (n : Nat) : State := withBlind { blindIn .movingUp none with uncharged := n } quiet
    (loop 1).due = [] ∧ (loop 0).due = [.loopTimerExpiry] ∧ (loop 1).ticked.due = [.loopTimerExpiry] ∧
    (grant 1).due = [] ∧ (grant 0).due = [.grantAgeExpiry] ∧
    (charge 9).due = [] ∧ (charge 10).due = [.budgetCharge 0] := by decide

theorem witness_MinuteEventAdvancesClockAndEvaluates :
    (State.reset.alive = true ∧ State.reset.tb.valid = false) ∧
    ((clocked 4294967295).alive = true ∧ (clocked 4294967295).tb.valid = true ∧
      (clocked 4294967295).inRun = true) ∧
    ((inService (clocked 540)).tb.valid = true ∧ (inService (clocked 540)).inRun = false) := by
  decide

/-- A table of one entry, the minute before a minute event, in RUN. -/
def loneAt (m : Nat) (e : Entry) : State := (clocked m).withTable [e]

def overrunFor (n : Nat) (f : Fixed) : Entry :=
  { entryIn .overrun f with vol := { (entryIn .overrun f).vol with overrunMinutes := some n } }

/-- What every clause asks of the state: the event of minute n arrives in RUN at a lone entry. -/
def minuteAt (s : State) (e : Entry) (n : Nat) : Bool :=
  s.alive && s.tb.valid && s.inRun && decide (s.bt.table = [e])
    && decide (n = min 4294967295 (s.tb.minutes + 1))

/-- The segment 0 observed occupied. -/
def seenAt0 (s : State) : State := after (.presenceEvent 0) s

/-- Segment 0 its own presence source. -/
def sourced (s : State) : State :=
  { s with si := { s.si with presenceSource := s.si.presenceSource.set 0 (some 0) } }

/-- A sound table the minute before 700: an OVERRUN entry that gives way, a session that ends at 700 unseen,
an entry whose end is reached and one whose start is, and one whose lead of 20 minutes is reached. -/
def fiveAt699 : State :=
  (big (clocked 699)).withTable
    [overrunFor 9 (fixed 1 600 690 0 1), entryIn .inSession (fixed 2 600 700 1 1),
      plannedAt (fixed 3 650 700 2 1), plannedAt (fixed 4 700 790 0 1),
      plannedAt { fixed 5 720 790 1 1 with lead := some 20 }]

theorem test_minute_event_on_five_entries :
    let t := after .minuteEvent fiveAt699
    t.bt.table.map (fun e => (e.fix.ref, e.vol.state)) = [(4, .inSession), (5, .preparing)] ∧
    t.bt.stored = t.bt.table.map (·.fix) ∧
    t.nq.list.map (fun r => (noticeCode r.notice, r.minute)) = [(15, 0), (2, 700), (4, 700), (2, 700), (1, 700)] ∧
    (t.reports.filterMap fun c => match c with
      | .entryStateChange ref _ began => some (ref, began)
      | _ => none) = [(2, false), (1, false), (4, true), (5, false)] := by decide +kernel

/-- The start reached with the end ahead, and the end reached; the last overrun minute and one before; the
booked end reached, observed and not; a no-show of 15 minutes and a session that goes on; a lead reached and
not reached; a prepared entry that waits; an OVERRUN entry on a segment of one that starts. -/
theorem witness_MinuteEventTreatsTheTable :
    ( let e := plannedAt (fixed 1 600 690 0 1)
      minuteAt (loneAt 599 e) e 600 = true ∧ isActive e = false ∧ 600 ≤ 600 ∧ 600 < 690) ∧
    ( let e := entryIn .ready (fixed 1 600 690 0 1)
      minuteAt (loneAt 689 e) e 690 = true ∧ isActive e = false ∧ 690 ≤ 690) ∧
    ( let e := overrunFor 119 (fixed 1 600 690 0 1)
      minuteAt (loneAt 809 e) e 810 = true ∧ e.vol.state = .overrun ∧
        119 ≤ e.vol.overrunMinutes.getD 0) ∧
    ( let e := overrunFor 118 (fixed 1 600 690 0 1)
      minuteAt (loneAt 808 e) e 809 = true ∧ e.vol.overrunMinutes.getD 0 < 119) ∧
    ( let e := entryIn .inSession (fixed 1 600 690 0 1)
      minuteAt (loneAt 689 e) e 690 = true ∧ e.vol.state = .inSession ∧ e.fix.stop ≤ 690 ∧
        (loneAt 689 e).entryObserved e = false ∧ (seenAt0 (loneAt 689 e)).entryObserved e = true ∧
        (seenAt0 (loneAt 689 e)).alive = true) ∧
    ( let e := entryIn .inSession (fixed 1 600 690 0 1)
      minuteAt (sourced (loneAt 614 e)) e 615 = true ∧ 615 < e.fix.stop ∧ e.fix.exempt = false ∧
        e.vol.presence = some false ∧
        (noShowWait? (loneAt 614 e).comm e.fix.kind).any
          (fun w => decide (e.vol.actualStart.getD 0 + w ≤ 615)) = true ∧
        (segList ⟨0, 1⟩).any (fun i => ((sourced (loneAt 614 e)).si.presenceSource.get i).isSome) = true ∧
        minuteAt (loneAt 600 e) e 601 = true) ∧
    ( let e := plannedAt { fixed 1 600 690 0 1 with lead := some 20 }
      minuteAt (loneAt 579 e) e 580 = true ∧ 580 < e.fix.start ∧ e.fix.start ≤ 580 + 120 ∧ 0 < 20 ∧
        e.fix.start ≤ 580 + 20 ∧ minuteAt (loneAt 578 e) e 579 = true ∧ ¬ e.fix.start ≤ 579 + 20) ∧
    ( let e := entryIn .preparing (fixed 1 600 690 0 1)
      minuteAt (loneAt 589 e) e 590 = true ∧ isPrepared e = true ∧ 590 < e.fix.start) ∧
    ( let a := overrunFor 9 (fixed 1 600 690 0 1)
      let b := plannedAt (fixed 2 700 790 0 1)
      let s := (clocked 699).withTable [a, b]
      s.alive = true ∧ s.inRun = true ∧ a.fix.ref ≠ b.fix.ref ∧ a.vol.state = .overrun ∧
        a.vol.overrunMinutes.getD 0 < 119 ∧ isActive b = false ∧ b.fix.start ≤ 700 ∧ 700 < b.fix.stop ∧
        segsMeet (entrySegs a) (entrySegs b) = true) := by decide

theorem witness_MinuteEventTreatsTheTable_of_five :
    fiveAt699.alive = true ∧ fiveAt699.tb.valid = true ∧ fiveAt699.inRun = true ∧
    fiveAt699.UniqueRefs ∧ fiveAt699.TableSound := by decide +kernel

theorem witness_LoopTimerExpiryEvaluatesAndRestarts :
    (State.reset.alive = true ∧ State.reset.al.loopTimer.isSome = true) ∧
    (after (.timeSet true (.fields (540, 0))) State.reset).alive = true ∧
    (after (.timeSet true (.fields (540, 0))) State.reset).al.loopTimer = none ∧
    State.reset.inRun = true ∧ (State.reset.al.loops.map (·.mode)) = [.parked] ∧
    (inService State.reset).inRun = false ∧
    ( let l : Loop := { Loop.initial ⟨0, 1⟩ 100 with
        mode := .track, level := .session, governing := some 1, noTemp := false, temp := some 215 }
      let s := (clocked 620).withTable [entryIn .inSession (fixed 1 600 690 0 1)]
      s.inRun = true ∧ l.mode ≠ .parked ∧ l.noTemp = false ∧ l.temp = some 215 ∧
      (l.governing.bind fun ref => (s.entry? ref).bind (·.vol.liveSetpoint)) = some 210 ∧
      (State.reset.entry? 1) = none) := by decide

theorem witness_RestartTriggersRestoreEveryBlock :
    (after .powerLoss State.reset).pins.resetLow = false ∧
    ((after .resetLineAssert State.reset).pins.powered = true ∧ 1000 ≤ 1000) ∧
    (State.reset.TakesRequest ∧ State.reset.tb.valid = false) ∧
    ((clocked 540).TakesRequest ∧ (clocked 540).tb.valid = true) ∧
    ( let f := fixed 1 600 690 0 1
      [599, 600, 689, 690].all (fun n =>
        let s := (clocked n).withTable [plannedAt f]
        decide s.TakesRequest && s.tb.valid && s.bt.stored == [f] &&
          decide ((s.bt.stored.map (·.ref)).Nodup)) = true ∧
      599 < f.start ∧ f.start ≤ 600 ∧ 689 < f.stop ∧ f.stop ≤ 690) ∧
    (after .powerLoss (after .resetLineAssert State.reset)).pins.resetLow = true := by decide

theorem witness_ResetLineAndPowerLossSilenceThePart :
    999 < 1000 ∧ (after .resetLineAssert State.reset).pins.powered = true := by decide

theorem witness_TimeSetSetsClockOrIsRefused :
    (State.reset.TakesRequest ∧ State.reset.OutputsFollow ∧ 59 < 60) ∧
    ((inService State.reset).TakesRequest ∧ (inService State.reset).OutputsFollow ∧ 59 ≤ 59 ∧
      (inService State.reset).inRun = false) ∧
    ((clocked 540).TakesRequest ∧ (clocked 540).OutputsFollow ∧ (clocked 540).tb.valid = true ∧
      (clocked 540).tb.minutes = 540) := by decide

/-- A TIME_SET to minute m makes the re-entry evaluation of a table that holds e alone. -/
def reentryAt (e : Entry) (m : Nat) : Bool :=
  let s := (clocked 500).withTable [e]
  decide s.TakesRequest && s.inRun && s.tb.minutes != m && s.bt.table == [e]

theorem witness_TimeSetReentryLeavesNoPastEntry :
    (State.reset.TakesRequest ∧ State.reset.UniqueRefs ∧ State.reset.inRun = true ∧ 59 ≤ 59 ∧
      State.reset.tb.valid = false) ∧
    (morning.TakesRequest ∧ morning.UniqueRefs ∧ morning.inRun = true ∧
      morning.tb.minutes ≠ 600) ∧
    ( let e := entryIn .ready (fixed 1 600 690 0 1)
      let x := entryIn .inSession (fixed 1 600 690 0 1)
      reentryAt e 690 = true ∧ reentryAt x 690 = true ∧ reentryAt e 689 = true ∧
        isActive e = false ∧ isActive x = true ∧ 690 ≤ e.fix.stop ∧ 689 < e.fix.stop ∧
        e.vol.state ≠ .planned) ∧
    ( let e := plannedAt (fixed 1 600 690 0 1)
      reentryAt e 600 = true ∧ reentryAt e 599 = true ∧ e.vol.state = .planned ∧
        e.fix.start ≤ 600 ∧ 600 < e.fix.stop ∧ 599 < e.fix.start) ∧
    ( let a := entryIn .inSession (fixed 1 600 690 0 1)
      let b := plannedAt (fixed 2 640 700 0 1)
      let s := (clocked 500).withTable [a, b]
      s.TakesRequest ∧ s.inRun = true ∧ s.tb.minutes ≠ 640 ∧ a.fix.ref ≠ b.fix.ref ∧
        isActive a = true ∧ 640 < a.fix.stop ∧ b.vol.state = .planned ∧ b.fix.start ≤ 640 ∧
        640 < b.fix.stop ∧ segsMeet (entrySegs a) (entrySegs b) = true) ∧
    ( let a := entryIn .inSession (fixed 1 700 760 0 1)
      let b := plannedAt (fixed 2 600 690 0 1)
      let s := (clocked 710).withTable [b, a]
      s.TakesRequest ∧ s.inRun = true ∧ s.tb.minutes ≠ 640 ∧ s.UniqueRefs ∧
        Ordered (s.bt.table.map (·.fix)) ∧ Apart (s.bt.table.map (·.fix)) ∧
        isActive a = true ∧ 640 < a.fix.stop ∧ b.vol.state = .planned ∧ b.fix.start ≤ 640 ∧
        640 < b.fix.stop ∧ segsMeet (entrySegs a) (entrySegs b) = true) := by decide

/-- The reasons of R14's table in order, and the acceptance. -/
theorem witness_BookAddAdmitsOrRefuses :
    (morning.TakesRequest ∧ morning.OutputsFollow) ∧
    addReason morning (wire 0 800 860 3 1 1) = .outOfRange ∧
    addReason morning (wire 1006 800 860 3 2 1) = .noSegment ∧
    addReason morning (wire 1006 800 809 3 1 1) = .badDuration ∧
    addReason morning (wire 1006 530 540 3 1 1) = .past ∧
    addReason { morning with load := some ⟨800, 801, [], 1200⟩ } (wire 1006 800 860 3 1 1) =
      .loading ∧
    addReason morning (wire 1001 800 860 3 1 1) = .duplicate ∧
    addReason morning (wire 1006 689 760 0 1 1) = .overlap ∧
    addReason (morning.withTable (List.replicate 128 (plannedAt (fixed 1 600 690 0 1))))
      (wire 1006 800 860 3 1 1) = .full ∧
    addReason morning (wire 1006 800 860 3 1 1) = .ok := by decide +kernel

def moveStart (ref minute : Nat) : ChangeWire := { keepAll ref with start := .set minute }
def moveStop (ref minute : Nat) : ChangeWire := { keepAll ref with stop := .set minute }

theorem witness_BookChangeRefusesOrChangesPlanned :
    (morning.TakesRequest ∧ morning.OutputsFollow) ∧
    morning.entry? (keepAll 7).ref = none ∧
    (morning.entry? 1001 = some (plannedAt (fixed 1001 600 690 0 2)) ∧ allKept (keepAll 1001) = true) ∧
    (allKept (moveStop 1001 691) = false ∧
      changeReason morning (moveStop 1001 691) (plannedAt (fixed 1001 600 690 0 2)) = .overlap) ∧
    (allKept (moveStop 1001 620) = false ∧
      changeReason morning (moveStop 1001 620) (plannedAt (fixed 1001 600 690 0 2)) = .ok ∧
      (plannedAt (fixed 1001 600 690 0 2)).vol.state = .planned) := by decide

def readyAt590 : State := (clocked 590).withTable [entryIn .ready (fixed 1 600 690 0 1)]
def runningAt620 : State := (clocked 620).withTable [entryIn .inSession (fixed 1 600 690 0 1)]

theorem witness_BookChangeReturnsToPlannedOrEndsSession :
    ( let e := entryIn .ready (fixed 1 600 690 0 1)
      let c := moveStart 1 605
      readyAt590.TakesRequest ∧ readyAt590.entry? c.ref = some e ∧ allKept c = false ∧
        changeReason readyAt590 c e = .ok ∧ isPrepared e = true ∧
        movesEntry e.fix (candidate readyAt590.comm c e.fix) = true ∧ e.vol.state = .ready) ∧
    ( let e := entryIn .inSession (fixed 1 600 690 0 1)
      let c := moveStop 1 620
      runningAt620.TakesRequest ∧ runningAt620.entry? c.ref = some e ∧ allKept c = false ∧
        changeReason runningAt620 c e = .ok ∧ isActive e = true ∧
        endsNow runningAt620 c e = true) ∧
    ( let e := entryIn .ready (fixed 1 600 690 0 1)
      let c := { keepAll 1 with headcount := .set 30, setpoint := .set 230, scene := .set 4 }
      readyAt590.entry? c.ref = some e ∧ allKept c = false ∧ changeReason readyAt590 c e = .ok ∧
        isPrepared e = true ∧ movesEntry e.fix (candidate readyAt590.comm c e.fix) = false ∧
        storedSetpoint readyAt590.comm (candidate readyAt590.comm c e.fix) ≠
          storedSetpoint readyAt590.comm e.fix) ∧
    ( let e := entryIn .overrun (fixed 1 600 690 0 1)
      let s := (clocked 700).withTable [e]
      let c := moveStop 1 720
      s.TakesRequest ∧ s.entry? c.ref = some e ∧ allKept c = false ∧ changeReason s c e = .ok ∧
        isActive e = true ∧ endsNow s c e = false ∧
        s.tb.minutes < (candidate s.comm c e.fix).stop) := by decide

theorem witness_BookCancelRemovesEndsOrRefuses :
    ((entryIn .inSession (fixed 1 600 690 0 1)).vol.actualStart = some 600 ∧
      (entryIn .inSession (fixed 1 600 690 0 1)).vol.startCause = some .schedule) ∧
    (runningAt620.TakesRequest ∧ runningAt620.OutputsFollow ∧ runningAt620.entry? 9 = none) ∧
    ( let e := entryIn .inSession (fixed 1 600 690 0 1)
      runningAt620.entry? 1 = some e ∧ isActive e = true ∧ startLoading runningAt620 e.fix.start = false ∧
      startLoading { runningAt620 with load := some ⟨600, 601, [], 1200⟩ } e.fix.start = true) ∧
    ( let e := entryIn .ready (fixed 1 600 690 0 1)
      readyAt590.entry? 1 = some e ∧ isActive e = false ∧ readyAt590.TakesRequest ∧
        readyAt590.OutputsFollow) := by decide

theorem witness_BookReadsReturnEntriesAndMoveCursor :
    (State.reset.TakesRequest ∧ State.reset.OutputsFollow ∧ State.reset.wp.cursor = none) ∧
    ( let s : State := { morning with wp := { morning.wp with cursor := some ⟨600, 1001⟩ } }
      s.TakesRequest ∧ s.OutputsFollow ∧ s.wp.cursor = some ⟨600, 1001⟩) ∧
    255 < 256 ^ 1 ∧ 0 < 1 := by decide

def loading (l : Load) (s : State) : State := { s with load := some l }

/-- No load and a load open; the reasons of R58's table. -/
theorem witness_LoadOpenAndEntryStage :
    (morning.TakesRequest ∧ morning.OutputsFollow ∧ morning.load = none ∧ morning.inRun = true) ∧
    ( let l : Load := ⟨600, 700, [fixed 5 600 620 0 1], 1200⟩
      (loading l morning).TakesRequest ∧ (loading l morning).OutputsFollow ∧
      (loading l morning).load = some l ∧
      stageReason (loading l morning) l (wire 6 700 720 0 1 1) = .outOfRange ∧
      stageReason (loading l morning) l (wire 6 600 620 3 2 1) = .noSegment ∧
      stageReason (loading l morning) l (wire 6 600 609 1 1 1) = .badDuration ∧
      stageReason (loading l { morning with tb := ⟨620, 0, true, 0, false⟩ }) l (wire 6 600 620 1 1 1)
        = .past ∧
      stageReason (loading l morning) l (wire 5 620 640 1 1 1) = .duplicate ∧
      stageReason (loading l morning) l (wire 6 619 640 0 1 1) = .overlap ∧
      stageReason (loading l morning) l (wire 6 620 640 0 1 1) = .ok ∧
      stageReason (loading l morning) { l with staged := List.replicate 64 (fixed 5 600 620 0 1) }
        (wire 6 620 640 0 1 1) = .full) := by decide +kernel

/-- A load of one entry that joins, and one that a full table refuses. -/
theorem witness_LoadCloseCommitsOrRefusesFull :
    ( let l : Load := ⟨600, 700, [fixed 5 600 620 0 1], 1200⟩
      let s := loading l (clocked 590)
      s.TakesRequest ∧ s.OutputsFollow ∧ s.load = some l ∧
        (s.bt.table ++ [plannedAt (fixed 5 600 620 0 1)]).length ≤ 128) ∧
    ( let l : Load := ⟨600, 700, [fixed 5 600 620 0 1], 1200⟩
      let s := loading l ((clocked 590).withTable (List.replicate 128 (plannedAt (fixed 1 800 810 0 1))))
      s.TakesRequest ∧ s.OutputsFollow ∧ s.load = some l ∧
        128 < s.bt.table.length + (l.staged.filter fun f => decide (590 < f.stop)).length) := by
  decide +kernel

theorem witness_LoadAbortAndTimeoutDiscardTheLoad :
    (State.reset.OutputsFollow ∧ State.reset.TakesRequest ∧ State.reset.load = none) ∧
    ( let s := loading ⟨600, 700, [], 1200⟩ State.reset
      s.OutputsFollow ∧ s.TakesRequest ∧ s.load.isSome = true ∧ s.alive = true) := by decide

theorem witness_ReadRequestsChangeNothing :
    State.reset.TakesRequest ∧ State.reset.OutputsFollow ∧ 24 < 25 ∧ 24 ≤ 24 := by decide

/-- An empty list, a list of one, and a list of 32. -/
theorem witness_NoticesJoinAtTheEndAndLeaveInOrder :
    ( let s : State := { State.reset with nq := ⟨[], false, 1⟩ }
      s.TakesRequest ∧ s.OutputsFollow ∧ s.nq.list = []) ∧
    (State.reset.TakesRequest ∧ State.reset.OutputsFollow ∧
      State.reset.nq.list = ⟨0, 0, .restarted .power⟩ :: []) ∧
    ({ State.reset with
      nq := ⟨List.replicate 32 ⟨0, 0, .restarted .power⟩, false, 65535⟩ } : State).NoticesFit := by
  decide

theorem witness_GrantAndItsExpiryRecompute :
    (State.reset.alive = true ∧ State.reset.inRun = true ∧ State.reset.wp.held = none) ∧
    (after (.grant (.fields 700)) State.reset).ad.age.isSome = true ∧
    (after (.grant (.fields 700)) State.reset).alive = true ∧
    (after (.grant (.fields 700)) State.reset).inRun = true ∧
    ( let s := inService State.reset
      s.alive = true ∧ s.inRun = false ∧ s.wp.held = none ∧
      (after (.grant (.fields 700)) s).ad.age.isSome = true ∧
      (after (.grant (.fields 700)) s).inRun = false) := by decide

/-- Grants whose total meets the demands, lies between, and falls to the minima. -/
theorem witness_AllocationsSumToTheGrantedTotal :
    (∀ g ∈ groupsOf77, g.qmin ≤ g.qd) ∧ 1000 ≤ 1000 ∧ 700 ≤ 1000 ∧
    1553 ≤ max 450 (1553 * 1000 / 1000) ∧ max 450 (1553 * 700 / 1000) < 1553 ∧
    1553 * 200 / 1000 ≤ 450 := by decide

theorem witness_SegmentTargetsSumToTheAllocation :
    let g : AdGroup := ⟨⟨1, 2⟩, 1303, 250, 745, 1500, 859, false⟩
    (∀ i, ((big State.reset).segRec i).airMin ≤ ((big State.reset).segRec i).airMax) ∧
    ((segList ⟨1, 2⟩).map fun i => ((big State.reset).segRec i).airMin).sum = g.qmin ∧
    ((segList ⟨1, 2⟩).map fun i => ((big State.reset).segRec i).airMax).sum = g.qmax ∧
    g.qmin ≤ g.alloc ∧ g.alloc ≤ g.qmax := by decide

theorem witness_DemandUpdateFormsRecordsAndJudgesShortage :
    (State.reset.alive = true ∧ State.reset.inRun = true) ∧
    ((inService State.reset).alive = true ∧ (inService State.reset).inRun = false) := by decide

def lineUp (s : State) : State := { s with cs := { s.cs with serviceLine := true } }
def lockedUp (s : State) : State := { s with cs := { s.cs with lock := true } }

theorem witness_ServiceEntryAndLockJudgedInOrder :
    ((inService State.reset).TakesRequest ∧ (inService State.reset).OutputsFollow ∧
      (inService State.reset).inRun = false) ∧
    (State.reset.TakesRequest ∧ State.reset.OutputsFollow ∧ State.reset.inRun = true ∧
      State.reset.cs.serviceLine = false ∧ 2 < 3) ∧
    ( let s := lockedUp (lineUp State.reset)
      s.TakesRequest ∧ s.OutputsFollow ∧ s.inRun = true ∧ s.cs.serviceLine = true ∧
        s.cs.lock = true) ∧
    ( let s := lineUp runningAt620
      s.TakesRequest ∧ s.OutputsFollow ∧ s.inRun = true ∧ s.cs.serviceLine = true ∧
        s.cs.lock = false ∧ s.bt.table.any isActive = true) := by decide

def settledLoop (s : State) : State :=
  { s with al := { s.al with loops := s.al.loops.map fun l => { l with settled := true } } }

theorem witness_ServiceEntryHoldsTheSuite :
    let s := lineUp runningAt620
    s.TakesRequest ∧ s.inRun = true ∧ s.cs.serviceLine = true ∧ s.cs.lock = false ∧
    s.bt.table.any isActive = true ∧
    s.configured 0 = true ∧ (s.blind 0).driveUp.isSome = true ∧
    ((after (.driveUpEnd 0) s).blind 0).driveUp = none ∧ s.UniqueRefs ∧
    s.bt.table.filter isActive ≠ [] ∧
    ( let u := lineUp (settledLoop readyAt590)
      u.TakesRequest ∧ u.inRun = true ∧ u.cs.serviceLine = true ∧ u.cs.lock = false ∧ u.UniqueRefs ∧
      u.bt.table.any isActive = false ∧
      u.bt.table.all (fun e => e.vol.state == .ready &&
        u.al.loops.any (fun l => l.settled && segHas l.segs e.fix.first)) = true) := by decide

/-- A prepared entry that governs its group after the exit, and a partition found FAULT with one that is not
configured; a request held as the line is released, in RUN and in SERVICE. -/
theorem witness_ServiceExitTakesRecordsIntoEffect :
    (State.reset.TakesRequest ∧ State.reset.OutputsFollow ∧ State.reset.inRun = true) ∧
    ( let s := inService readyAt590
      s.TakesRequest ∧ s.OutputsFollow ∧ s.inRun = false ∧ s.UniqueRefs ∧
      let t := after (.modeSetRun (.fields false)) s
      t.ad.groups ≠ [] ∧ t.configured 0 = true ∧ (t.segRec 0).airMin ≤ (t.segRec 0).airMax ∧
      (∀ e ∈ s.bt.table, isActive e = false ∧ isPrepared e = true ∧
        t.lm.groups.any (fun r => segHas r.segs e.fix.first && r.governing == some e.fix.ref) = true)) ∧
    ( let s := driven (partition0 ⟨.opened, none, none, none, false, true, true⟩
        (inService (big readyAt590)))
      let t := after (.modeSetRun (.fields false)) s
      s.TakesRequest ∧ s.OutputsFollow ∧ s.inRun = false ∧ s.UniqueRefs ∧ t.partConfigured 0 = true ∧
      t.faultsFound = [.partitionFault 0 .fault] ∧
      (after (.modeSetRun (.fields false)) (inService readyAt590)).partConfigured 0 = false) ∧
    ( let busy (s : State) : State := { s with wp := { s.wp with held := some 0x30 } }
      (busy State.reset).alive = true ∧ (busy State.reset).OutputsFollow ∧
      (busy State.reset).inRun = true ∧ (busy (inService readyAt590)).alive = true ∧
      (busy (inService readyAt590)).OutputsFollow ∧ (busy (inService readyAt590)).inRun = false ∧
      (busy (inService readyAt590)).UniqueRefs) ∧
    [ (plannedAt (fixed 1 600 690 0 1), 599), (plannedAt (fixed 1 600 690 0 1), 600),
      (plannedAt (fixed 1 600 690 0 1), 690), (entryIn .preparing (fixed 1 600 690 0 2), 650)].all
        (fun p =>
          let s := inService ((clocked p.2).withTable [p.1])
          decide s.TakesRequest && decide s.OutputsFollow && !s.inRun && decide s.UniqueRefs &&
            s.bt.table == [p.1] && !isActive p.1 && s.tb.valid) = true := by
  decide

/-- Selectors out of range, a wrong length, RUN, a bad field, and a write that is taken. -/
theorem witness_CommissionWriteIsReadBack :
    (State.reset.TakesRequest ∧ State.reset.OutputsFollow ∧ 24 < 25) ∧
    (fieldCount 5 = some 4 ∧ [210, 1, 15].length ≠ 4) ∧
    (fieldCount 24 = some 7 ∧ [500, 500, 1001, 1, 3, 0, 1].length = 7 ∧ State.reset.inRun = true) ∧
    ( let s := inService State.reset
      s.TakesRequest ∧ s.OutputsFollow ∧ s.inRun = false ∧
      firstBadField 1 [210, 16, 15, 10] (fieldRanges 5 [210, 16, 15, 10]) = some 2 ∧
      firstBadField 1 [210, 15, 15, 10] (fieldRanges 5 [210, 15, 15, 10]) = none ∧
      let t := after (.wingReplyEnd) (after (.commissionWrite (.fields (5, [210, 15, 15, 10]))) s)
      t.TakesRequest ∧ t.OutputsFollow) := by decide

theorem witness_LockAndRecordsMoveOnlyAtRestartOrExit :
    exec .minuteEvent (lockedUp State.reset) = .next (after .minuteEvent (lockedUp State.reset)) ∧
    (lockedUp State.reset).cs.lock = true ∧ (lockedUp State.reset).inRun = true ∧
    Instr.minuteEvent ≠ .powerOn ∧ Instr.minuteEvent ≠ .serviceLineRelease :=
  ⟨rfl, by decide⟩

theorem witness_WingRefusesUnknownFunctionAndLength :
    State.reset.TakesRequest ∧ State.reset.OutputsFollow := by decide

/-- A request held, a part held in reset, and a panel reply in progress. -/
theorem witness_NothingTakenWhileBusyOrDown :
    (isWingRequest (.bookNext (.fields ())) = true ∧
      ¬ (after (.bookNext (.fields ())) State.reset).TakesRequest ∧
      ¬ (after .resetLineAssert State.reset).TakesRequest) ∧
    (panelFrame? (.panelStatus 0) = some (0, frameBytes 0 9 []) ∧
      ¬ (after .powerLoss State.reset).Hears ∧ ¬ (after (.panelStatus 0) State.reset).Hears) := by decide

/-- A request of a full payload that itself holds SYNC bytes, behind bytes without a SYNC. -/
theorem witness_FramesReadBackAndRepliesFormed :
    ( let f : Frame := ⟨62, 0x10, List.replicate 120 (byteOf 0x7E)⟩
      f.address < 256 ∧ f.function < 256 ∧ f.payload.length ≤ 120 ∧
      byteOf 0x7E ∉ [byteOf 0x7D, byteOf 0xFF]) ∧
    scanFrame [byteOf 62, byteOf 0x30, byteOf 1] = .short ∧
    scanFrame [byteOf 62, byteOf 0x30, byteOf 121] = .bad ∧
    ( let r : WingReply := ⟨0x31, .ok, true, List.replicate 120 0⟩
      r.function < 128 ∧ r.payload.length ≤ 120) := by decide +kernel

/-- Section 9.4: BOOK ADD refused OVERLAP (10) while notices wait, its reply from address 0x3E, and a room
link reply NO_SEGMENT (5). -/
theorem test_reply_bytes_of_section_9_4 :
    (wingReplyBytes 0x3E ⟨0x10, .overlap, true, []⟩).take 5 =
      [byteOf 0x7E, byteOf 0x3E, byteOf 0x90, byteOf 0x8A, byteOf 0] ∧
    (wingReplyBytes 0x3E ⟨0x10, .overlap, true, []⟩).length = 7 ∧
    linkReplyBytes ⟨.noSegment, []⟩ = [byteOf 5, byteOf 0] := by decide +kernel

/-- Section 9.4: the fixed part of an entry record, field by field, and a BOOK CHANGE of the end alone. -/
theorem test_rows_read_from_their_bytes :
    wingRow 0x10 ([0, 0, 0x03, 0xE9] ++ [0, 0, 0x02, 0x58] ++ [0, 0, 0x02, 0xB2] ++ [1, 2, 3] ++ [0, 80]
      ++ [0, 1] ++ [1, 4] ++ [1, 0, 215] ++ [0, 0]) =
      .bookAdd (.fields ⟨1001, 600, 690, 1, 2, 3, 80, false, true, some 4, some 215, none⟩) ∧
    wingRow 0x11 ([0, 0, 0x03, 0xE9] ++ List.replicate 5 0 ++ [1, 0, 0, 0x02, 0xBC]
      ++ List.replicate 20 0) = .bookChange (.fields { keepAll 1001 with stop := .set 700 }) ∧
    wingRow 0x50 [1, 1] = .modeSetService (.fields true) ∧ wingRow 0x31 [0] = .noticeTake (.wrongLength 1) ∧
    wingRow 0x33 [] = .unknownFunction 0x33 := by decide +kernel

theorem witness_WingLineEventsAndDroppedFrames :
    (State.reset.alive = true ∧ State.reset.OutputsFollow ∧ State.reset.wp.rx = .hunt ∧
      byteOf 0x7E ∉ [byteOf 0] ∧ State.reset.wp.held = none ∧
      let f : Frame := ⟨62, 0x7F, []⟩
      f.address = State.reset.wp.address ∧ f.address < 256 ∧ f.function < 128 ∧
        f.function ≠ 0x5F ∧ f.payload.length ≤ 120) ∧
    ((⟨62, 0x5F, []⟩ : Frame).function < 128 ∧ (⟨62, 0x5F, []⟩ : Frame).address = State.reset.wp.address) ∧
    ( let f : Frame := ⟨0, 0x01, be 4 4294967295 ++ be 1 59⟩
      f.address ≠ State.reset.wp.address ∧ f.payload.length = 5 ∧ f.function < 128 ∧
      4294967295 < 4294967296 ∧ 59 < 256) ∧
    ((⟨5, 0x30, []⟩ : Frame).address ≠ State.reset.wp.address ∧ (⟨0, 0x01, []⟩ : Frame).payload.length ≠ 5 ∧
      128 ≤ (⟨62, 0x80, []⟩ : Frame).function ∧ (⟨62, 0xFF, []⟩ : Frame).function < 256) ∧
    State.reset.wp.reply = none ∧
    ( let s := after (.suiteRead (.fields ())) State.reset
      s.alive = true ∧ s.OutputsFollow ∧ s.wp.reply.isSome = true) := by decide

/-- The panel of segment 1, which is not configured; an unlisted code; a wrong length; SERVICE. -/
theorem witness_PanelFramesRefusedInOrder :
    (State.reset.Hears ∧ State.reset.OutputsFollow) ∧
    (panelFrame? (.panelBegin 1) = some (1, frameBytes 1 1 []) ∧ State.reset.configured 1 = false) ∧
    (State.reset.configured 0 = true ∧ panelLength 12 = none ∧ panelLength 4 = some 2 ∧
      [byteOf 0x1E].length ≠ 2) ∧
    ((Instr.panelAdjust 0 (-3)).wf = true ∧
      panelFrame? (.panelAdjust 0 (-3)) = some (0, frameBytes 0 5 [byteOf 0xFD]) ∧
      panelLength 5 = some [byteOf 0xFD].length) ∧
    ((inService State.reset).TakesPanel 0 ∧ (inService State.reset).OutputsFollow ∧
      panelFrame? (.panelBegin 0) = some (0, frameBytes 0 1 []) ∧
      refusedInService (.panelBegin 0) = true ∧ (inService State.reset).inRun = false) := by decide

/-- An invalid clock; a running session; an entry brought forward; and one in another's way. -/
theorem witness_BeginAnswersOrBringsForward :
    (State.reset.TakesPanel 0 ∧ State.reset.OutputsFollow ∧ State.reset.inRun = true ∧
      State.reset.tb.valid = false) ∧
    (runningAt620.TakesPanel 0 ∧ runningAt620.OutputsFollow ∧ runningAt620.tb.valid = true ∧
      governingOf (runningAt620.presence 0).bt.table ⟨0, 1⟩ ≠ none ∧
      (runningAt620.panelGroup 0).segs = ⟨0, 1⟩) ∧
    ( let s := (clocked 570).withTable [plannedAt (fixed 1 600 690 0 1)]
      s.TakesPanel 0 ∧ s.OutputsFollow ∧ s.inRun = true ∧ s.tb.valid = true ∧
      governingOf (s.presence 0).bt.table (s.panelGroup 0).segs = none ∧
      ((s.presence 0).bt.table.find? fun x => segHas (entrySegs x) 0 && !isActive x
        && decide (x.fix.start ≤ s.tb.minutes + 30)) = some (plannedAt (fixed 1 600 690 0 1)) ∧
      (s.presence 0).bt.table.any (fun x => isActive x
        && segsMeet (entrySegs x) (entrySegs (plannedAt (fixed 1 600 690 0 1)))) = false) ∧
    ( let s := (clocked 620).withTable
        [plannedAt (fixed 2 640 690 0 2), entryIn .inSession (fixed 1 600 690 1 1)]
      s.TakesPanel 0 ∧ s.OutputsFollow ∧ s.tb.valid = true ∧
      governingOf (s.presence 0).bt.table (s.panelGroup 0).segs = none ∧
      (s.presence 0).bt.table.any (fun x => isActive x
        && segsMeet (entrySegs x) (entrySegs (plannedAt (fixed 2 640 690 0 2)))) = true) := by decide

/-- A free group, one with 9 minutes free, and a full table. -/
theorem witness_BeginCreatesAdhocEntry :
    ( let s := clocked 540
      s.TakesPanel 0 ∧ s.OutputsFollow ∧ s.inRun = true ∧ s.tb.valid = true ∧
      4294901760 ≤ s.bt.nextAdhoc ∧ s.bt.nextAdhoc ≤ 4294967295 ∧
      governingOf (s.presence 0).bt.table (s.panelGroup 0).segs = none ∧
      s.tb.minutes + 10 ≤ (s.presence 0).adhocEnd (s.panelGroup 0).segs ∧ s.bt.table.length < 128) ∧
    ( let s := driven (walked (clocked 540))
      s.TakesPanel 0 ∧ s.OutputsFollow ∧
      (s.presence 0).walkIn? (s.panelGroup 0).segs = some ⟨5, some 0, 220⟩ ∧
      ((clocked 540).presence 0).walkIn? ((clocked 540).panelGroup 0).segs =
        some ⟨0, none, (clocked 540).suite.walkInSetpoint⟩) ∧
    ( let s := (clocked 540).withTable (List.replicate 128 (plannedAt (fixed 1 800 810 1 1)))
      s.TakesPanel 0 ∧ governingOf (s.presence 0).bt.table (s.panelGroup 0).segs = none ∧
      (∀ x ∈ (s.presence 0).bt.table, segHas (entrySegs x) 0 = true → isActive x = false →
        s.tb.minutes + 30 < x.fix.start) ∧
      s.tb.minutes + 10 ≤ (s.presence 0).adhocEnd (s.panelGroup 0).segs ∧ 128 ≤ s.bt.table.length) ∧
    ( let s : State := { (clocked 540).withTable [plannedAt (fixed 1 549 610 1 1)] with
        lm := { State.reset.lm with groups := [GroupRec.initial ⟨0, 2⟩] } }
      s.TakesPanel 0 ∧ (s.presence 0).adhocEnd (s.panelGroup 0).segs < s.tb.minutes + 10 ∧
      governingOf (s.presence 0).bt.table (s.panelGroup 0).segs = none ∧
      ∀ x ∈ (s.presence 0).bt.table, segHas (entrySegs x) 0 = false) := by decide +kernel

def heldRunning : State :=
  (clocked 620).withTable [entryIn .inSession { fixed 1 600 690 0 1 with held := true }]

theorem witness_EndStopsSessionOrWalkIn :
    (runningAt620.TakesPanel 0 ∧ runningAt620.OutputsFollow ∧ runningAt620.inRun = true ∧
      (governingOf (runningAt620.presence 0).bt.table ⟨0, 1⟩).any
        (fun e => isActive e && !e.fix.held) = true) ∧
    (heldRunning.TakesPanel 0 ∧ heldRunning.OutputsFollow ∧ heldRunning.inRun = true ∧
      (governingOf (heldRunning.presence 0).bt.table ⟨0, 1⟩).any
        (fun e => isActive e && e.fix.held) = true) ∧
    (State.reset.TakesPanel 0 ∧ State.reset.OutputsFollow ∧ State.reset.inRun = true ∧
      governingOf (State.reset.presence 0).bt.table ⟨0, 1⟩ = none ∧
      ∀ j ∈ segList ⟨0, 1⟩, (State.reset.ot.segs.get j).covered = false) := by decide

theorem witness_ExtendAndHeadcountActOnTheSession :
    (State.reset.TakesPanel 0 ∧ State.reset.OutputsFollow ∧ State.reset.inRun = true ∧
      governingOf (State.reset.presence 0).bt.table (State.reset.panelGroup 0).segs = none) ∧
    (runningAt620.TakesPanel 0 ∧ runningAt620.OutputsFollow ∧ runningAt620.inRun = true ∧
      (governingOf (runningAt620.presence 0).bt.table (runningAt620.panelGroup 0).segs).any isActive
        = true) := by decide

/-- A session with a live setpoint, a walk-in record, and neither. -/
theorem witness_AdjustMovesTheSetpointWithinItsRange :
    ( let s := driven (governed runningAt620 (some 1) .session)
      s.TakesPanel 0 ∧ s.OutputsFollow ∧ s.inRun = true ∧ (s.panelGroup 0).level = .session ∧
      (((s.panelGroup 0).governing.bind (s.presence 0).entry?).bind (·.vol.liveSetpoint)) = some 210) ∧
    ( let s := driven (walked State.reset)
      s.TakesPanel 0 ∧ s.OutputsFollow ∧ s.inRun = true ∧ (s.panelGroup 0).level ≠ .session ∧
      ((s.presence 0).walkIn? (s.panelGroup 0).segs).isSome = true) ∧
    ( let s := driven (governed runningAt620 (some 1) .prepare)
      let s : State := { s with ot := { s.ot with groups := [⟨⟨0, 1⟩, .session, false, none⟩] } }
      s.TakesPanel 0 ∧ s.OutputsFollow ∧ s.inRun = true ∧ (s.panelGroup 0).level ≠ .session ∧
      (s.presence 0).walkIn? (s.panelGroup 0).segs = none) := by decide

/-- A number above 15; a scene not allowed under an EXAM; a session; a walk-in; neither. -/
theorem witness_SceneAndRestoreChangeTheOwnersScenes :
    ( let s0 := governed (big runningAt620) (some 1) .session
      let s := driven { s0 with lbu := { s0.lbu with groups :=
        [⟨⟨0, 1⟩, some 1, .session⟩, ⟨⟨1, 1⟩, some 1, .session⟩, ⟨⟨2, 2⟩, some 1, .prepare⟩] } }
      s.TakesPanel 0 ∧ s.OutputsFollow ∧ s.inRun = true ∧ (s.panelGroup 0).level = .session ∧
      (((s.panelGroup 0).governing.bind (s.presence 0).entry?).bind (·.vol.currentScene)) = some 1 ∧
      ((s.presence 0).examRuns (s.panelGroup 0) && !(s.comm.scene 5).examAllowed) = false ∧
      (2 : Seg) ∈ segList ⟨2, 2⟩ ∧ s.configured 2 = true ∧
      ∀ x ∈ s.lbu.groups, segHas x.segs 2 = true → x = ⟨⟨2, 2⟩, some 1, .prepare⟩) ∧
    ( let s := governed ((clocked 620).withTable
        [entryIn .inSession { fixed 1 600 690 0 1 with kind := .exam }]) (some 1) .session
      s.TakesPanel 0 ∧ s.OutputsFollow ∧ s.inRun = true ∧ 15 < 16 ∧ 5 ≤ 15 ∧
      (s.presence 0).examRuns (s.panelGroup 0) = true ∧ (s.comm.scene 5).examAllowed = false) ∧
    ( let s := governed runningAt620 (some 1) .session
      s.TakesPanel 0 ∧ s.OutputsFollow ∧ s.inRun = true ∧ (s.panelGroup 0).level = .session ∧
      (((s.panelGroup 0).governing.bind (s.presence 0).entry?).bind (·.vol.currentScene)) = some 1 ∧
      ((s.presence 0).examRuns (s.panelGroup 0) && !(s.comm.scene 5).examAllowed) = false ∧
      s.lbu.groups.any (fun r => r.segs == (s.panelGroup 0).segs) = true) ∧
    ( let s := driven (walked State.reset)
      s.TakesPanel 0 ∧ s.OutputsFollow ∧ s.inRun = true ∧ (s.panelGroup 0).level ≠ .session ∧
      ((s.presence 0).walkIn? (s.panelGroup 0).segs).isSome = true ∧
      (s.presence 0).examRuns (s.panelGroup 0) = false) ∧
    ( let s : State := { State.reset with
        ot := { State.reset.ot with groups := [⟨⟨0, 1⟩, .session, false, none⟩] } }
      s.TakesPanel 0 ∧ s.OutputsFollow ∧ s.inRun = true ∧ (s.panelGroup 0).level ≠ .session ∧
      (s.presence 0).walkIn? (s.panelGroup 0).segs = none ∧ 5 ≤ 15 ∧
      (s.presence 0).examRuns (s.panelGroup 0) = false) := by decide

theorem witness_BlindRequestsSetTheOverrides :
    State.reset.TakesPanel 0 ∧ State.reset.OutputsFollow ∧ State.reset.inRun = true ∧ 2 < 3 ∧
    (0 : Seg) ∈ segList (State.reset.panelGroup 0).segs ∧ State.reset.configured 0 = true ∧
    (1 : Seg) ∉ segList (State.reset.panelGroup 0).segs := by decide

theorem witness_PanelReadsMoveOnlyTheirCursor :
    (State.reset.TakesPanel 0 ∧ State.reset.OutputsFollow ∧ State.reset.rl.cursors.get 0 = none) ∧
    ( let s : State := { runningAt620 with
        rl := { State.reset.rl with cursors := Four.all (some ⟨600, 1⟩) } }
      s.TakesPanel 0 ∧ s.OutputsFollow ∧ s.rl.cursors.get 0 = some ⟨600, 1⟩) := by decide

/-- RL in RECEIVE with the first bytes of a frame. -/
def receiving (frame : List Byte) : State :=
  { State.reset with rl := { State.reset.rl with state := .receive, frame := frame } }

/-- IDLE, RECEIVE with one, two and four bytes, REPLY, and the echo of a break. -/
theorem witness_LinkLineEventsLeaveRlIdle :
    (State.reset.alive = true ∧ State.reset.OutputsFollow ∧ State.reset.rl.reply = none ∧
      State.reset.rl.breakEcho = false ∧ State.reset.rl.state = .idle ∧ 0xA0 ≤ (byteOf 0xA3).toNat ∧
      0xA3 < (byteOf 0xA4).toNat ∧ 9 < 256 ∧ [byteOf 1].length ≤ 6 ∧
      (State.reset.linkBytes [byteOf 0xA0]).rl.state ≠ .reply) ∧
    ((receiving [byteOf 0xA0]).rl.breakEcho = false ∧ (receiving [byteOf 0xA0, byteOf 8]).rl.state = .receive ∧
      6 < (byteOf 7).toNat ∧ (byteOf 0).toNat = 0 ∧ (byteOf 6).toNat ≤ 6 ∧
      (receiving [byteOf 0xA0, byteOf 8, byteOf 3, byteOf 0]).rl.frame =
        byteOf 0xA0 :: byteOf 8 :: byteOf 3 :: [byteOf 0]) ∧
    ( let s := after (.panelStatus 0) State.reset
      s.alive = true ∧ s.OutputsFollow ∧ s.rl.state = .reply ∧ s.rl.reply.isSome = true) ∧
    (after (.lineBreak []) State.reset).rl.breakEcho = true := by decide

/-- Four groups, the first two about to join: an active entry whose layout differs, a READY entry that loses its
group to it, and a PREPARING one that governs a kept group with its loop SETTLED. -/
def joining : State :=
  let entries := [entryIn .inSession (fixed 1 600 690 0 3), entryIn .ready (fixed 2 700 790 1 1),
    entryIn .preparing (fixed 3 700 790 3 1)]
  let groups : List GroupRec := [⟨⟨0, 1⟩, some 1, .session, [], 0⟩, ⟨⟨1, 1⟩, some 2, .prepare, [], 0⟩,
    ⟨⟨2, 1⟩, some 1, .session, [], 0⟩, ⟨⟨3, 1⟩, some 3, .prepare, [], 0⟩]
  let s := partition0 ⟨.closed, some .opened, some 0, none, false, false, true⟩
    ((big (clocked 620)).withTable entries)
  { s with
    lm := { s.lm with groups := groups, governsFirst := [2] }
    al := { s.al with loops := [{ Loop.initial ⟨3, 1⟩ 0 with settled := true }] } }

/-- A position that does not settle; one that settles within its kind, and across OPEN; a between
timer that runs; a regroup with entries to answer for. -/
theorem witness_PartitionReadingsSettleAndAreAccepted :
    ( let s := driven (big State.reset)
      s.alive = true ∧ s.OutputsFollow ∧ s.partConfigured 0 = true ∧
        (s.lm.parts.get 0).pending = none ∧ (s.lm.parts.get 0).between = none) ∧
    ( let s := partition0 ⟨.closed, some .fault, some 0, some 5, false, true, true⟩ (driven (big State.reset))
      s.alive = true ∧ s.OutputsFollow ∧ (s.lm.parts.get 0).pending = some .fault ∧
        ((s.lm.parts.get 0).accepted = .opened ↔ Reading.fault = .opened) ∧
        (s.lm.parts.get 0).between.isSome = true) ∧
    ( let s := partition0 ⟨.closed, some .opened, some 0, none, false, false, true⟩
        (driven (big State.reset))
      s.alive = true ∧ s.OutputsFollow ∧ (s.lm.parts.get 0).pending = some .opened ∧
        ¬ ((s.lm.parts.get 0).accepted = .opened ↔ Reading.opened = .opened)) ∧
    ( let s := driven joining
      s.alive = true ∧ s.OutputsFollow ∧ s.UniqueRefs ∧
        (s.lm.parts.get 0).pending = some .opened ∧ (s.lm.parts.get 0).accepted = .closed ∧
        s.entry? 1 = some (entryIn .inSession (fixed 1 600 690 0 3)) ∧
        s.lm.groups.find? (fun x => x.segs == ⟨3, 1⟩) = some ⟨⟨3, 1⟩, some 3, .prepare, [], 0⟩) := by
  decide +kernel

/-- R77 on those groups, by hand: {0, 1} comes under the active entry, which LAYOUT_MISMATCH reports; the READY
entry is back in PREPARING and the PREPARING one READY, in table order. -/
theorem test_regroup_answers_before_the_compare :
    let s := driven joining
    let t := after (.settleTimerExpiry 0) s
    t.lm.groups.map (fun r => (r.segs, r.governing, r.level)) =
      [(⟨0, 2⟩, some 1, .session), (⟨2, 1⟩, some 1, .session), (⟨3, 1⟩, some 3, .prepare)] ∧
    t.bt.table.map (·.vol.state) = [.inSession, .preparing, .ready] ∧
    (t.nq.list.map (·.notice)).drop 1 = [.notReady 2 .notGoverning, t.readyNotice
      (entryIn .preparing (fixed 3 700 790 3 1)), .layoutMismatch 1 ⟨0, 3⟩ ⟨0, 2⟩] := by
  decide +kernel

theorem witness_GroupsAreTheOpenRuns :
    let s := partition0 ⟨.opened, none, none, none, false, false, true⟩ (big State.reset)
    1 ≤ s.segCount ∧ s.segCount ≤ 4 ∧ s.configured 3 = true ∧ s.partConfigured 0 = true ∧
    (⟨0, 2⟩ : Segs) ∈ s.formGroups := by decide

/-- A table without a candidate, one with a prepared and one with an active entry. -/
theorem witness_GoverningEntryIsTheLowestOfItsClass :
    governingOf [plannedAt (fixed 1 600 690 0 1)] ⟨0, 1⟩ = none ∧
    governingOf [entryIn .ready (fixed 1 600 690 0 1), plannedAt (fixed 2 700 790 0 1)] ⟨0, 1⟩ =
      some (entryIn .ready (fixed 1 600 690 0 1)) ∧
    governingOf [entryIn .ready (fixed 1 600 690 0 1), entryIn .overrun (fixed 2 500 590 1 1)] ⟨0, 2⟩ =
      some (entryIn .overrun (fixed 2 500 590 1 1)) ∧
    ( let ties := [entryIn .ready (fixed 3 600 690 0 1), entryIn .preparing (fixed 1 700 790 0 2),
        entryIn .preparing (fixed 2 700 790 0 1)]
      governingOf ties ⟨0, 1⟩ = some (entryIn .ready (fixed 3 600 690 0 1)) ∧
      isPrepared (entryIn .ready (fixed 3 600 690 0 1)) = true ∧
      ties.Pairwise fun a b => a.fix.start ≤ b.fix.start) := by decide

theorem witness_SharesSumToTheHeadcount :
    let s := big State.reset
    let e := entryIn .inSession (fixed 5001 600 690 0 4)
    let bare : Commission := { fourSegments with
      segments := Four.all { SegmentRec.factory with seats := 0, area := 0 } }
    1 ≤ s.segCount ∧ s.segCount ≤ 4 ∧ 1 ≤ e.fix.span ∧ e.fix.first + e.fix.span ≤ s.segCount ∧
    0 < (allSegs.map fun i => (fourSegments.segments.get i).seats).sum ∧
    (allSegs.map fun i => (bare.segments.get i).seats + (bare.segments.get i).area).sum = 0 ∧
    [(⟨0, 2⟩ : Segs), ⟨2, 2⟩].map (shareOf bare [⟨0, 2⟩, ⟨2, 2⟩] e) = [20, 0] := by
  decide

/-- LM's record of {0} lists a second entry that has left the table: the list alone changes. -/
def relisted : State :=
  { runningAt620 with lm := { runningAt620.lm with groups :=
    [⟨⟨0, 1⟩, some 1, .session, [⟨1, ⟨0, 1⟩, 20⟩, ⟨2, ⟨0, 1⟩, 5⟩], 25⟩] } }

/-- R98: a list that has changed alone reaches OT at once: the segment is covered by the item left. -/
theorem test_list_alone_reaches_the_covered_item :
    ((relisted.ot.segs.get 0).covered, relisted.segOccupied 0) = (false, false) ∧
    ( let t := after (.entryStateChange 2 ⟨0, 1⟩ false) relisted
      (t.ot.segs.get 0).covered = true ∧ t.segOccupied 0 = true ∧
      t.lm.groups.map (·.people) = [20]) := by decide +kernel

/-- A running entry that LM does not know yet: its start is compared, the governing changes; a record whose list
alone changes; a set that LBU holds, and one that it does not. -/
theorem witness_EntryChangesReachTheStandings :
    ( let t := after (.entryStateChange 2 ⟨0, 1⟩ false) relisted
      relisted.alive = true ∧ relisted.OutputsFollow ∧
      (relisted.lm.groups.zip t.lm.groups).any (fun p => p.1.governing == p.2.governing &&
        p.1.level == p.2.level && p.1.sessions.map (·.ref) != p.2.sessions.map (·.ref)) = true) ∧
    ( let s : State := { readyAt590 with lm := { readyAt590.lm with governsFirst := [] } }
      s.alive = true ∧ s.OutputsFollow ∧
      (after (.entryStateChange 1 ⟨0, 1⟩ false) s).reports.getLast? = some (.cameToGovern 1)) ∧
    runningAt620.lbu.groups.find? (fun r => r.segs == ⟨0, 1⟩) = some ⟨⟨0, 1⟩, none, .none⟩ ∧
    runningAt620.lbu.groups.any (fun r => r.segs == ⟨1, 1⟩) = false ∧
    runningAt620.alive = true ∧ runningAt620.OutputsFollow ∧ runningAt620.UniqueRefs ∧
    runningAt620.entry? 1 = some (entryIn .inSession (fixed 1 600 690 0 1)) ∧
    isActive (entryIn .inSession (fixed 1 600 690 0 1)) = true ∧
    runningAt620.groupOf? 0 = some (GroupRec.initial ⟨0, 1⟩) ∧
    segsMeet ⟨0, 1⟩ ⟨0, 1⟩ = true ∧
    (GroupRec.initial ⟨0, 1⟩).governing ≠
      (governingOf runningAt620.bt.table ⟨0, 1⟩).map (·.fix.ref) ∧
    Block.ot ∈ [Block.ot, .al, .lbu] ∧
    runningAt620.al.loops.map (fun l => (l.segs, l.mode)) = [(⟨0, 1⟩, .parked)] := by decide +kernel

/-- R110: a PARKED loop whose group comes to PREPARE or SESSION enters ACQUIRE toward the live setpoint, hands a
demand update on, and is PARKED again as the group falls to NONE. -/
theorem test_governing_change_moves_the_loop :
    let change (level : Level) := Instr.governingChange .al ⟨0, 1⟩ (some 1) level
    let shape (s : State) := s.al.loops.map fun l => (l.mode, l.reference)
    [Level.prepare, .session].all (fun level =>
      let t := after (change level) { runningAt620 with reports := [] }
      shape t == [(.acquire, some 210)] && t.reports == [.demandUpdate (demandFigs t.al.loops)] &&
        shape (after (.governingChange .al ⟨0, 1⟩ none .none) t) == [(.parked, none)]) = true := by
  decide +kernel

/-- R111: a setpoint 10 tenths from the reference leaves a SETTLED loop as it is, one of 11 tenths takes it to
ACQUIRE and its SETTLED away. -/
theorem test_setpoint_step_of_more_than_a_degree :
    let s (reference : Nat) : State := { runningAt620 with
      reports := []
      al := { runningAt620.al with loops := runningAt620.al.loops.map fun l =>
        { l with mode := .track, settled := true, reference := some reference, windowMinutes := 3 } } }
    let t (reference : Nat) := after (.governingChange .al ⟨0, 1⟩ (some 1) .session) (s reference)
    (t 220).al.loops.map (fun l => (l.mode, l.settled, l.reference, l.windowMinutes)) =
      [(.track, true, some 220, 3)] ∧ (t 220).reports = [] ∧
    (t 221).al.loops.map (fun l => (l.mode, l.settled, l.reference, l.windowMinutes)) =
      [(.acquire, false, some 210, 0)] ∧
    (t 221).reports.getLast? = some (.lostSettledReport ⟨0, 1⟩) := by decide +kernel

theorem witness_SettledReportsMoveReadiness :
    ( let s := settledLoop ((clocked 590).withTable [entryIn .preparing (fixed 1 600 690 0 1)])
      let e := entryIn .preparing (fixed 1 600 690 0 1)
      s.alive = true ∧ s.OutputsFollow ∧ s.entry? 1 = some e ∧ e.vol.state = .preparing ∧
      ((s.loop? (s.homeGroup e.fix)).any (·.settled)) = true ∧ s.UniqueRefs ∧
      s.entry? 2 = none ∧
      (governed s (some 1) .prepare).lm.groups.any
        (fun r => r.segs == ⟨0, 1⟩ && r.governing == some 1) = true) ∧
    ( let s := (clocked 590).withTable [entryIn .preparing (fixed 1 600 690 0 1)]
      ((s.loop? (s.homeGroup (fixed 1 600 690 0 1))).any (·.settled)) = false) ∧
    ( let e := entryIn .ready (fixed 1 600 690 0 1)
      readyAt590.alive = true ∧ readyAt590.OutputsFollow ∧ readyAt590.entry? 1 = some e ∧
      e.vol.state = .ready ∧ readyAt590.UniqueRefs ∧ e.vol.prepStart = some 580 ∧
      580 ≤ readyAt590.tb.minutes ∧ e.vol.initialError = some 23) := by decide

/-- [62]: the formed set's record, SETTLED, is replaced and the loss reported (R125). -/
theorem test_replaced_loop_reports_its_loss :
    let t := after (.regroupReport .al [] [GroupRec.initial ⟨0, 1⟩]) (settledLoop State.reset)
    t.al.loops.map (fun l => (l.segs, l.settled)) = [(⟨0, 1⟩, false)] ∧
    t.reports.filter (· == .lostSettledReport ⟨0, 1⟩) = [.lostSettledReport ⟨0, 1⟩] := by decide

/-- The group {0} gone and the group {0, 1} formed, in RUN and in SERVICE; an update of AL's exit evaluation
taken before the exit report, and a loop that begins in ACQUIRE. -/
theorem witness_RegroupAndExitReportsRebuildRecords :
    State.reset.alive = true ∧ State.reset.OutputsFollow ∧ State.reset.inRun = true ∧
    (State.reset.ad.groups.map (·.segs)).Nodup ∧
    ((inService State.reset).alive = true ∧ (inService State.reset).OutputsFollow ∧
      (inService State.reset).inRun = false) ∧
    ( let r : GroupRec := { GroupRec.initial ⟨0, 1⟩ with governing := some 1, level := .prepare }
      let s := after (.exitReport .al [r]) (after .serviceLineRelease (inService readyAt590))
      let t := after (.demandUpdate (demandFigs s.al.loops)) s
      t.alive = true ∧ t.OutputsFollow ∧ t.inRun = true ∧ t.ad.exitUpdate = true ∧
      (t.ad.groups.find? fun y => y.segs == ⟨0, 1⟩).isSome = true ∧
      s.al.loops.map (·.mode) = [.acquire] ∧
      s.bt.table.map (·.vol.liveSetpoint) = readyAt590.bt.table.map (·.vol.liveSetpoint)) ∧
    (∀ r ∈ [GroupRec.initial ⟨0, 2⟩], r.segs ∉ [(⟨0, 1⟩ : Segs)]) ∧
    ∀ y ∈ State.reset.ot.groups, y.segs ∉ [(⟨1, 1⟩ : Segs)] ∧ y.segs ∉ [(⟨1, 2⟩ : Segs)] := by decide

def polled : State := after (.sensorPoll 0) State.reset

/-- A segment that is not configured, a free line, a poll that is awaited, a stale timer that runs. -/
theorem witness_SensorTimersFollowTheirTables :
    (State.reset.alive = true ∧ State.reset.OutputsFollow ∧ State.reset.configured 1 = false ∧
      State.reset.configured 0 = true ∧ State.reset.awaits 0 = false ∧
      (State.reset.sensor 0 .presence).stale.isSome = true ∧
      (State.reset.sensor 1 .presence).stale = none) ∧
    (polled.alive = true ∧ polled.OutputsFollow ∧ polled.awaits 0 = true) := by decide

/-- Samples at the bounds of R90, and a third good sample of presence. -/
def goodAnswer : Answer := ⟨true, false, 600, false, 250, false, 0, false⟩

def answered (s : State) : State := after (.sensorAnswer 0 goodAnswer) s

def thirdPoll : State :=
  after (.sensorPoll 0) (answered (after (.sensorPoll 0) (answered polled)))

/-- Both health changes of one answer, one of them, and none. -/
theorem witness_SensorAnswerSettlesHealth :
    ( let health (s : State) := ((s.sensor 0 .presence).health, (s.sensor 0 .daylight).health)
      let one := after (.sensorAnswer 0 { goodAnswer with daylightMark := true }) thirdPoll
      health thirdPoll = (.stale, .stale) ∧ health (answered thirdPoll) = (.ok, .ok) ∧
      health one = (.ok, .fault) ∧ health (answered polled) = health polled) ∧
    (State.reset.alive = true ∧ State.reset.OutputsFollow ∧ State.reset.awaits 0 = false) ∧
    (thirdPoll.alive = true ∧ thirdPoll.OutputsFollow ∧ thirdPoll.awaits 0 = true ∧
      (thirdPoll.sensor 0 .presence).run = 2 ∧ goodAnswer.presence = true ∧
      goodAnswer.presenceMark = false) ∧
    ((answered thirdPoll).sensorOk 0 .presence = true ∧ thirdPoll.configured 0 = true ∧
      (answered thirdPoll).si.presenceSource.get 0 = some 0) := by decide +kernel

def pressed : State := after (.presenceEvent 0) runningAt620

theorem witness_OccupancyFollowsPresenceAndTimers :
    (runningAt620.alive = true ∧ runningAt620.OutputsFollow ∧ runningAt620.configured 0 = true ∧
      runningAt620.configured 1 = false ∧ (runningAt620.ot.segs.get 0).vacancy = none ∧
      runningAt620.UniqueRefs) ∧
    (pressed.alive = true ∧ pressed.OutputsFollow ∧ (pressed.ot.segs.get 0).vacancy.isSome = true) ∧
    ( let s := (clocked 700).withTable [entryIn .overrun (fixed 1 600 690 0 1)]
      let e := entryIn .overrun (fixed 1 600 690 0 1)
      e ∈ s.bt.table ∧ e.vol.state = .overrun ∧ segHas (entrySegs e) 0 = true ∧
        s.entryObserved e = false ∧ s.UniqueRefs) := by decide +kernel

/-- A loop at NONE with and without a walk-in record, and an occupied group that becomes vacant. -/
theorem witness_OccupancyReportMovesLoopAndLights :
    ( let s := driven (walked State.reset)
      s.alive = true ∧ s.OutputsFollow ∧ s.inRun = true ∧ s.al.awaitsExit = false ∧
      (⟨0, 2⟩ : Segs) ≠ ⟨0, 1⟩ ∧
      (s.al.loops.map fun l => (l.segs, l.level)) = [(⟨0, 1⟩, .none)] ∧
      (s.walkIn? ⟨0, 1⟩).isSome = true) ∧
    ( let s := after .serviceLineRelease (inService State.reset)
      s.alive = true ∧ s.OutputsFollow ∧ s.inRun = true ∧ s.al.awaitsExit = true) ∧
    ( let s : State := { State.reset with
        lbu := { State.reset.lbu with occ := [⟨⟨0, 1⟩, true, true, false⟩] } }
      s.alive = true ∧ s.OutputsFollow ∧ s.inRun = true ∧
      standingOf s.lbu.occ ⟨0, 1⟩ = some ⟨⟨0, 1⟩, true, true, false⟩ ∧
      s.lbu.groups.any (fun r => r.segs == ⟨0, 1⟩) = true ∧ (0 : Seg) ∈ segList ⟨0, 1⟩ ∧
      s.configured 0 = true ∧ (inService s).inRun = false ∧ (inService s).alive = true ∧
      (inService s).OutputsFollow) ∧
    Block.si ∈ [Block.si, .ot, .ad] := by decide

/-- A group governed by an entry; a configured segment; a sensor with a last value, OK and not; both glare
timers. -/
theorem witness_SceneDaylightAndGlareArrivals :
    ( let s : State := { State.reset with
        lbu := { State.reset.lbu with groups := [⟨⟨0, 1⟩, some 1, .session⟩] } }
      s.alive = true ∧ (⟨⟨0, 1⟩, some 1, .session⟩ : LbuGroup) ∈ s.lbu.groups ∧
      (0 : Seg) ∈ segList ⟨0, 1⟩ ∧ s.configured 0 = true) ∧
    (((after (.sensorAnswer 0 goodAnswer) polled).sensor 0 .daylight).last = some 0 ∧
      (after (.sensorAnswer 0 goodAnswer) polled).sensorOk 0 .daylight = false ∧
      ((answered thirdPoll).sensor 0 .daylight).last = some 0 ∧
      (answered thirdPoll).sensorOk 0 .daylight = true) ∧
    ((after (.daylightValue 0 3001) State.reset).lbu.segs.get 0).glare.onTimer.isSome = true ∧
    ( let s : State := State.reset.mapGlare 0 fun _ => ⟨true, none, some 5⟩
      s.alive = true ∧ (s.lbu.segs.get 0).glare.offTimer.isSome = true) := by decide +kernel

theorem witness_FadesReachTheirTargetOnTime :
    (100 ≠ LampRow.initial.target) ∧
    ( let r : LampRow := ⟨600, 0, some ⟨600, 2, 0⟩⟩
      r.fade = some ⟨r.level, 2, 0⟩ ∧ 1 ≤ 2 ∧ 20 ≤ 10 * 2) ∧
    (State.reset.alive = true ∧ State.reset.inRun = true ∧ State.reset.configured 0 = true) ∧
    ( let lit : State := { runningAt620 with
        lbu := { runningAt620.lbu with occ := [⟨⟨0, 1⟩, true, false, false⟩] } }
      lit.lbuOccupied ⟨0, 1⟩ = true ∧ lit.shownOf ⟨⟨0, 1⟩, some 1, .session⟩ = .scene 1 ∧
      lit.shownOf ⟨⟨0, 1⟩, some 2, .session⟩ = .unread ∧
      lit.shownOf ⟨⟨0, 1⟩, some 1, .prepare⟩ = .nothing ∧
      lit.shownOf ⟨⟨0, 1⟩, none, .session⟩ = .nothing) := by decide

theorem witness_BlindMotionAndBudgetFollowTheirRules :
    ( let s := withBlind (blindIn .movingUp none) State.reset
      s.alive = true ∧ (s.blind 0).driveUp = none ∧ isMoving (s.blind 0) = true) ∧
    ((withBlind (blindIn .reversing none) State.reset).blind 0).motion = .reversing ∧
    ( let s := withBlind (blindIn .stopped none) State.reset
      s.configured 0 = true ∧ (s.blind 0).driveUp = none ∧ isMoving (s.blind 0) = false ∧
        (s.blind 0).motion ≠ .held) ∧
    ( let s := withBlind (blindIn .held none) State.reset
      s.configured 0 = true ∧ (s.blind 0).driveUp = none ∧ (s.blind 0).motion = .held ∧
        ¬ min (3 * (s.segRec 0).fullTravel) ((s.blind 0).budget + 1) < (s.segRec 0).fullTravel / 2) ∧
    ((State.reset.blind 0).driveUp.isSome = true ∧ 1 ≤ (State.reset.segRec 0).fullTravel ∧
      State.reset.inRun = true ∧ (State.reset.blind 0).target = 0 ∧
      (inService State.reset).inRun = false ∧
      0 < ((withBlind { blindIn .movingUp (some 0) with target := 300 } State.reset).blind 0).target) ∧
    ( let at_ (level : Level) (ref : Option Nat) : State :=
        { runningAt620 with lbu := { runningAt620.lbu with groups := [⟨⟨0, 1⟩, ref, level⟩] } }
      let s := at_ .session (some 1)
      s.inRun = true ∧ s.configured 0 = true ∧ s.lbuGroupOf? 0 = some ⟨⟨0, 1⟩, some 1, .session⟩ ∧
      (s.blind 0).override = none ∧ s.shownOf ⟨⟨0, 1⟩, some 1, .session⟩ = .scene 1 ∧
      (at_ .session (some 2)).shownOf ⟨⟨0, 1⟩, some 2, .session⟩ = .unread ∧
      (at_ .prepare (some 1)).shownOf ⟨⟨0, 1⟩, some 1, .prepare⟩ = .nothing ∧
      ((s.entry? 1).bind (·.vol.currentScene)) = some 1 ∧
      (at_ .none none).shownOf ⟨⟨0, 1⟩, none, .none⟩ = .nothing) ∧
    ((blindIn .stopped none).driveUp = none ∧ isMoving (blindIn .movingDown none) = true ∧
      (blindIn .reversing none).motion = .reversing ∧ (blindIn .held none).motion = .held ∧
      (blindIn .stopped (some 3)).driveUp.isSome = true) := by
  decide

theorem witness_TableSoundAfterEveryStep :
    morning.TableSound ∧ step morning = .next (step' morning) ∧ (step' morning).TableSound :=
  ⟨by decide +kernel, rfl, by decide +kernel⟩

theorem witness_OutputsNoticesAndRecordsFitAfterEveryStep :
    morning.OutputsFollow ∧ morning.NoticesFit ∧ morning.RecordsFit ∧ State.reset.GroupsFormed ∧
    (State.reset.configured 0 = true ∧ State.reset.configured 1 = false) ∧
    step morning = .next (step' morning) :=
  ⟨by decide +kernel, by decide +kernel, by decide +kernel, by decide +kernel, by decide, rfl⟩

end Sys2Proof.Tests
end

/-! BOOK ADD (R14): the model's checks are those of R14's table, one by one, and the fields it stores are
those R9 and R10 give. The lemmas on the single checks serve LOAD ENTRY (R58) as well. -/

namespace Sys2Proof.Machine

/-! ### The single checks, in the words of the admission rules -/

theorem supervisorKind?_isNone (code : Nat) :
    (supervisorKind? code).isNone = (code == 0 || decide (5 ≤ code)) := by
  match code with
  | 0 | 1 | 2 | 3 | 4 => rfl
  | n + 5 => simp [supervisorKind?]

theorem supervisorKind?_getD (code : Nat) : (supervisorKind? code).getD .lecture = kindOf code := by
  match code with
  | 0 | 1 | 2 | 3 | 4 => rfl
  | n + 5 => simp [supervisorKind?, kindOf]

/-- R5, R9 and R10: the first check of R14 and of R58. -/
theorem badOffer_eq_badFields (w : FixedWire) : badOffer w = badFields w := by
  simp only [badOffer, badFields, badNewRef, supervisorKind?_isNone, Bool.or_assoc]
  rfl

theorem badSegs_eq_outsideSuite (s : State) (g : Segs) :
    badSegs s.segCount g = outsideSuite s g.first g.span := by
  have hspan : (g.span == 0) = decide (g.span < 1) := by
    rw [Bool.eq_iff_iff]; simp
  simp only [badSegs, outsideSuite, hspan]
  rfl

/-- R8: the duration as two bounds on the end is the signed difference. -/
theorem badDuration_eq_wrongDuration (f : Fixed) :
    badDuration f = wrongDuration f.start f.stop := by
  rw [Bool.eq_iff_iff]
  simp only [badDuration, wrongDuration, Bool.or_eq_true, decide_eq_true_eq]
  omega

theorem isPast_eq_endPassed (s : State) (f : Fixed) : isPast s f = endPassed s f.stop := rfl

theorem inLoad_eq_startLoading (s : State) (start : Nat) : inLoad s start = startLoading s start := by
  unfold inLoad startLoading
  cases s.load <;> rfl

theorem overlaps_eq_clash (a b : Fixed) : overlaps a b = clash a b := rfl

theorem State.entry?_isSome (s : State) (ref : Nat) :
    (s.entry? ref).isSome = s.bt.table.any fun e => e.fix.ref == ref := by
  rw [State.entry?, Bool.eq_iff_iff, List.find?_isSome, List.any_eq_true]

/-! ### The fields stored (R9, R10) -/

/-- R10 clamps a signed setpoint once; clamping it again as a natural number alters nothing. -/
theorem clampNat_clampInt_setpoint (n : Int) :
    clampNat 160 280 (clampInt 160 280 n) = (max 160 (min 280 n)).toNat := by
  simp only [clampNat, clampInt]
  omega

/-- R9: only EXAM, the supervisor's code 3, settles the two flags. -/
theorem kindOf_eq_exam_iff (code : Nat) : kindOf code = .exam ↔ code = 3 := by
  unfold kindOf
  split_ifs <;> simp_all

theorem settleFlags_eq (f : Fixed) :
    settleFlags f = { f with
      held := f.held || f.kind == .exam
      exempt := f.exempt || f.kind == .exam } := by
  obtain ⟨ref, start, stop, first, span, kind, _⟩ := f
  cases kind <;> simp [settleFlags]

/-- What the model offers the table is the entry that R9 and R10 make of the request. -/
theorem offered_eq_admitted (s : State) (w : FixedWire) : offered s.comm w = admitted s w := by
  have hexam : (kindOf w.kind == .exam) = (w.kind == 3) := by
    rw [Bool.eq_iff_iff]; simp [kindOf_eq_exam_iff]
  have hlead : clampNat 0 90 = min 90 := by
    funext n; simp [clampNat]
  have hset : clampNat 160 280 ∘ clampInt 160 280 = fun n => (max 160 (min 280 n)).toNat :=
    funext clampNat_clampInt_setpoint
  simp only [offered, settleFlags_eq, clampFixed, admitted, supervisorKind?_getD, hexam, hlead,
    Option.map_map, hset]
  rfl

/-! ### The checks in order -/

/-- A table of checks by the reason of its first failing check. -/
theorem judged_eq (s : State) (checks : List (Bool × Reason)) (act : State → Answered) :
    judged s checks act =
      if firstFault checks = .ok then act s else refuse s (firstFault checks) := by
  unfold judged
  cases firstFault checks <;> rfl

/-- The model's table of checks answers the reason of R14's table. -/
theorem firstFault_addChecks (s : State) (w : FixedWire) :
    firstFault (addChecks s w) = addReason s w := by
  simp only [addChecks, firstFault, addReason, offered_eq_admitted, badOffer_eq_badFields,
    badSegs_eq_outsideSuite, badDuration_eq_wrongDuration, isPast_eq_endPassed,
    inLoad_eq_startLoading, State.entry?_isSome, overlapsLive, overlaps_eq_clash,
    decide_eq_true_eq]
  rfl

/-! ### BOOK ADD (R14) -/

theorem State.bookAdd_eq (s : State) (w : FixedWire) :
    s.bookAdd w = if addReason s w = .ok
      then answerOk (s.addEntry ⟨admitted s w, Volatile.planned⟩)
      else refuse s (addReason s w) := by
  simp only [State.bookAdd, judged_eq, firstFault_addChecks, offered_eq_admitted]

/-- Settles O12: the checks read nothing that holding the request alters, so the held state is judged
as R14's table judges the state itself, and neither outcome touches a figure that is driven. -/
theorem bookAddAdmitsOrRefuses : Obligations.BookAddAdmitsOrRefuses := by
  intro s w hs ho
  have held_reason : addReason (s.hold 0x10) w = addReason s w := rfl
  show Host.Outcome.next (s.request 0x10 (State.bookAdd w)) = _
  congr 1
  split
  case isTrue h =>
    refine State.request_replied hs ho ?_ rfl rfl
    rw [State.bookAdd_eq, held_reason, if_pos h]
    rfl
  case isFalse h =>
    refine State.request_replied hs ho ?_ rfl rfl
    rw [State.bookAdd_eq, held_reason, if_neg h]
    rfl

end Sys2Proof.Machine

/-! LOAD OPEN and LOAD ENTRY (R57, R58): the model's checks are those of the two tables, in order, and the
entry staged is the one R9 and R10 make of the request. -/

namespace Sys2Proof.Machine

/-! ### Opening a load (R57) -/

/-- A table of checks taken apart by its first: `judged_fail` and `judged_pass` in one equation. -/
theorem judged_cons {r : Reason} (hr : r ≠ .ok) (s : State) (bad : Bool)
    (rest : List (Bool × Reason)) (act : State → Answered) :
    judged s ((bad, r) :: rest) act = if bad then refuse s r else judged s rest act := by
  cases bad with
  | false => rfl
  | true => exact judged_fail hr

theorem State.loadOpen_eq (s : State) (lo hi : Nat) :
    s.loadOpen (lo, hi) =
      if s.inRun = false then refuse s .wrongMode
      else if s.load.isSome then refuse s .loading
      else if hi ≤ lo then refuse s .badRange
      else answerOk { s with load := some ⟨lo, hi, [], 1200⟩ } := by
  rw [State.loadOpen, judged_cons (by decide), judged_cons (by decide), judged_cons (by decide),
    judged_nil]
  simp only [Bool.not_eq_true', decide_eq_true_eq]
  rfl

/-! ### Staging an entry (R58) -/

/-- R58: a start outside the half-open range of the load, as its two bounds. -/
theorem not_inLoad_eq_outsideRange {s : State} {l : Load} (hl : s.load = some l) (start : Nat) :
    (!inLoad s start) = (decide (start < l.lo) || decide (l.hi ≤ start)) := by
  simp only [inLoad, hl, Bool.not_and, ← decide_not, Nat.not_le, Nat.not_lt]

/-- The model's table of checks answers the reason of R58's table. -/
theorem firstFault_stageChecks {s : State} {l : Load} (hl : s.load = some l) (w : FixedWire) :
    firstFault (stageChecks s l w) = stageReason s l w := by
  simp only [stageChecks, firstFault, stageReason, offered_eq_admitted, badOffer_eq_badFields,
    badSegs_eq_outsideSuite, badDuration_eq_wrongDuration, isPast_eq_endPassed,
    not_inLoad_eq_outsideRange hl, ← Bool.or_assoc, decide_eq_true_eq]
  rfl

theorem State.loadEntry_of_no_load {s : State} (hl : s.load = none) (w : FixedWire) :
    s.loadEntry w = refuse s .noLoad := by
  simp only [State.loadEntry, hl]

theorem State.loadEntry_of_load {s : State} {l : Load} (hl : s.load = some l) (w : FixedWire) :
    s.loadEntry w = if stageReason s l w = .ok then
        ({ s with load := some { l with
          staged := insertFixed (admitted s w) l.staged, idle := 1200 } }, .ok,
          be 1 (l.staged.length + 1))
      else refuse s (stageReason s l w) := by
  have count : (insertFixed (admitted s w) l.staged).length = l.staged.length + 1 :=
    length_insertBy ..
  simp only [State.loadEntry, hl, judged_eq, firstFault_stageChecks hl, offered_eq_admitted, count]
  rfl

/-- Settles O17: the owner answers the held state as R57 and R58 say, holding the request alters nothing
that the checks read, and no outcome touches a figure that is driven. -/
theorem loadOpenAndEntryStage : Obligations.LoadOpenAndEntryStage := by
  intro s hs ho
  refine ⟨fun lo hi => ?opening, fun w hl => ?noLoad, fun w l hl => ?staging⟩
  case opening =>
    have held_mode : (s.hold 0x20).inRun = s.inRun := rfl
    have held_load : (s.hold 0x20).load = s.load := rfl
    have answer := State.loadOpen_eq (s.hold 0x20) lo hi
    rw [held_mode, held_load] at answer
    show Host.Outcome.next (s.request 0x20 (State.loadOpen (lo, hi))) = _
    congr 1
    split_ifs at answer ⊢ <;> exact State.request_replied hs ho answer rfl rfl
  case noLoad =>
    have answer := State.loadEntry_of_no_load (s := s.hold 0x21) hl w
    exact congrArg Host.Outcome.next (State.request_replied hs ho answer rfl rfl)
  case staging =>
    have held_reason : stageReason (s.hold 0x21) l w = stageReason s l w := rfl
    have answer := State.loadEntry_of_load (s := s.hold 0x21) hl w
    rw [held_reason] at answer
    show Host.Outcome.next (s.request 0x21 (State.loadEntry w)) = _
    congr 1
    split_ifs at answer ⊢ <;> exact State.request_replied hs ho answer rfl rfl

end Sys2Proof.Machine

/-! The division of air (R136 to R138): the two divisions share one shape, a floor of the exact share for
each item and then the leftover, one each in order, to the items with room. That shape is treated once, for
items of any kind; the groups (R137) and the segments (R138) are its two uses. -/

namespace Sys2Proof.Machine

/-! ### Sums over a list -/

section Sums

variable {α : Type} {f g : α → Nat} {l : List α}

/-- Items bounded one by one whose totals leave no gap are equal one by one. -/
theorem eq_of_le_of_sum_le (hle : ∀ a ∈ l, f a ≤ g a) (hsum : (l.map g).sum ≤ (l.map f).sum) :
    ∀ a ∈ l, f a = g a := by
  intro a ha
  by_contra hne
  exact absurd (List.sum_lt_sum f g hle ⟨a, ha, lt_of_le_of_ne (hle a ha) hne⟩) (not_lt.mpr hsum)

theorem sum_map_sub (hle : ∀ a ∈ l, f a ≤ g a) :
    (l.map fun a => g a - f a).sum = (l.map g).sum - (l.map f).sum := by
  have split : (l.map g).sum = (l.map f).sum + (l.map fun a => g a - f a).sum := by
    rw [← List.sum_map_add]
    exact congrArg List.sum (List.map_congr_left fun a ha => (Nat.add_sub_of_le (hle a ha)).symm)
  omega

end Sums

/-! ### One each in order (step 4 of R137 and of R138) -/

section ShareOut

variable {α : Type} (base : α → Nat) (room : α → Bool)

/-- Every item its base, and one more to the first `left` items that have room. -/
def shareOut : Nat → List α → List Nat
  | _, [] => []
  | left, a :: l =>
    if 0 < left ∧ room a = true then (base a + 1) :: shareOut (left - 1) l
    else base a :: shareOut left l

theorem shareOut_length (left : Nat) (l : List α) : (shareOut base room left l).length = l.length := by
  induction l generalizing left with
  | nil => rfl
  | cons a l ih => simp only [shareOut]; split <;> simp [ih]

theorem shareOut_zero (l : List α) : shareOut base room 0 l = l.map base := by
  induction l with
  | nil => rfl
  | cons a l ih => simp [shareOut, ih]

/-- An item gets one more exactly where it has room and fewer than `left` before it have. -/
theorem getElem?_shareOut {l : List α} {k : Nat} {a : α} (left : Nat) (h : l[k]? = some a) :
    (shareOut base room left l)[k]? = some (base a +
      if room a = true ∧ ((l.take k).filter room).length < left then 1 else 0) := by
  induction l generalizing left k with
  | nil => simp at h
  | cons b l ih =>
    simp only [shareOut]
    cases k with
    | zero =>
      obtain rfl : b = a := by simpa using h
      split
      case isTrue taken => simp [taken]
      case isFalse passed => simp [and_comm.not.mp passed]
    | succ k =>
      replace h : l[k]? = some a := by simpa using h
      split
      case isTrue taken =>
        obtain ⟨hleft, hroom⟩ := taken
        have before : ((l.take k).filter room).length + 1 < left ↔
            ((l.take k).filter room).length < left - 1 := by omega
        simp [ih (left - 1) h, hroom, before]
      case isFalse passed =>
        cases hroom : room b with
        | false => simp [ih left h, hroom]
        | true =>
          obtain rfl : left = 0 := by simpa [hroom] using passed
          simp [ih 0 h]

/-- Where enough items have room, the whole of `left` is given. -/
theorem sum_shareOut {left : Nat} {l : List α} (h : left ≤ l.countP room) :
    (shareOut base room left l).sum = (l.map base).sum + left := by
  induction l generalizing left with
  | nil => simpa [shareOut, eq_comm] using h
  | cons a l ih =>
    rw [List.countP_cons] at h
    simp only [shareOut, List.map_cons, List.sum_cons]
    split
    case isTrue taken =>
      have given := ih (left := left - 1) (by split at h <;> omega)
      simp only [List.sum_cons]
      omega
    case isFalse passed =>
      have full : left ≤ l.countP room := by
        cases hroom : room a with
        | false => simpa [hroom] using h
        | true =>
          obtain rfl : left = 0 := by simpa [hroom] using passed
          exact Nat.zero_le _
      have given := ih full
      simp only [List.sum_cons]
      omega

/-- Every item stays between its base and a cap that an item with room has not reached. -/
theorem shareOut_between {cap : α → Nat} {l : List α} (hcap : ∀ a ∈ l, base a ≤ cap a)
    (hroom : ∀ a ∈ l, room a = true → base a < cap a) (left : Nat) :
    ∀ p ∈ l.zip (shareOut base room left l), base p.1 ≤ p.2 ∧ p.2 ≤ cap p.1 := by
  intro p hp
  obtain ⟨k, hk⟩ := List.mem_iff_getElem?.mp hp
  obtain ⟨item, value⟩ := List.getElem?_zip_eq_some.mp hk
  have ha := List.mem_of_getElem? item
  have below := hcap p.1 ha
  rw [getElem?_shareOut base room left item, Option.some.injEq] at value
  rw [← value]
  split
  case isTrue given =>
    have := hroom p.1 ha given.1
    omega
  case isFalse => omega

end ShareOut

/-! ### The floors of the exact shares (step 3 of R137 and of R138) -/

section Floors

variable {α : Type} (w : α → Nat) (l : List α) (surplus : Nat)

/-- No more than the surplus is given by the floors. -/
theorem sum_floors_le :
    (l.map fun a => surplus * w a / (l.map w).sum).sum ≤ surplus := by
  rcases Nat.eq_zero_or_pos (l.map w).sum with hw | hw
  · simp [hw]
  · refine Nat.le_of_mul_le_mul_left ?_ hw
    calc (l.map w).sum * (l.map fun a => surplus * w a / (l.map w).sum).sum
        = (l.map fun a => (l.map w).sum * (surplus * w a / (l.map w).sum)).sum :=
          (List.sum_map_mul_left ..).symm
      _ ≤ (l.map fun a => surplus * w a).sum :=
          List.sum_le_sum fun a _ => Nat.mul_div_le ..
      _ = (l.map w).sum * surplus := by rw [List.sum_map_mul_left, Nat.mul_comm]

/-- A floor below its weight falls short of its exact share by less than one, and no other floor falls
short at all: so the leftover is at most the number of floors below their weight. -/
theorem le_sum_floors_add_countP (h : surplus ≤ (l.map w).sum) :
    surplus ≤ (l.map fun a => surplus * w a / (l.map w).sum).sum +
      l.countP fun a => decide (surplus * w a / (l.map w).sum < w a) := by
  generalize hW : (l.map w).sum = W at h ⊢
  rcases Nat.eq_zero_or_pos W with rfl | hpos
  · omega
  · have each : ∀ a, surplus * w a ≤
        W * (surplus * w a / W + if surplus * w a / W < w a then 1 else 0) := by
      intro a
      split
      case isTrue => exact (Nat.lt_mul_div_succ _ hpos).le
      case isFalse full =>
        calc surplus * w a ≤ W * w a := Nat.mul_le_mul_right _ h
          _ ≤ W * (surplus * w a / W + 0) := Nat.mul_le_mul_left _ (not_lt.mp full)
    refine Nat.le_of_mul_le_mul_left ?_ hpos
    calc W * surplus = (l.map fun a => surplus * w a).sum := by
          rw [List.sum_map_mul_left, hW, Nat.mul_comm]
      _ ≤ (l.map fun a => W * (surplus * w a / W +
            if surplus * w a / W < w a then 1 else 0)).sum := List.sum_le_sum fun a _ => each a
      _ = _ := by
          rw [List.sum_map_mul_left, List.sum_map_add, List.sum_map_ite]
          simp [List.countP_eq_length_filter]

theorem floor_le_weight {surplus W : Nat} (h : surplus ≤ W) (v : Nat) : surplus * v / W ≤ v :=
  Nat.div_le_of_le_mul (Nat.mul_le_mul_right v h)

end Floors

/-! ### The division among the groups (R136, R137) -/

section Groups

variable {total : Nat} {groups : List AdGroup}

/-- A group's floor in step 3 of R137. -/
def groupShare (total : Nat) (groups : List AdGroup) (g : AdGroup) : Nat :=
  (total - (groups.map (·.qmin)).sum) * (g.qd - g.qmin) /
    ((groups.map (·.qd)).sum - (groups.map (·.qmin)).sum)

/-- The leftover of step 4 of R137. -/
def groupLeftover (total : Nat) (groups : List AdGroup) : Nat :=
  (total - (groups.map (·.qmin)).sum) - (groups.map (groupShare total groups)).sum

/-- The groups that step 4 of R137 passes: those of weight above 0. -/
def asksMore (g : AdGroup) : Bool := decide (g.qmin < g.qd)

theorem sum_weights (hle : ∀ g ∈ groups, g.qmin ≤ g.qd) :
    (groups.map fun g => g.qd - g.qmin).sum =
      (groups.map (·.qd)).sum - (groups.map (·.qmin)).sum := sum_map_sub hle

theorem giveLeftover_eq_shareOut (base : AdGroup → Nat) (left : Nat) (groups : List AdGroup) :
    giveLeftover left (groups.map fun g => (g, base g)) = shareOut base asksMore left groups := by
  induction groups generalizing left with
  | nil => rfl
  | cons g groups ih => simp only [List.map_cons, giveLeftover, shareOut, ih, asksMore,
      decide_eq_true_eq]

theorem allocations_of_demands_le (h : (groups.map (·.qd)).sum ≤ total) :
    allocations total groups = groups.map (·.qd) := if_pos h

theorem allocations_of_lt_demands (hle : ∀ g ∈ groups, g.qmin ≤ g.qd)
    (h : total < (groups.map (·.qd)).sum) :
    allocations total groups = shareOut (fun g => g.qmin + groupShare total groups g) asksMore
      (groupLeftover total groups) groups := by
  have weights : sumOf (fun g => g.qd - g.qmin) groups =
      (groups.map (·.qd)).sum - (groups.map (·.qmin)).sum := sum_weights hle
  have floors : (fun g : AdGroup => if sumOf (fun g => g.qd - g.qmin) groups = 0 then 0 else
      (total - sumOf (·.qmin) groups) * (g.qd - g.qmin) / sumOf (fun g => g.qd - g.qmin) groups) =
      groupShare total groups := by
    funext g
    split
    case isTrue none => rw [groupShare, ← weights, none, Nat.div_zero]
    case isFalse => rw [groupShare, ← weights]; rfl
  rw [← giveLeftover_eq_shareOut]
  refine (if_neg (not_le.mpr h)).trans ?_
  simp only [floors, ← List.map_prod_left_eq_zip, List.map_map]
  rfl

theorem groupShare_le (h : total ≤ (groups.map (·.qd)).sum) (g : AdGroup) :
    groupShare total groups g ≤ g.qd - g.qmin :=
  floor_le_weight (Nat.sub_le_sub_right h _) _

/-- The surplus is less than the weights' sum, so a group of weight above 0 stays below its demand. -/
theorem groupShare_lt (hmin : (groups.map (·.qmin)).sum ≤ total)
    (h : total < (groups.map (·.qd)).sum) {g : AdGroup} (hg : g.qmin < g.qd) :
    groupShare total groups g < g.qd - g.qmin := by
  rw [groupShare, Nat.div_lt_iff_lt_mul (by omega), Nat.mul_comm]
  exact Nat.mul_lt_mul_of_pos_left (by omega) (by omega)

/-- One pass through the groups of weight above 0 uses the leftover up (R137, step 4). -/
theorem groupLeftover_le_countP (hle : ∀ g ∈ groups, g.qmin ≤ g.qd)
    (h : total ≤ (groups.map (·.qd)).sum) :
    groupLeftover total groups ≤ groups.countP asksMore := by
  have short := le_sum_floors_add_countP (fun g : AdGroup => g.qd - g.qmin) groups
    (total - (groups.map (·.qmin)).sum) (by rw [sum_weights hle]; omega)
  rw [sum_weights hle] at short
  have counted : groups.countP (fun g => decide (groupShare total groups g < g.qd - g.qmin)) ≤
      groups.countP asksMore :=
    List.countP_mono_left fun g _ hg => by simp only [asksMore, decide_eq_true_eq] at hg ⊢; omega
  rw [groupLeftover, Nat.sub_le_iff_le_add']
  exact short.trans (Nat.add_le_add_left counted _)

theorem sum_groupShare_le (hle : ∀ g ∈ groups, g.qmin ≤ g.qd) :
    (groups.map (groupShare total groups)).sum ≤ total - (groups.map (·.qmin)).sum := by
  have floors := sum_floors_le (fun g : AdGroup => g.qd - g.qmin) groups
    (total - (groups.map (·.qmin)).sum)
  rwa [sum_weights hle] at floors

theorem sum_allocations (hle : ∀ g ∈ groups, g.qmin ≤ g.qd)
    (hmin : (groups.map (·.qmin)).sum ≤ total) (h : total < (groups.map (·.qd)).sum) :
    (allocations total groups).sum = total := by
  have parts : (groups.map fun g => g.qmin + groupShare total groups g).sum =
      (groups.map (·.qmin)).sum + (groups.map (groupShare total groups)).sum := List.sum_map_add
  have floors := sum_groupShare_le (total := total) hle
  rw [allocations_of_lt_demands hle h, sum_shareOut _ _ (groupLeftover_le_countP hle h.le), parts,
    groupLeftover]
  omega

theorem allocations_length (hle : ∀ g ∈ groups, g.qmin ≤ g.qd) :
    (allocations total groups).length = groups.length := by
  rcases le_or_gt (groups.map (·.qd)).sum total with h | h
  · rw [allocations_of_demands_le h, List.length_map]
  · rw [allocations_of_lt_demands hle h, shareOut_length]

/-- A total at the sum of the minima leaves no surplus. -/
theorem allocations_minima (hle : ∀ g ∈ groups, g.qmin ≤ g.qd) :
    allocations (groups.map (·.qmin)).sum groups = groups.map (·.qmin) := by
  rcases le_or_gt (groups.map (·.qd)).sum (groups.map (·.qmin)).sum with h | h
  · rw [allocations_of_demands_le h]
    exact List.map_congr_left fun g hg => (eq_of_le_of_sum_le hle h g hg).symm
  · rw [allocations_of_lt_demands hle h]
    simp [groupLeftover, groupShare, shareOut_zero]

theorem allocations_between (hle : ∀ g ∈ groups, g.qmin ≤ g.qd)
    (hmin : (groups.map (·.qmin)).sum ≤ total) :
    ∀ p ∈ groups.zip (allocations total groups), p.1.qmin ≤ p.2 ∧ p.2 ≤ p.1.qd := by
  intro p hp
  rcases le_or_gt (groups.map (·.qd)).sum total with h | h
  · rw [allocations_of_demands_le h, ← List.map_prod_left_eq_zip] at hp
    obtain ⟨g, hg, rfl⟩ := List.mem_map.mp hp
    exact ⟨hle g hg, le_rfl⟩
  · rw [allocations_of_lt_demands hle h] at hp
    have between := shareOut_between _ asksMore (cap := (·.qd))
      (fun g hg => by
        have := hle g hg
        have := groupShare_le h.le g
        omega)
      (fun g hg hasks => by
        have := groupShare_lt hmin h (of_decide_eq_true hasks)
        omega) _ p hp
    exact ⟨(Nat.le_add_right ..).trans between.1, between.2⟩

end Groups

/-- Settles O23: with the total at or above the sum of the demands each clause is that of the demands;
below it the allocations are the shares of R137 with the leftover given one each, in order. -/
theorem allocationsSumToTheGrantedTotal : Obligations.AllocationsSumToTheGrantedTotal := by
  intro groups grant hle hgrant qd qmin total share leftover
  have hmin : qmin ≤ total := le_max_left ..
  refine ⟨rfl, allocations_of_demands_le, fun full => ?whole, fun low => ?minima,
    fun h => ⟨sum_allocations hle hmin h, fun k g hk => ?position⟩, allocations_length hle,
    allocations_between hle hmin⟩
  case whole =>
    refine allocations_of_demands_le (le_max_of_le_right ?_)
    rw [full, Nat.mul_div_cancel _ (by decide)]
  case minima =>
    have : total = qmin := max_eq_left low
    rw [this]
    exact allocations_minima hle
  case position =>
    rw [allocations_of_lt_demands hle h, getElem?_shareOut _ _ _ hk]
    simp only [asksMore, decide_eq_true_eq]
    rfl

/-! ### The split of a group's allocation (R138) -/

/-- A segment's part of the spare, by the figures of the group's record (R138, step 3). -/
def State.spareShare (s : State) (g : AdGroup) (i : Seg) : Nat :=
  s.spareOf (g.alloc - g.qmin) (g.qmax - g.qmin) i

theorem State.spareShare_le (s : State) (g : AdGroup) (i : Seg) :
    s.spareShare g i ≤ (s.segRec i).airMax - (s.segRec i).airMin := s.spareOf_le ..

/-- What the split gives a segment before the leftover. -/
def State.floorTarget (s : State) (g : AdGroup) (i : Seg) : Nat :=
  (s.segRec i).airMin + s.spareShare g i

/-- The segments that step 4 of R138 passes: those still below their maximum. -/
def State.belowMax (s : State) (g : AdGroup) (i : Seg) : Bool :=
  decide (s.floorTarget g i < (s.segRec i).airMax)

/-- The leftover of R138; with a range of 0 step 4 is not reached. -/
def State.splitLeftover (s : State) (g : AdGroup) : Nat :=
  if g.qmax - g.qmin = 0 then 0
  else (g.alloc - g.qmin) -
    ((segList g.segs).map (s.spareShare g)).sum

theorem topUp_eq_zip_shareOut (base high : Seg → Nat) (left : Nat) (segs : List Seg) :
    topUp left (segs.map fun i => (i, base i, high i)) =
      segs.zip (shareOut base (fun i => decide (base i < high i)) left segs) := by
  induction segs generalizing left with
  | nil => rfl
  | cons i segs ih =>
    simp only [List.map_cons, topUp, shareOut, ih, decide_eq_true_eq]
    split <;> rfl

theorem State.splitGroup_eq_zip_shareOut (s : State) (g : AdGroup) :
    s.splitGroup g = (segList g.segs).zip
      (shareOut (s.floorTarget g) (s.belowMax g) (s.splitLeftover g) (segList g.segs)) := by
  rw [State.splitGroup, State.splitLeftover]
  split
  case isTrue zero =>
    have floor : s.floorTarget g = fun i => (s.segRec i).airMin := by
      funext i
      simp [State.floorTarget, State.spareShare, State.spareOf, zero]
    rw [shareOut_zero, floor, ← List.map_prod_left_eq_zip]
  case isFalse =>
    simp only [← List.map_prod_left_eq_zip, List.map_map]
    exact topUp_eq_zip_shareOut (s.floorTarget g) (fun i => (s.segRec i).airMax) _ _

theorem State.splitGroup_fst (s : State) (g : AdGroup) :
    (s.splitGroup g).map Prod.fst = segList g.segs := by
  rw [s.splitGroup_eq_zip_shareOut, List.map_fst_zip (shareOut_length ..).ge]

theorem State.splitGroup_snd (s : State) (g : AdGroup) :
    (s.splitGroup g).map Prod.snd =
      shareOut (s.floorTarget g) (s.belowMax g) (s.splitLeftover g) (segList g.segs) := by
  rw [s.splitGroup_eq_zip_shareOut, List.map_snd_zip (shareOut_length ..).le]

theorem State.splitGroup_between {s : State} (hle : ∀ i, (s.segRec i).airMin ≤ (s.segRec i).airMax)
    (g : AdGroup) :
    ∀ p ∈ s.splitGroup g, (s.segRec p.1).airMin ≤ p.2 ∧ p.2 ≤ (s.segRec p.1).airMax := by
  intro p hp
  rw [s.splitGroup_eq_zip_shareOut] at hp
  have between := shareOut_between _ (s.belowMax g) (cap := fun i => (s.segRec i).airMax)
    (fun i _ => by
      have := s.spareShare_le g i
      have := hle i
      unfold State.floorTarget
      omega)
    (fun i _ below => of_decide_eq_true below) _ p hp
  exact ⟨(Nat.le_add_right ..).trans between.1, between.2⟩

theorem segList_ascending (g : Segs) : (segList g).Pairwise (· < ·) :=
  List.Pairwise.filter _ (by decide)

/-- In an ascending list the lower items are those that stand before. -/
theorem filter_lt_eq_take {l : List Seg} (asc : l.Pairwise (· < ·)) {k : Nat} {i : Seg}
    (h : l[k]? = some i) : l.filter (fun j => decide (j < i)) = l.take k := by
  induction l generalizing k with
  | nil => simp at h
  | cons j l ih =>
    obtain ⟨first, rest⟩ := List.pairwise_cons.mp asc
    cases k with
    | zero =>
      obtain rfl : j = i := by simpa using h
      simpa using fun x hx => (first x hx).le
    | succ k =>
      replace h : l[k]? = some i := by simpa using h
      simp [first i (List.mem_of_getElem? h), ih rest h]

/-- The target of a segment by its number: the leftover goes to the lowest segments below their
maximum. -/
theorem State.splitGroup_target (s : State) (g : AdGroup) {p : Seg × Nat} (hp : p ∈ s.splitGroup g) :
    p.2 = s.floorTarget g p.1 + if s.belowMax g p.1 = true ∧
      ((segList g.segs).filter fun j => decide (j < p.1) && s.belowMax g j).length <
        s.splitLeftover g then 1 else 0 := by
  rw [s.splitGroup_eq_zip_shareOut] at hp
  obtain ⟨k, hk⟩ := List.mem_iff_getElem?.mp hp
  obtain ⟨item, value⟩ := List.getElem?_zip_eq_some.mp hk
  rw [getElem?_shareOut _ _ _ item, Option.some.injEq] at value
  rw [← value, ← filter_lt_eq_take (segList_ascending g.segs) item, List.filter_filter]
  simp only [Bool.and_comm]

/-! ### A record of the figures now in effect -/

/-- The record's minimum and maximum are the sums over its segments, and its allocation lies between. -/
structure State.RecordMatches (s : State) (g : AdGroup) : Prop where
  range : ∀ i, (s.segRec i).airMin ≤ (s.segRec i).airMax
  qmin : g.qmin = ((segList g.segs).map fun i => (s.segRec i).airMin).sum
  qmax : g.qmax = ((segList g.segs).map fun i => (s.segRec i).airMax).sum
  above : g.qmin ≤ g.alloc
  below : g.alloc ≤ g.qmax

section Matching

variable {s : State} {g : AdGroup}

theorem State.RecordMatches.range_eq (h : s.RecordMatches g) : g.qmax - g.qmin =
    ((segList g.segs).map fun i => (s.segRec i).airMax - (s.segRec i).airMin).sum := by
  rw [sum_map_sub fun i _ => h.range i, ← h.qmin, ← h.qmax]

/-- The cut of a share to the segment's own range cuts nothing off [45]. -/
theorem State.RecordMatches.spareShare_eq (h : s.RecordMatches g) (i : Seg) :
    s.spareShare g i =
      (g.alloc - g.qmin) * ((s.segRec i).airMax - (s.segRec i).airMin) / (g.qmax - g.qmin) :=
  min_eq_right (floor_le_weight (Nat.sub_le_sub_right h.below _) _)

theorem State.RecordMatches.splitLeftover_eq (h : s.RecordMatches g) :
    s.splitLeftover g = (g.alloc - g.qmin) -
      ((segList g.segs).map (s.spareShare g)).sum := by
  have := h.below
  unfold State.splitLeftover
  split <;> omega

theorem State.RecordMatches.sum_spareShare_le (h : s.RecordMatches g) :
    ((segList g.segs).map (s.spareShare g)).sum ≤
      g.alloc - g.qmin := by
  rw [funext h.spareShare_eq, h.range_eq]
  exact sum_floors_le ..

/-- One pass through the segments below their maximum uses the leftover up (R138, step 4). -/
theorem State.RecordMatches.splitLeftover_le_countP (h : s.RecordMatches g) :
    s.splitLeftover g ≤ (segList g.segs).countP (s.belowMax g) := by
  have room : s.belowMax g = fun i => decide (s.spareShare g i <
      (s.segRec i).airMax - (s.segRec i).airMin) := by
    funext i
    exact decide_eq_decide.mpr (Nat.lt_sub_iff_add_lt'.symm)
  have spare_le : g.alloc - g.qmin ≤ g.qmax - g.qmin := Nat.sub_le_sub_right h.below _
  rw [h.splitLeftover_eq, room, Nat.sub_le_iff_le_add']
  simp only [funext h.spareShare_eq]
  rw [h.range_eq] at spare_le ⊢
  exact le_sum_floors_add_countP _ _ _ spare_le

theorem State.RecordMatches.sum_splitGroup (h : s.RecordMatches g) :
    ((s.splitGroup g).map Prod.snd).sum = g.alloc := by
  rw [s.splitGroup_snd, sum_shareOut _ _ h.splitLeftover_le_countP, h.splitLeftover_eq]
  unfold State.floorTarget
  rw [List.sum_map_add, ← h.qmin]
  have := h.sum_spareShare_le
  have := h.above
  omega

end Matching

/-- Settles O24: every target is its floor and at most one of the leftover, which only a segment below its
maximum gets; under a record of the figures in effect the floors are the exact shares rounded down, and
there are segments enough for the leftover. -/
theorem segmentTargetsSumToTheAllocation : Obligations.SegmentTargetsSumToTheAllocation := by
  intro s g hle
  refine ⟨s.splitGroup_fst g, State.splitGroup_between hle g, ?_⟩
  intro low high hmin hmax above below part leftover
  have matching : s.RecordMatches g := ⟨hle, hmin, hmax, hmin ▸ above, hmax ▸ below⟩
  have share : s.spareShare g = part := by
    rw [funext matching.spareShare_eq, hmin, hmax]
  have left : s.splitLeftover g = leftover := by
    rw [matching.splitLeftover_eq, share, hmin]
  refine ⟨fun p hp => ?_, matching.sum_splitGroup⟩
  rw [s.splitGroup_target g hp, left]
  simp only [State.belowMax, State.floorTarget, share, decide_eq_true_eq, Bool.decide_and]

end Sys2Proof.Machine

/-! What the routines of the blocks leave as it is. A routine of BT, LM, SI, OT, AL, AD or LBU moves no pin,
no record of CS and no grant, makes no new entry, and keeps the bounds of the notice queue and LM's groups as
they are formed; the commands are made of such routines, so the invariants (O59, O60) are proved from these
lemmas, one for each routine. -/

namespace Sys2Proof.Machine

/-! ### The relation -/

/-- What every routine of a block leaves: pins, records in effect and pending, mode, grant and ad-hoc counter;
of the entries' fixed fields none is new, the load is at most discarded, and the invariants of the stored
image, LM's groups and the notice queue are kept. -/
structure State.Steady (s t : State) : Prop where
  pins : t.pins = s.pins
  cs : t.cs = s.cs
  grant : t.ad.grant = s.ad.grant
  nextAdhoc : t.bt.nextAdhoc = s.bt.nextAdhoc
  fixes : (t.bt.table.map (·.fix)).Sublist (s.bt.table.map (·.fix))
  stored : s.StoredImage → t.StoredImage
  load : t.load = s.load ∨ t.load = none
  formed : s.GroupsFormed → t.GroupsFormed
  notices : s.NoticesFit → t.NoticesFit

theorem State.formGroups_congr {s t : State} (hcs : t.cs = s.cs) (hparts : t.lm.parts = s.lm.parts) :
    t.formGroups = s.formGroups := by
  have hc : t.partConfigured = s.partConfigured := by
    funext p
    rw [State.partConfigured, State.partConfigured, State.segCount, State.segCount, hcs]
  simp only [State.formGroups, hc, hparts]

theorem State.groupsFormed_congr {s t : State} (hcs : t.cs = s.cs) (hparts : t.lm.parts = s.lm.parts)
    (hsegs : t.lm.groups.map (·.segs) = s.lm.groups.map (·.segs)) (h : s.GroupsFormed) :
    t.GroupsFormed := by
  rw [State.GroupsFormed, hsegs, State.formGroups_congr hcs hparts]
  exact h

namespace State.Steady

theorem refl (s : State) : s.Steady s :=
  ⟨rfl, rfl, rfl, rfl, .refl _, id, .inl rfl, id, id⟩

theorem trans {s t u : State} (h : s.Steady t) (k : t.Steady u) : s.Steady u where
  pins := k.pins.trans h.pins
  cs := k.cs.trans h.cs
  grant := k.grant.trans h.grant
  nextAdhoc := k.nextAdhoc.trans h.nextAdhoc
  fixes := k.fixes.trans h.fixes
  stored := k.stored ∘ h.stored
  load := k.load.elim (fun e => e ▸ h.load) .inr
  formed := k.formed ∘ h.formed
  notices := k.notices ∘ h.notices

/-- A routine that leaves BT and LM, the load and the notices alone. -/
theorem of_rest {s t : State} (pins : t.pins = s.pins) (cs : t.cs = s.cs)
    (grant : t.ad.grant = s.ad.grant) (bt : t.bt = s.bt) (load : t.load = s.load)
    (lm : t.lm = s.lm) (nq : t.nq = s.nq) : s.Steady t where
  pins := pins
  cs := cs
  grant := grant
  nextAdhoc := by rw [bt]
  fixes := by rw [bt]
  stored := by unfold State.StoredImage; rw [bt]; exact id
  load := .inl load
  formed := State.groupsFormed_congr cs (by rw [lm]) (by rw [lm])
  notices := by unfold State.NoticesFit; rw [nq]; exact id

/-- A routine that leaves all but the volatile fields and the learned rates. -/
theorem of_volatile {s t : State} (pins : t.pins = s.pins) (cs : t.cs = s.cs)
    (grant : t.ad.grant = s.ad.grant) (adhoc : t.bt.nextAdhoc = s.bt.nextAdhoc)
    (stored : t.bt.stored = s.bt.stored)
    (fixes : t.bt.table.map (·.fix) = s.bt.table.map (·.fix)) (load : t.load = s.load)
    (lm : t.lm = s.lm) (nq : t.nq = s.nq) : s.Steady t where
  pins := pins
  cs := cs
  grant := grant
  nextAdhoc := adhoc
  fixes := by rw [fixes]
  stored := by unfold State.StoredImage; rw [fixes, stored]; exact id
  load := .inl load
  formed := State.groupsFormed_congr cs (by rw [lm]) (by rw [lm])
  notices := by unfold State.NoticesFit; rw [nq]; exact id

theorem after {s t u : State} (k : t.Steady u) (h : s.Steady t) : s.Steady u := h.trans k

theorem ite {s t u : State} {c : Prop} [Decidable c] (ht : s.Steady t) (hu : s.Steady u) :
    s.Steady (if c then t else u) := by
  split <;> assumption

theorem foldl {β : Type} {f : State → β → State} (h : ∀ (s : State) b, s.Steady (f s b)) (l : List β) (s : State) :
    s.Steady (l.foldl f s) :=
  foldl_keeps (s.Steady ·) f (fun _ b ha => ha.trans (h _ b)) l s (refl s)

theorem forEntries {f : Entry → State → State} (h : ∀ e (s : State), s.Steady (f e s)) (refs : List Nat)
    (s : State) : s.Steady (State.forEntries refs f s) :=
  State.forEntries_keeps (s.Steady ·) f (fun e _ ha => ha.trans (h e _)) refs s (refl s)

end State.Steady

/-! ### The shared operations -/

theorem State.mapVolatile_steady (s : State) (ref : Nat) (f : Volatile → Volatile) :
    s.Steady (s.mapVolatile ref f) :=
  .of_volatile rfl rfl rfl rfl rfl (s.mapVolatile_fixes ref f) rfl rfl rfl

theorem State.mapEveryVolatile_steady (s : State) (f : Entry → Volatile) :
    s.Steady (s.mapEveryVolatile f) :=
  .of_volatile rfl rfl rfl rfl rfl (s.mapEveryVolatile_fixes f) rfl rfl rfl

theorem State.dropEntry_steady (s : State) (ref : Nat) : s.Steady (s.dropEntry ref) where
  pins := rfl
  cs := rfl
  grant := rfl
  nextAdhoc := rfl
  fixes := (List.filter_sublist).map _
  stored _ := rfl
  load := .inl rfl
  formed := id
  notices := id

/-- R175: a full list gives up its oldest before a notice joins. -/
theorem State.notify_noticesFit {s : State} (n : Notice) (h : s.NoticesFit) :
    (s.notify n).NoticesFit := by
  obtain ⟨hlen, -⟩ := h
  refine ⟨?_, Nat.mod_lt _ (by decide)⟩
  by_cases full : Config.noticeCapacity ≤ s.nq.list.length
  · have : Config.noticeCapacity = 32 := rfl
    simp only [State.notify, full, if_true, List.length_append, List.length_singleton, List.length_drop]
    omega
  · have : Config.noticeCapacity = 32 := rfl
    simp only [State.notify, full, if_false, List.length_append, List.length_singleton]
    omega

theorem State.notify_steady (s : State) (n : Notice) : s.Steady (s.notify n) where
  pins := rfl
  cs := rfl
  grant := rfl
  nextAdhoc := rfl
  fixes := .refl _
  stored := id
  load := .inl rfl
  formed := id
  notices := State.notify_noticesFit n

theorem State.notifyAll_steady (s : State) (ns : List Notice) : s.Steady (s.notifyAll ns) :=
  .foldl State.notify_steady ns s

theorem State.raise_steady (s : State) (c : Instr) : s.Steady (s.raise c) :=
  .of_rest rfl rfl rfl rfl rfl rfl rfl

theorem State.raiseAll_steady (s : State) (cs : List Instr) : s.Steady (s.raiseAll cs) :=
  .of_rest rfl rfl rfl rfl rfl rfl rfl

theorem State.take_steady (s : State) (c : Instr) : s.Steady (s.take c) :=
  .of_rest rfl rfl rfl rfl rfl rfl rfl

theorem State.drive_steady (s : State) : s.Steady s.drive := .of_rest rfl rfl rfl rfl rfl rfl rfl

/-! ### BT -/

theorem State.startSession_steady (s : State) (e : Entry) (cause : StartCause) :
    s.Steady (s.startSession e cause) :=
  ((s.mapVolatile_steady _ _).trans (State.notify_steady _ _)).trans (State.raise_steady _ _)

theorem State.endSession_steady (s : State) (e : Entry) (cause : EndCause) :
    s.Steady (s.endSession e cause) :=
  ((s.notify_steady _).trans (State.dropEntry_steady _ _)).trans (State.raiseAll_steady _ _)

theorem State.endOthers_steady (s : State) (ref : Nat) (g : Segs) (cause : EndCause) :
    s.Steady (s.endOthers ref g cause) :=
  .forEntries (fun e s => s.endSession_steady e cause) _ s

theorem State.reportRemoval_steady (s : State) (e : Entry) : s.Steady (s.reportRemoval e) := by
  unfold State.reportRemoval
  split
  · exact .refl s
  · exact s.raise_steady _

theorem State.missEntry_steady (s : State) (e : Entry) (cause : MissedCause) :
    s.Steady (s.missEntry e cause) :=
  ((s.notify_steady _).trans (State.dropEntry_steady _ _)).trans (State.reportRemoval_steady _ _)

theorem State.releaseEntry_steady (s : State) (e : Entry) : s.Steady (s.releaseEntry e) :=
  ((s.notify_steady _).trans (State.dropEntry_steady _ _)).trans (State.reportRemoval_steady _ _)

theorem State.enterPreparing_steady (s : State) (e : Entry) : s.Steady (s.enterPreparing e) :=
  (s.mapVolatile_steady _ _).trans (State.raise_steady _ _)

theorem State.learn_steady (s : State) (e : Entry) : s.Steady (s.learn e) :=
  .of_volatile rfl rfl rfl rfl rfl rfl rfl rfl rfl

theorem State.makeReady_steady (s : State) (e : Entry) : s.Steady (s.makeReady e) :=
  (((Steady.ite (s.learn_steady e) (.refl s)).trans (State.mapVolatile_steady _ _ _)).trans
    (State.notify_steady _ _)).trans (State.raise_steady _ _)

theorem State.loseReady_steady (s : State) (e : Entry) (cause : NotReadyCause) :
    s.Steady (s.loseReady e cause) :=
  ((s.mapVolatile_steady _ _).trans (State.notify_steady _ _)).trans (State.raise_steady _ _)

theorem State.takeSettled_steady (s : State) (g : Segs) : s.Steady (s.takeSettled g) :=
  .forEntries (fun e s => .ite (s.makeReady_steady e) (.refl s)) _ s

theorem State.takeLostSettled_steady (s : State) (g : Segs) : s.Steady (s.takeLostSettled g) :=
  .forEntries (fun e s => .ite (s.loseReady_steady e _) (.refl s)) _ s

theorem State.countEntry_steady (e : Entry) (s : State) : s.Steady (State.countEntry e s) :=
  (s.mapVolatile_steady _ _).trans (.ite (State.endSession_steady _ _ _) (.refl _))

theorem State.judgeEnd_steady (e : Entry) (s : State) : s.Steady (State.judgeEnd e s) :=
  .ite (.ite ((s.mapVolatile_steady _ _).trans (State.raise_steady _ _)) (s.endSession_steady e _))
    (.refl s)

theorem State.judgeNoShow_steady (e : Entry) (s : State) : s.Steady (State.judgeNoShow e s) := by
  unfold State.judgeNoShow
  split
  · exact .ite (s.releaseEntry_steady e) (.refl s)
  · exact .refl s

theorem State.judgeStart_steady (e : Entry) (s : State) : s.Steady (State.judgeStart e s) :=
  .ite (.ite (s.missEntry_steady e _)
    ((s.endOthers_steady _ _ _).trans (State.startSession_steady _ e _))) (.refl s)

theorem State.judgePrepare_steady (e : Entry) (s : State) : s.Steady (State.judgePrepare e s) :=
  .ite (s.enterPreparing_steady e) (.refl s)

theorem State.btMinute_steady (s : State) : s.Steady s.btMinute :=
  ((((Steady.forEntries State.countEntry_steady _ s).trans
    (.forEntries State.judgeEnd_steady _ _)).trans (.forEntries State.judgeNoShow_steady _ _)).trans
    (.forEntries State.judgeStart_steady _ _)).trans (.forEntries State.judgePrepare_steady _ _)

theorem State.reenterEntry_steady (e : Entry) (s : State) : s.Steady (State.reenterEntry e s) :=
  .ite (.ite (s.endSession_steady e _)
      (((s.notify_steady _).trans (State.dropEntry_steady _ _)).trans (State.raise_steady _ _)))
    (.ite ((s.endOthers_steady _ _ _).trans (State.startSession_steady _ e _)) (.refl s))

theorem State.reenterAtExit_steady (e : Entry) (s : State) : s.Steady (State.reenterAtExit e s) :=
  .ite (((s.notify_steady _).trans (State.dropEntry_steady _ _)).trans (State.raise_steady _ _))
    (.ite (State.reenterEntry_steady e s) (.refl s))

theorem State.reenter_steady (s : State) : s.Steady s.reenter :=
  .forEntries State.reenterEntry_steady _ s

theorem State.reenterExit_steady (s : State) : s.Steady s.reenterExit :=
  .forEntries State.reenterAtExit_steady _ s

theorem State.takeVacancy_steady (s : State) (i : Seg) : s.Steady (s.takeVacancy i) :=
  .forEntries (fun e s => .ite (s.endSession_steady e _) (.refl s)) _ s

theorem State.takeCame_steady (s : State) (ref : Nat) : s.Steady (s.takeCame ref) := by
  unfold State.takeCame
  split
  · exact .ite (s.makeReady_steady _) (.refl s)
  · exact .refl s

theorem State.takeCeased_steady (s : State) (ref : Nat) : s.Steady (s.takeCeased ref) := by
  unfold State.takeCeased
  split
  · exact .ite (s.loseReady_steady _ _) (.refl s)
  · exact .refl s

theorem State.answerGoverns_steady (s : State) (c : Instr) : s.Steady (s.answerGoverns c) := by
  unfold State.answerGoverns
  split
  · exact s.takeCame_steady _
  · exact s.takeCeased_steady _
  · exact .refl s

theorem State.endEvery_steady (s : State) (cause : EndCause) : s.Steady (s.endEvery cause) :=
  .forEntries (fun e s => s.endSession_steady e cause) _ s

theorem State.flushSettled_steady (s : State) : s.Steady s.flushSettled := by
  unfold State.flushSettled
  extract_lets isSettled mine s1
  have h : s.Steady s1 := .of_rest rfl rfl rfl rfl rfl rfl rfl
  refine h.trans (.foldl (fun s c => ?_) mine s1)
  split
  · exact s.takeSettled_steady _
  · exact s.takeLostSettled_steady _
  · exact .refl s

/-! ### OT -/

theorem State.otSettle_steady (s : State) : s.Steady s.otSettle :=
  .of_rest rfl rfl rfl rfl rfl rfl rfl

theorem State.setOcc_steady (s : State) (i : Seg) (o : Occ) : s.Steady (s.setOcc i o) :=
  .of_rest rfl rfl rfl rfl rfl rfl rfl

theorem State.otCover_steady (s : State) (g : Segs) : s.Steady (s.otCover g) :=
  .of_rest rfl rfl rfl rfl rfl rfl rfl

theorem State.mapWalkIn_steady (s : State) (g : Segs) (f : WalkIn → WalkIn) : s.Steady (s.mapWalkIn g f) :=
  .of_rest rfl rfl rfl rfl rfl rfl rfl

theorem State.presence_steady (s : State) (i : Seg) : s.Steady (s.presence i) :=
  .ite (((s.setOcc_steady _ _).trans (State.mapEveryVolatile_steady _ _)).trans (State.otSettle_steady _))
    (.refl s)

theorem State.vacancyExpiry_steady (s : State) (i : Seg) : s.Steady (s.vacancyExpiry i) :=
  .ite (.of_rest rfl rfl rfl rfl rfl rfl rfl) (.refl s)

theorem State.takePresenceSource_steady (s : State) (i : Seg) (source : Option Seg) :
    s.Steady (s.takePresenceSource i source) := by
  unfold State.takePresenceSource
  split <;> exact (s.setOcc_steady _ _).trans (State.otSettle_steady _)

theorem State.endWalkIn_steady (s : State) (g : Segs) : s.Steady (s.endWalkIn g) :=
  .of_rest rfl rfl rfl rfl rfl rfl rfl

theorem State.otGoverning_steady (s : State) (g : Segs) (level : Level) : s.Steady (s.otGoverning g level) :=
  .of_rest rfl rfl rfl rfl rfl rfl rfl

theorem State.otRegroup_steady (s : State) (gone : List Segs) (formed : List GroupRec) :
    s.Steady (s.otRegroup gone formed) :=
  (Steady.foldl (f := fun s (r : GroupRec) => s.otCover r.segs) (fun s r => s.otCover_steady r.segs)
    formed s).trans (.of_rest rfl rfl rfl rfl rfl rfl rfl)

theorem State.otExit_steady (s : State) (groups : List GroupRec) : s.Steady (s.otExit groups) :=
  (Steady.foldl (f := fun s (r : GroupRec) => s.otCover r.segs) (fun s r => s.otCover_steady r.segs)
    groups s).trans (.of_rest rfl rfl rfl rfl rfl rfl rfl)

/-! ### LM -/

@[simp] theorem State.reshare_segs (s : State) (touched : Entry → Bool) (groups : List GroupRec) :
    (s.reshare touched groups).map (·.segs) = groups.map (·.segs) := by
  simp [State.reshare, List.map_map, Function.comp_def]

@[simp] theorem State.resolveGroups_segs (s : State) (hit : Segs → Bool) (groups : List GroupRec) :
    (s.resolveGroups hit groups).map (·.segs) = groups.map (·.segs) := by
  simp only [State.resolveGroups, State.reshare_segs, List.map_map]
  refine List.map_congr_left fun g _ => ?_
  simp only [Function.comp]
  split <;> rfl

theorem State.setGroups_steady {s : State} {groups : List GroupRec}
    (h : groups.map (·.segs) = s.lm.groups.map (·.segs)) : s.Steady (s.setGroups groups) where
  pins := rfl
  cs := rfl
  grant := rfl
  nextAdhoc := rfl
  fixes := .refl _
  stored := id
  load := .inl rfl
  formed := State.groupsFormed_congr rfl rfl h
  notices := id

theorem State.noteGoverns_steady (s : State) : s.Steady s.noteGoverns where
  pins := rfl
  cs := rfl
  grant := rfl
  nextAdhoc := rfl
  fixes := .refl _
  stored := id
  load := .inl rfl
  formed := id
  notices := id

theorem State.reportGoverns_steady (s : State) : s.Steady s.reportGoverns :=
  s.noteGoverns_steady.trans (State.raiseAll_steady _ _)

theorem State.settleGoverns_steady (s : State) : s.Steady s.settleGoverns :=
  s.noteGoverns_steady.trans (.foldl State.answerGoverns_steady _ _)

theorem State.compareLayout_steady (e : Entry) (s : State) : s.Steady (s.compareLayout e) := by
  unfold State.compareLayout
  split
  · split
    · exact .refl s
    · exact .ite (s.mapVolatile_steady _ _)
        (.ite (.refl s) ((s.mapVolatile_steady _ _).trans (State.notify_steady _ _)))
  · exact .refl s

theorem State.lmEntryChange_steady (s : State) (ref : Nat) (g : Segs) (began : Bool) :
    s.Steady (s.lmEntryChange ref g began) := by
  unfold State.lmEntryChange
  extract_lets old new pairs changed listOnly s1 s2 s3
  have h1 : s.Steady s1 :=
    (State.setGroups_steady (s.resolveGroups_segs _ _)).trans (State.raiseAll_steady _ _)
  have h2 : s1.Steady s2 := .foldl (fun s (p : GroupRec × GroupRec) => s.otCover_steady p.2.segs) _ _
  have h3 : s2.Steady s3 :=
    (Steady.ite (.refl s2) s2.otSettle_steady).trans (State.reportGoverns_steady _)
  refine ((h1.trans h2).trans h3).trans (.ite ?_ (.refl s3))
  split
  · exact State.compareLayout_steady _ s3
  · exact .refl s3

theorem State.lmHeadcount_steady (s : State) (ref : Nat) : s.Steady (s.lmHeadcount ref) :=
  State.setGroups_steady (s.reshare_segs _ _)

/-- The groups depend on which configured partitions are accepted OPEN, and on nothing else of them. -/
theorem State.formGroups_setPart {s : State} {p : Part} {r : Partition}
    (h : (r.accepted == .opened) = ((s.lm.parts.get p).accepted == .opened)) :
    (s.setPart p r).formGroups = s.formGroups := by
  simp only [State.formGroups]
  congr 1
  refine List.map_congr_left fun q _ => ?_
  by_cases hq : q = p
  · subst hq; simpa [State.setPart] using h
  · simp [State.setPart, Three.get_set_other _ _ hq]

theorem State.setPart_steady {s : State} {p : Part} {r : Partition}
    (h : (r.accepted == .opened) = ((s.lm.parts.get p).accepted == .opened)) :
    s.Steady (s.setPart p r) where
  pins := rfl
  cs := rfl
  grant := rfl
  nextAdhoc := rfl
  fixes := .refl _
  stored := id
  load := .inl rfl
  formed hf := by
    rw [State.GroupsFormed, State.formGroups_setPart h]
    exact hf
  notices := id

theorem State.reportFault_steady (s : State) (p : Part) : s.Steady (s.reportFault p) :=
  .ite (.refl s) ((State.setPart_steady (by rfl)).trans (State.notify_steady _ _))

theorem State.faultCheck_steady (s : State) (p : Part) : s.Steady (s.faultCheck p) := by
  unfold State.faultCheck
  split
  · exact s.reportFault_steady p
  · exact .refl s

/-- A regroup leaves LM's groups as the accepted partition states form them, whatever they were. -/
theorem State.regroup_formed (s : State) : s.regroup.GroupsFormed := by
  unfold State.regroup
  extract_lets old sets isNew fresh new gone formed s1
  have segs_fresh : fresh.map (·.segs) = sets := by
    simp only [fresh, List.map_map]
    refine (List.map_congr_left fun g _ => ?_).trans (List.map_id _)
    simp only [Function.comp, id]
    cases h : old.find? fun r => r.segs == g with
    | none => rfl
    | some r => simpa using List.find?_some h
  have segs_new : new.map (·.segs) = s.formGroups :=
    (s.resolveGroups_segs _ _).trans segs_fresh
  have here : ((s.setGroups new).raiseAll (regroupReports gone formed)).GroupsFormed := segs_new
  exact ((State.settleGoverns_steady _).trans (.forEntries State.compareLayout_steady _ _)).formed here

/-- A routine that begins by replacing LM's record ends in groups as formed. -/
theorem State.Steady.of_reformed {s u t : State} (begins : u = { s with lm := u.lm, reports := u.reports })
    (h : u.Steady t) (formed : t.GroupsFormed) : s.Steady t := by
  have h' := (congrArg (·.Steady t) begins).mp h
  exact ⟨h'.pins, h'.cs, h'.grant, h'.nextAdhoc, h'.fixes, h'.stored, h'.load, fun _ => formed, h'.notices⟩

theorem State.regroup_steady (s : State) : s.Steady s.regroup := by
  have begins : ∃ groups reports, ((s.setGroups groups).raiseAll reports).Steady s.regroup := by
    unfold State.regroup
    extract_lets
    exact ⟨_, _, (State.settleGoverns_steady _).trans (.forEntries State.compareLayout_steady _ _)⟩
  obtain ⟨groups, reports, h⟩ := begins
  exact .of_reformed rfl h s.regroup_formed

theorem State.accept_steady (s : State) (p : Part) (r : Reading) : s.Steady (s.accept p r) := by
  unfold State.accept
  extract_lets before s1
  have checked : (s.setPart p (acceptReading before r)).Steady s1 := State.faultCheck_steady _ p
  split
  case isTrue => exact .of_reformed rfl (checked.trans s1.regroup_steady) s1.regroup_formed
  case isFalse same =>
    have eq : (before.accepted == .opened) = (r == .opened) := by
      cases h : before.accepted == .opened <;> cases h' : r == .opened <;> simp_all
    exact (State.setPart_steady eq.symm).trans checked

/-! ### SI -/

theorem State.setSensor_steady (s : State) (i : Seg) (k : SensorKind) (r : Sensor) :
    s.Steady (s.setSensor i k r) := .of_rest rfl rfl rfl rfl rfl rfl rfl

theorem State.remapNamed_steady (s : State) (named : List Segs) : s.Steady (s.remapNamed named) :=
  .of_rest rfl rfl rfl rfl rfl rfl rfl

theorem State.remap_steady (s : State) (k : SensorKind) : s.Steady (s.remap k) := by
  cases k <;> first | exact s.remapNamed_steady [] | exact .refl s

theorem State.takeValid_steady (s : State) (i : Seg) (k : SensorKind) (value : Option Int) :
    s.Steady (s.takeValid i k value) := by
  unfold State.takeValid
  extract_lets r r1
  split
  · exact s.setSensor_steady _ _ _
  · refine .ite ?_ (s.setSensor_steady _ _ _)
    exact ((s.setSensor_steady _ _ _).trans (.ite (State.notify_steady _ _) (.refl _))).trans
      (State.remap_steady _ _)

theorem State.takeFaulty_steady (s : State) (i : Seg) (k : SensorKind) (cause : SensorCause) :
    s.Steady (s.takeFaulty i k cause) := by
  unfold State.takeFaulty
  extract_lets r
  split
  · exact s.setSensor_steady _ _ _
  · exact ((s.setSensor_steady _ _ _).trans (.ite (State.notify_steady _ _) (.refl _))).trans
      (State.remap_steady _ _)

theorem State.takeMissing_steady (s : State) (i : Seg) (k : SensorKind) :
    s.Steady (s.takeMissing i k) := by
  unfold State.takeMissing
  extract_lets r
  split
  · exact .refl s
  · exact s.setSensor_steady _ _ _

theorem State.staleExpiry_steady (s : State) (i : Seg) (k : SensorKind) :
    s.Steady (s.staleExpiry i k) := by
  unfold State.staleExpiry
  extract_lets r
  refine .ite (.refl s) ?_
  split
  · exact ((s.setSensor_steady _ _ _).trans (State.notify_steady _ _)).trans (State.remap_steady _ _)
  · exact (s.setSensor_steady _ _ _).trans (.ite (.refl _) (State.notify_steady _ _))
  · exact s.setSensor_steady _ _ _

theorem State.takeSample_steady (s : State) (i : Seg) (a : Answer) (k : SensorKind) :
    s.Steady (s.takeSample i a k) := by
  unfold State.takeSample
  split
  · exact s.takeValid_steady _ _ _
  · exact s.takeFaulty_steady _ _ _

theorem State.lineFree_steady (s : State) : s.Steady s.lineFree := .of_rest rfl rfl rfl rfl rfl rfl rfl

theorem State.takeAnswer_steady (s : State) (i : Seg) (a : Answer) : s.Steady (s.takeAnswer i a) :=
  ((s.lineFree_steady.trans (.foldl (fun s k => s.takeSample_steady i a k) _ _)).trans
    (.ite (State.raiseAll_steady _ _) (.refl _))).trans (.ite (State.raiseAll_steady _ _) (.refl _))

theorem State.poll_steady (s : State) (i : Seg) : s.Steady (s.poll i) :=
  .ite (.ite (.of_rest rfl rfl rfl rfl rfl rfl rfl) (.of_rest rfl rfl rfl rfl rfl rfl rfl)) (.refl s)

/-! ### AL -/

theorem State.handOn_steady (s : State) : s.Steady s.handOn := s.raise_steady _

theorem State.setLoops_steady (s : State) (loops : List Loop) : s.Steady (s.setLoops loops) :=
  .of_rest rfl rfl rfl rfl rfl rfl rfl

theorem State.evalAll_steady (s : State) : s.Steady s.evalAll :=
  .of_rest rfl rfl rfl rfl rfl rfl rfl

theorem State.alReconcile_steady (s : State) (hit : Loop → Bool) : s.Steady (s.alReconcile hit) :=
  ((s.setLoops_steady _).trans (.ite (State.handOn_steady _) (.refl _))).trans (State.raiseAll_steady _ _)

theorem State.alGoverning_steady (s : State) (g : Segs) (governing : Option Nat) (level : Level) :
    s.Steady (s.alGoverning g governing level) :=
  (s.setLoops_steady _).trans (State.alReconcile_steady _ _)

theorem State.alTakeOcc_steady (s : State) (o : OccStanding) : s.Steady (s.alTakeOcc o) :=
  Steady.trans (t := { s with al := { s.al with occ := noteStanding s.al.occ o } })
    (.of_rest rfl rfl rfl rfl rfl rfl rfl) (State.alReconcile_steady _ _)

theorem State.alRegroup_steady (s : State) (gone : List Segs) (formed : List GroupRec) :
    s.Steady (s.alRegroup gone formed) := .of_rest rfl rfl rfl rfl rfl rfl rfl

theorem State.alService_steady (s : State) : s.Steady s.alService :=
  ((s.setLoops_steady _).trans (State.handOn_steady _)).trans
    (.foldl (fun s (l : Loop) => s.takeLostSettled_steady l.segs) _ _)

theorem State.alExit_steady (s : State) (groups : List GroupRec) : s.Steady (s.alExit groups) :=
  Steady.trans (t := s.clampLive) (s.mapEveryVolatile_steady _) (.of_rest rfl rfl rfl rfl rfl rfl rfl)

theorem State.adjust_steady (s : State) (g : GroupRec) (d : Int) : s.Steady (s.adjust g d).1 := by
  unfold State.adjust
  split
  · split
    · split
      · exact (s.mapVolatile_steady _ _).trans (State.alReconcile_steady _ _)
      · exact .refl s
    · exact .refl s
  · split
    · exact (s.mapWalkIn_steady _ _).trans (State.alReconcile_steady _ _)
    · exact .refl s

/-! ### AD -/

theorem State.recompute_steady (s : State) : s.Steady s.recompute := by
  unfold State.recompute
  dsimp only
  split
  · refine .trans ?_ (State.notifyAll_steady _ _)
    exact .of_rest rfl rfl rfl rfl rfl rfl rfl
  · exact .of_rest rfl rfl rfl rfl rfl rfl rfl

theorem State.takeDemand_steady (s : State) (figs : List DemandFig) : s.Steady (s.takeDemand figs) := by
  unfold State.takeDemand
  dsimp only
  exact .after (State.recompute_steady _) (.of_rest rfl rfl rfl rfl rfl rfl rfl)

theorem State.adRegroup_steady (s : State) (gone : List Segs) (formed : List GroupRec) :
    s.Steady (s.adRegroup gone formed) := by
  unfold State.adRegroup
  dsimp only
  exact .after (State.recompute_steady _) (.of_rest rfl rfl rfl rfl rfl rfl rfl)

theorem State.adExit_steady (s : State) (groups : List GroupRec) : s.Steady (s.adExit groups) := by
  unfold State.adExit
  dsimp only
  exact .after (State.recompute_steady _) (.of_rest rfl rfl rfl rfl rfl rfl rfl)

theorem State.adService_steady (s : State) : s.Steady s.adService := by
  unfold State.adService
  exact .after (State.recompute_steady _) (.of_rest rfl rfl rfl rfl rfl rfl rfl)

/-! ### LBU -/

/-- Nothing but LBU's segment records has moved. -/
def State.Relit (s t : State) : Prop := t = { s with lbu := { s.lbu with segs := t.lbu.segs } }

namespace State.Relit

theorem refl (s : State) : s.Relit s := rfl

theorem trans {s t u : State} (h : s.Relit t) (k : t.Relit u) : s.Relit u := by
  unfold State.Relit at *
  rw [k, h]

theorem steady {s t : State} (h : s.Relit t) : s.Steady t := by
  rw [h]
  exact .of_rest rfl rfl rfl rfl rfl rfl rfl

theorem ite {s t u : State} {c : Prop} [Decidable c] (ht : s.Relit t) (hu : s.Relit u) :
    s.Relit (if c then t else u) := by
  split <;> assumption

theorem foldl {β : Type} {f : State → β → State} (h : ∀ (s : State) b, s.Relit (f s b)) (l : List β) (s : State) :
    s.Relit (l.foldl f s) :=
  foldl_keeps (s.Relit ·) f (fun _ b ha => ha.trans (h _ b)) l s (refl s)

end State.Relit

theorem State.mapLbuSeg_relit (s : State) (i : Seg) (f : LbuSeg → LbuSeg) : s.Relit (s.mapLbuSeg i f) :=
  rfl

theorem State.mapBlind_relit (s : State) (i : Seg) (f : Blind → Blind) : s.Relit (s.mapBlind i f) := rfl

theorem State.formRows_relit (s : State) (g : LbuGroup) (i : Seg) : s.Relit (s.formRows g i) := by
  unfold State.formRows
  refine .ite ?_ (.refl s)
  split
  · exact s.mapLbuSeg_relit i _
  · exact .refl s

theorem State.formGroupRows_relit (s : State) (g : LbuGroup) : s.Relit (s.formGroupRows g) :=
  .foldl (fun s i => s.formRows_relit g i) _ s

theorem State.resolveBlind_relit (s : State) (i : Seg) : s.Relit (s.resolveBlind i) := by
  unfold State.resolveBlind
  refine .ite ?_ (.refl s)
  split
  · exact s.mapBlind_relit i _
  · exact .refl s

theorem State.resolveBlinds_relit (s : State) (g : Segs) : s.Relit (s.resolveBlinds g) :=
  .foldl State.resolveBlind_relit _ s

theorem State.clearOverrides_relit (s : State) (g : Segs) : s.Relit (s.clearOverrides g) :=
  (Relit.foldl (fun s i => s.mapBlind_relit i _) _ s).trans (State.resolveBlinds_relit _ g)

theorem State.blindRequest_relit (s : State) (g : Segs) (o : Blind → Option Nat) :
    s.Relit (s.blindRequest g o) :=
  (Relit.foldl (fun s i => .ite (s.mapBlind_relit i _) (.refl s)) _ s).trans
    (State.resolveBlinds_relit _ g)

theorem State.formWindow_relit (s : State) (i : Seg) (judged : Bool) : s.Relit (s.formWindow i judged) := by
  unfold State.formWindow
  refine .ite ?_ (.refl s)
  split
  · split
    · exact .ite (.refl s) (s.mapLbuSeg_relit i _)
    · exact .refl s
  · exact .refl s

theorem State.takeDaylight_relit (s : State) (i : Seg) (lux : Nat) : s.Relit (s.takeDaylight i lux) :=
  .ite ((s.mapLbuSeg_relit i _).trans (State.formWindow_relit _ i _)) (.refl s)

theorem State.takeDaylightSource_relit (s : State) (i : Seg) (source : Option Seg) :
    s.Relit (s.takeDaylightSource i source) := by
  unfold State.takeDaylightSource
  refine .ite ?_ (.refl s)
  split
  · exact ((s.mapLbuSeg_relit i _).trans (State.formWindow_relit _ i _)).trans
      (State.resolveBlind_relit _ i)
  · split
    · exact (s.takeDaylight_relit i _).trans (State.resolveBlind_relit _ i)
    · exact .refl s

theorem State.sceneChanged_relit (s : State) (owned : LbuGroup → Bool) : s.Relit (s.sceneChanged owned) :=
  .foldl (fun s (g : LbuGroup) => (s.formGroupRows_relit g).trans (State.clearOverrides_relit _ g.segs)) _ s

theorem State.entrySceneChanged_relit (s : State) (ref : Nat) (also : Segs → Bool) :
    s.Relit (s.entrySceneChanged ref also) :=
  (s.sceneChanged_relit _).trans (.foldl (fun s (g : LbuGroup) => s.resolveBlinds_relit g.segs) _ _)

theorem State.bookedSceneChanged_relit (s : State) (ref : Nat) : s.Relit (s.bookedSceneChanged ref) :=
  (s.sceneChanged_relit _).trans (.foldl (fun s (g : LbuGroup) => s.clearOverrides_relit g.segs) _ _)

theorem State.panelScene_steady (s : State) (g : GroupRec)
    (act : Nat → Option Nat → Nat → Nat × Option Nat) : s.Steady (s.panelScene g act).1 := by
  unfold State.panelScene
  split
  · split
    · split
      · dsimp only
        exact (s.mapVolatile_steady _ _).trans (State.entrySceneChanged_relit _ _ _).steady
      · exact .refl s
    · exact .refl s
  · split
    · dsimp only
      exact (s.mapWalkIn_steady _ _).trans (State.sceneChanged_relit _ _).steady
    · exact .refl s

theorem State.lbuGoverning_steady (s : State) (g : Segs) (governing : Option Nat) (level : Level) :
    s.Steady (s.lbuGoverning g governing level) := by
  unfold State.lbuGoverning
  split
  · exact .refl s
  · dsimp only
    refine .trans ?_ (State.resolveBlinds_relit _ g).steady
    split
    · refine .trans ?_ (State.formGroupRows_relit _ _).steady
      exact .of_rest rfl rfl rfl rfl rfl rfl rfl
    · exact .of_rest rfl rfl rfl rfl rfl rfl rfl

theorem State.lbuTakeOcc_steady (s : State) (o : OccStanding) : s.Steady (s.lbuTakeOcc o) := by
  unfold State.lbuTakeOcc
  dsimp only
  split
  · exact .of_rest rfl rfl rfl rfl rfl rfl rfl
  · refine .trans (.trans ?_ (State.formGroupRows_relit _ _).steady)
      (.ite (State.clearOverrides_relit _ _).steady (State.resolveBlinds_relit _ _).steady)
    exact .of_rest rfl rfl rfl rfl rfl rfl rfl

theorem State.lbuFormed_relit (s : State) (made : List LbuGroup) :
    s.Relit (made.foldl (fun s g => (s.formGroupRows g).resolveBlinds g.segs) s) :=
  .foldl (fun s g => (s.formGroupRows_relit g).trans (State.resolveBlinds_relit _ g.segs)) made s

theorem State.lbuRegroup_steady (s : State) (gone : List Segs) (formed : List GroupRec) :
    s.Steady (s.lbuRegroup gone formed) := by
  unfold State.lbuRegroup
  dsimp only
  exact .after (State.lbuFormed_relit _ _).steady (.of_rest rfl rfl rfl rfl rfl rfl rfl)

theorem State.lbuExit_steady (s : State) (groups : List GroupRec) : s.Steady (s.lbuExit groups) := by
  unfold State.lbuExit
  dsimp only
  exact .after (State.lbuFormed_relit _ _).steady (.of_rest rfl rfl rfl rfl rfl rfl rfl)

theorem State.lbuService_relit (s : State) : s.Relit s.lbuService := rfl

/-! ### Reports that several blocks receive -/

theorem State.takeOccupancy_steady (s : State) (dst : Block) (g : Segs) (occupied : Bool)
    (w : Option WalkIn) : s.Steady (s.takeOccupancy dst g occupied w) := by
  cases dst with
  | al => exact s.alTakeOcc_steady _
  | lbu => exact s.lbuTakeOcc_steady _
  | si | ot | ad => exact .refl s

theorem State.takeGoverning_steady (s : State) (dst : Block) (g : Segs) (governing : Option Nat)
    (level : Level) : s.Steady (s.takeGoverning dst g governing level) := by
  cases dst with
  | ot => exact s.otGoverning_steady _ _
  | al => exact s.alGoverning_steady _ _ _
  | lbu => exact s.lbuGoverning_steady _ _ _
  | si | ad => exact .refl s

theorem State.takeRegroup_steady (s : State) (dst : Block) (gone : List Segs) (formed : List GroupRec) :
    s.Steady (s.takeRegroup dst gone formed) := by
  cases dst with
  | si => exact s.remapNamed_steady _
  | ot => exact s.otRegroup_steady _ _
  | al => exact s.alRegroup_steady _ _
  | lbu => exact s.lbuRegroup_steady _ _
  | ad => exact s.adRegroup_steady _ _

theorem State.takeExit_steady (s : State) (dst : Block) (groups : List GroupRec) :
    s.Steady (s.takeExit dst groups) := by
  cases dst with
  | si => exact s.remapNamed_steady _
  | ot => exact s.otExit_steady _
  | al => exact s.alExit_steady _
  | lbu => exact s.lbuExit_steady _
  | ad => exact s.adExit_steady _

/-! ### The clock and the loads -/

theorem State.abortLoad_steady (s : State) (cause : AbortCause) : s.Steady (s.abortLoad cause) := by
  unfold State.abortLoad
  split
  · exact .refl s
  · refine Steady.trans (t := s.closeLoad) ?_ (State.notify_steady _ _)
    exact ⟨rfl, rfl, rfl, rfl, .refl _, id, .inr rfl, id, id⟩

theorem State.applyTime_steady (s : State) (minutes seconds : Nat) :
    s.Steady (s.applyTime minutes seconds) := by
  unfold State.applyTime
  dsimp only
  split
  · exact .after (State.reenter_steady _) (.of_rest rfl rfl rfl rfl rfl rfl rfl)
  · exact .of_rest rfl rfl rfl rfl rfl rfl rfl

theorem State.minuteEvent_steady (s : State) : s.Steady s.minuteEvent := by
  unfold State.minuteEvent
  dsimp only
  split
  · refine .trans ?_ (.ite (State.btMinute_steady _) (.refl _))
    exact .after (State.evalAll_steady _) (.of_rest rfl rfl rfl rfl rfl rfl rfl)
  · exact .refl s

end Sys2Proof.Machine

/-! The invariants that every step keeps (O59, O60), and what moves the records in effect and the lock (O30).
The owners' actions that are not routines alone write the table, the load, the notices, the grant or CS; each
is shown to keep the invariants, and one case for each command puts them together. -/

namespace Sys2Proof.Machine

/-! ### The table as a list of fixed fields -/

/-- R1, R11 and the range of references for the live table. -/
def ListSound (l : List Fixed) : Prop :=
  l.length ≤ 128 ∧ Ordered l ∧ Apart l ∧ ∀ f ∈ l, 1 ≤ f.ref ∧ f.ref ≤ 4294967295

/-- The like for a staging area (R56, R58). -/
def StagedSound (l : List Fixed) : Prop :=
  l.length ≤ 64 ∧ Ordered l ∧ Apart l ∧ ∀ f ∈ l, 1 ≤ f.ref ∧ f.ref < 4294901760

theorem State.tableSound_iff (s : State) : s.TableSound ↔ s.StoredImage ∧
    ListSound (s.bt.table.map (·.fix)) ∧ (4294901760 ≤ s.bt.nextAdhoc ∧ s.bt.nextAdhoc ≤ 4294967295) ∧
    ∀ l ∈ s.load, StagedSound l.staged := by
  simp only [State.TableSound, ListSound, StagedSound, List.length_map, List.forall_mem_map]
  constructor <;> (rintro ⟨h1, h2⟩; tauto)

theorem ListSound.sublist {l k : List Fixed} (h : ListSound l) (hk : k.Sublist l) : ListSound k := by
  obtain ⟨len, ordered, apart, refs⟩ := h
  exact ⟨hk.length_le.trans len, ordered.sublist hk, apart.sublist hk, fun f hf => refs f (hk.subset hf)⟩

theorem clash_iff (a b : Fixed) : clash a b = true ↔ a.first < b.first + b.span ∧
    b.first < a.first + a.span ∧ a.start < b.stop ∧ b.start < a.stop := by
  simp only [clash, Bool.and_eq_true, decide_eq_true_eq, and_assoc]

theorem clash_comm (a b : Fixed) : clash a b = clash b a := by
  rw [Bool.eq_iff_iff, clash_iff, clash_iff]
  tauto

/-- Table order alone (R1), which is transitive. -/
def TableBefore (a b : Fixed) : Prop := a.start < b.start ∨ (a.start = b.start ∧ a.ref < b.ref)

theorem ordered_iff (l : List Fixed) :
    Ordered l ↔ l.Pairwise TableBefore ∧ l.Pairwise fun a b => a.ref ≠ b.ref :=
  List.pairwise_and_iff

theorem ordered_insertFixed {l : List Fixed} {f : Fixed} (h : Ordered l)
    (new : ∀ x ∈ l, x.ref ≠ f.ref) : Ordered (insertFixed f l) := by
  obtain ⟨before, distinct⟩ := (ordered_iff l).mp h
  refine (ordered_iff _).mpr ⟨pairwise_insertBy _ _ f l ?_ ?_ ?_ before,
    pairwise_insertBy_symm _ _ f l (fun _ _ => Ne.symm) (fun x hx => (new x hx).symm) distinct⟩
  · intro x y z hxy hyz
    simp only [TableBefore] at *
    omega
  · intro x hx fore
    simpa [fixedBefore, TableBefore] using fore
  · intro x hx aft
    have := new x hx
    simp only [fixedBefore, Bool.or_eq_false_iff, Bool.and_eq_false_iff, decide_eq_false_iff_not,
      beq_eq_false_iff_ne] at aft
    simp only [TableBefore]
    omega

theorem apart_insertFixed {l : List Fixed} {f : Fixed} (h : Apart l)
    (new : ∀ x ∈ l, clash f x = false) : Apart (insertFixed f l) :=
  pairwise_insertBy_symm _ _ f l (fun x y hxy => clash_comm x y ▸ hxy) new h

/-- An entry joins a sound table that has room, under a reference of its own, on free ground. -/
theorem ListSound.insert {l : List Fixed} {f : Fixed} (h : ListSound l) (room : l.length < 128)
    (ref : 1 ≤ f.ref ∧ f.ref ≤ 4294967295) (fresh : ∀ x ∈ l, x.ref ≠ f.ref)
    (free : ∀ x ∈ l, clash f x = false) : ListSound (insertFixed f l) := by
  obtain ⟨-, ordered, apart, refs⟩ := h
  refine ⟨?_, ordered_insertFixed ordered fresh, apart_insertFixed apart free, ?_⟩
  · rw [insertFixed, length_insertBy]; omega
  · intro x hx
    rcases (mem_insertBy _ _ _ _).mp hx with rfl | hx
    · exact ref
    · exact refs x hx

/-! ### What every command keeps -/

/-- The invariants that every command keeps. -/
structure State.Kept (s t : State) : Prop where
  notices : s.NoticesFit → t.NoticesFit
  records : s.RecordsFit → t.RecordsFit
  formed : s.GroupsFormed → t.GroupsFormed
  table : s.TableSound → t.TableSound

/-- What every owner's action keeps: the invariants, the pins and a lock that is set. -/
structure State.Keeps (s t : State) : Prop extends s.Kept t where
  pins : t.pins = s.pins
  lock : s.cs.lock = true → t.cs.lock = true

/-- What every action keeps but a restart and a change of mode: the records in effect and RUN as well. -/
structure State.Stays (s t : State) : Prop extends s.Keeps t where
  effective : t.cs.effective = s.cs.effective
  running : s.inRun = true → t.inRun = true

theorem State.Kept.refl (s : State) : s.Kept s := ⟨id, id, id, id⟩

theorem State.Kept.trans {s t u : State} (h : s.Kept t) (k : t.Kept u) : s.Kept u :=
  ⟨k.notices ∘ h.notices, k.records ∘ h.records, k.formed ∘ h.formed, k.table ∘ h.table⟩

theorem State.Keeps.trans {s t u : State} (h : s.Keeps t) (k : t.Keeps u) : s.Keeps u :=
  ⟨h.toKept.trans k.toKept, k.pins.trans h.pins, k.lock ∘ h.lock⟩

theorem State.Stays.trans {s t u : State} (h : s.Stays t) (k : t.Stays u) : s.Stays u :=
  ⟨h.toKeeps.trans k.toKeeps, k.effective.trans h.effective, k.running ∘ h.running⟩

theorem State.Steady.tableSound {s t : State} (h : s.Steady t) (sound : s.TableSound) : t.TableSound := by
  rw [State.tableSound_iff] at sound ⊢
  obtain ⟨stored, list, adhoc, staged⟩ := sound
  refine ⟨h.stored stored, list.sublist h.fixes, h.nextAdhoc ▸ adhoc, ?_⟩
  rcases h.load with e | e <;> rw [e]
  · exact staged
  · simp

theorem State.recordsFit_congr {s t : State} (cs : t.cs = s.cs) (grant : t.ad.grant ≤ 1000)
    (h : s.RecordsFit) : t.RecordsFit := by
  obtain ⟨inRange, pending, scenes, -⟩ := h
  unfold State.RecordsFit State.comm
  rw [cs]
  exact ⟨inRange, pending, scenes, grant⟩

theorem State.Steady.stays {s t : State} (h : s.Steady t) : s.Stays t where
  notices := h.notices
  records hr := State.recordsFit_congr h.cs (h.grant ▸ hr.2.2.2) hr
  formed := h.formed
  table := h.tableSound
  pins := h.pins
  lock := by rw [h.cs]; exact id
  effective := by rw [h.cs]
  running := by unfold State.inRun; rw [h.cs]; exact id

theorem State.Steady.keeps {s t : State} (h : s.Steady t) : s.Keeps t := h.stays.toKeeps

theorem State.Stays.refl (s : State) : s.Stays s := (Steady.refl s).stays

theorem State.Stays.ite {s t u : State} {c : Prop} [Decidable c] (ht : s.Stays t) (hu : s.Stays u) :
    s.Stays (if c then t else u) := by
  split <;> assumption

theorem State.Stays.foldl {β : Type} {f : State → β → State} (h : ∀ (s : State) b, s.Stays (f s b))
    (l : List β) (s : State) : s.Stays (l.foldl f s) :=
  foldl_keeps (s.Stays ·) f (fun _ b ha => ha.trans (h _ b)) l s (.refl s)

/-- A change of the table and its image alone, or of the ad-hoc counter and the load besides, keeps all once
the new table, counter and load are sound. -/
theorem State.Stays.of_table {s t : State} (pins : t.pins = s.pins) (cs : t.cs = s.cs)
    (grant : t.ad.grant = s.ad.grant) (lm : t.lm = s.lm) (nq : t.nq = s.nq)
    (table : s.TableSound → t.TableSound) : s.Stays t where
  notices := by unfold State.NoticesFit; rw [nq]; exact id
  records hr := State.recordsFit_congr cs (grant ▸ hr.2.2.2) hr
  formed := State.groupsFormed_congr cs (by rw [lm]) (by rw [lm])
  table := table
  pins := pins
  lock := by rw [cs]; exact id
  effective := by rw [cs]
  running := by unfold State.inRun; rw [cs]; exact id

theorem State.setTable_stays {s : State} {t : List Entry}
    (h : s.TableSound → ListSound (t.map (·.fix))) : s.Stays (s.setTable t) :=
  .of_table rfl rfl rfl rfl rfl fun sound => by
    have list := h sound
    rw [State.tableSound_iff] at sound ⊢
    obtain ⟨-, -, adhoc, staged⟩ := sound
    exact ⟨rfl, list, adhoc, staged⟩

/-! ### Owners -/

theorem firstFault_eq_ok {checks : List (Bool × Reason)} (h : ∀ c ∈ checks, c.2 ≠ .ok) :
    firstFault checks = .ok ↔ ∀ c ∈ checks, c.1 = false := by
  induction checks with
  | nil => simp [firstFault]
  | cons c rest ih =>
    obtain ⟨bad, r⟩ := c
    have hr : r ≠ .ok := h (bad, r) (by simp)
    rw [firstFault, List.forall_mem_cons, ← ih fun x hx => h x (by simp [hx])]
    cases bad <;> simp [hr]

theorem judged_stays {s : State} {checks : List (Bool × Reason)} {act : State → Answered}
    (h : firstFault checks = .ok → s.Stays (act s).1) : s.Stays (judged s checks act).1 := by
  rw [judged_eq]
  split
  case isTrue ok => exact h ok
  case isFalse => exact .refl s

theorem ofReq_stays {α : Type} {owner : α → State → Answered}
    (h : ∀ a (s : State), s.Stays (owner a s).1) (p : Req α) (s : State) :
    s.Stays (ofReq p owner s).1 := by
  cases p with
  | fields a => exact h a s
  | wrongLength n => exact .refl s

theorem ofReq_keeps {α : Type} {owner : α → State → Answered}
    (h : ∀ a (s : State), s.Keeps (owner a s).1) (p : Req α) (s : State) :
    s.Keeps (ofReq p owner s).1 := by
  cases p with
  | fields a => exact h a s
  | wrongLength n => exact (State.Stays.refl s).toKeeps

theorem inRunOnly_stays {act : State → Answered} (h : ∀ s : State, s.Stays (act s).1) (s : State) :
    s.Stays (inRunOnly act s).1 := by
  unfold inRunOnly
  split
  · exact h s
  · exact .refl s

theorem State.timeSet_stays (p : Nat × Nat) (s : State) : s.Stays (s.timeSet p).1 := by
  unfold State.timeSet
  split
  · exact .refl s
  · exact (s.applyTime_steady _ _).stays

/-! ### The booking table -/

theorem State.addEntry_stays {s : State} {e : Entry} (room : s.bt.table.length < 128)
    (ref : 1 ≤ e.fix.ref ∧ e.fix.ref ≤ 4294967295) (fresh : ∀ x ∈ s.bt.table, x.fix.ref ≠ e.fix.ref)
    (free : ∀ x ∈ s.bt.table, clash e.fix x.fix = false) : s.Stays (s.addEntry e) := by
  refine State.setTable_stays fun sound => ?_
  obtain ⟨-, list, -⟩ := s.tableSound_iff.mp sound
  rw [map_fix_insertEntry]
  refine list.insert (by simpa using room) ref ?_ ?_ <;> simpa

theorem addReason_eq_ok {s : State} {w : FixedWire} (h : addReason s w = .ok) :
    badFields w = false ∧ (∀ e ∈ s.bt.table, e.fix.ref ≠ w.ref) ∧
      (∀ e ∈ s.bt.table, clash (admitted s w) e.fix = false) ∧ s.bt.table.length < 128 := by
  unfold addReason at h
  split_ifs at h with h1 h2 h3 h4 h5 h6 h7 h8
  simp only [List.any_eq_true, beq_iff_eq, not_exists, not_and, Bool.not_eq_true] at h1 h6 h7
  exact ⟨h1, h6, h7, by omega⟩

theorem State.bookAdd_stays (w : FixedWire) (s : State) : s.Stays (s.bookAdd w).1 := by
  rw [State.bookAdd_eq]
  split
  case isFalse => exact .refl s
  case isTrue ok =>
    obtain ⟨fields, fresh, free, room⟩ := addReason_eq_ok ok
    refine State.addEntry_stays room ?_ fresh free
    simp only [badFields, Bool.or_eq_false_iff, beq_eq_false_iff_ne, decide_eq_false_iff_not] at fields
    show 1 ≤ w.ref ∧ w.ref ≤ 4294967295
    omega

/-- An entry's fixed fields replaced under its own reference on free ground. -/
theorem State.replaceFixed_stays {s : State} {e : Entry} {f : Fixed} (mem : e ∈ s.bt.table)
    (ref : f.ref = e.fix.ref)
    (free : ∀ x ∈ s.bt.table, x.fix.ref ≠ e.fix.ref → clash f x.fix = false) :
    s.Stays (s.replaceFixed e f) := by
  refine State.setTable_stays fun sound => ?_
  obtain ⟨-, list, -⟩ := s.tableSound_iff.mp sound
  have sub := (List.filter_sublist (p := fun x : Entry => x.fix.ref != e.fix.ref) (l := s.bt.table)).map
    (·.fix)
  have shorter : (s.bt.table.filter fun x => x.fix.ref != e.fix.ref).length < s.bt.table.length := by
    refine List.length_filter_lt_length_iff_exists.mpr ⟨e, mem, by simp⟩
  have len := list.1
  rw [map_fix_insertEntry]
  refine (list.sublist sub).insert ?_ (ref ▸ list.2.2.2 e.fix (List.mem_map_of_mem mem)) ?_ ?_
  · simp only [List.length_map] at len ⊢
    omega
  · simp only [List.forall_mem_map, List.mem_filter, bne_iff_ne, ref]
    exact fun x hx => hx.2
  · simp only [List.forall_mem_map, List.mem_filter, bne_iff_ne]
    exact fun x hx => free x hx.1 hx.2

theorem candidate_ref (comm : Commission) (c : ChangeWire) (f : Fixed) :
    (candidate comm c f).ref = f.ref := by
  simp only [candidate, clampFixed, settleFlags_eq]

theorem State.backToPlanned_steady (s : State) (e : Entry) : s.Steady (s.backToPlanned e) :=
  ((s.mapVolatile_steady _ _).trans (.ite (State.notify_steady _ _) (.refl _))).trans
    (State.raise_steady _ _)

theorem State.reload_steady (s : State) (e : Entry) (g : Fixed) : s.Steady (s.reload e g) := by
  unfold State.reload
  extract_lets moved lit s1
  have h1 : s.Steady s1 := .ite ((s.mapVolatile_steady _ _).trans (State.alReconcile_steady _ _)) (.refl s)
  exact h1.trans (.ite ((State.mapVolatile_steady _ _ _).trans (State.raise_steady _ _)) (.refl s1))

theorem State.resumeSession_steady (s : State) (e : Entry) (g : Fixed) :
    s.Steady (s.resumeSession e g) :=
  .ite ((s.mapVolatile_steady _ _).trans (State.raise_steady _ _)) (.refl s)

/-- All that BOOK CHANGE does behind the change of the fixed fields is made of routines. -/
theorem State.applyChange_steady (s : State) (c : ChangeWire) (e : Entry) :
    (s.replaceFixed e (candidate s.comm c e.fix)).Steady (s.applyChange c e) := by
  unfold State.applyChange
  extract_lets g s1 s2 s3
  have h3 : s1.Steady s3 := (s1.reload_steady e g).trans (.ite (State.raise_steady _ _) (.refl _))
  split
  · exact .refl s1
  · exact .ite (s1.backToPlanned_steady e) (s1.reload_steady e g)
  · exact .ite (s1.backToPlanned_steady e) (s1.reload_steady e g)
  all_goals
    refine h3.trans (.ite ?_ (s3.resumeSession_steady e g))
    split
    · exact s3.endSession_steady _ _
    · exact .refl s3

theorem changeChecks_free {s : State} {c : ChangeWire} {e : Entry}
    (h : firstFault (changeChecks s c e) = .ok) :
    ∀ x ∈ s.bt.table, x.fix.ref ≠ e.fix.ref → clash (candidate s.comm c e.fix) x.fix = false := by
  have all := (firstFault_eq_ok (by simp [changeChecks])).mp h
  have overlap := all (s.bt.table.any fun x => x.fix.ref != e.fix.ref &&
    overlaps (candidate s.comm c e.fix) x.fix, .overlap) (by simp [changeChecks])
  simpa [List.any_eq_false, overlaps_eq_clash] using overlap

theorem State.bookChange_stays (c : ChangeWire) (s : State) : s.Stays (s.bookChange c).1 := by
  unfold State.bookChange
  split
  · exact .refl s
  · rename_i e found
    split
    · exact .refl s
    · refine judged_stays fun ok => ?_
      exact (State.replaceFixed_stays (State.entry?_mem found).1 (candidate_ref _ _ _)
        (changeChecks_free ok)).trans (s.applyChange_steady c e).stays

theorem State.bookCancel_stays (p : Nat × Bool) (s : State) : s.Stays (s.bookCancel p).1 := by
  unfold State.bookCancel
  split
  · exact .refl s
  · split_ifs
    · exact .refl s
    · exact (s.endSession_steady _ _).stays
    · exact .refl s
    · exact ((s.dropEntry_steady _).trans (State.reportRemoval_steady _ _)).stays

theorem State.returnEntry_stays (s : State) (found : Option Entry) : s.Stays (s.returnEntry found).1 := by
  cases found with
  | none => exact .refl s
  | some e =>
    have h : s.Steady (s.returnEntry (some e)).1 := .of_rest rfl rfl rfl rfl rfl rfl rfl
    exact h.stays

theorem State.bookFind_stays (ref : Nat) (s : State) : s.Stays (s.bookFind ref).1 := by
  unfold State.bookFind
  split <;> exact .refl s

theorem State.bookNext_stays (u : Unit) (s : State) : s.Stays (s.bookNext u).1 := by
  unfold State.bookNext
  split
  · exact .refl s
  · exact s.returnEntry_stays _

/-! ### Loads -/

theorem State.setLoad_stays {s : State} {l : Option Load}
    (h : s.TableSound → ∀ x ∈ l, StagedSound x.staged) : s.Stays { s with load := l } :=
  .of_table rfl rfl rfl rfl rfl fun sound => by
    have staged := h sound
    rw [State.tableSound_iff] at sound ⊢
    obtain ⟨stored, list, adhoc, -⟩ := sound
    exact ⟨stored, list, adhoc, staged⟩

theorem State.loadOpen_stays (p : Nat × Nat) (s : State) : s.Stays (s.loadOpen p).1 :=
  judged_stays fun _ => State.setLoad_stays fun _ => by
    simp [StagedSound]

theorem stageReason_eq_ok {s : State} {l : Load} {w : FixedWire} (h : stageReason s l w = .ok) :
    badFields w = false ∧ (∀ x ∈ l.staged, x.ref ≠ w.ref) ∧
      (∀ x ∈ l.staged, clash (admitted s w) x = false) ∧ l.staged.length < 64 := by
  unfold stageReason at h
  split_ifs at h with h1 h2 h3 h4 h5 h6 h7
  simp only [Bool.or_eq_true, not_or, List.any_eq_true, beq_iff_eq, not_exists, not_and,
    Bool.not_eq_true] at h1 h5 h6
  exact ⟨h1.1.1, h5, h6, by omega⟩

theorem StagedSound.insert {l : List Fixed} {f : Fixed} (h : StagedSound l) (room : l.length < 64)
    (ref : 1 ≤ f.ref ∧ f.ref < 4294901760) (fresh : ∀ x ∈ l, x.ref ≠ f.ref)
    (free : ∀ x ∈ l, clash f x = false) : StagedSound (insertFixed f l) := by
  obtain ⟨-, ordered, apart, refs⟩ := h
  refine ⟨?_, ordered_insertFixed ordered fresh, apart_insertFixed apart free, ?_⟩
  · rw [insertFixed, length_insertBy]; omega
  · intro x hx
    rcases (mem_insertBy _ _ _ _).mp hx with rfl | hx
    · exact ref
    · exact refs x hx

theorem State.loadEntry_stays (w : FixedWire) (s : State) : s.Stays (s.loadEntry w).1 := by
  cases hl : s.load with
  | none => rw [State.loadEntry_of_no_load hl]; exact .refl s
  | some l =>
    rw [State.loadEntry_of_load hl]
    split
    case isFalse => exact .refl s
    case isTrue ok =>
      refine State.setLoad_stays fun sound => ?_
      obtain ⟨fields, fresh, free, room⟩ := stageReason_eq_ok ok
      simp only [badFields, Bool.or_eq_false_iff, beq_eq_false_iff_ne, decide_eq_false_iff_not] at fields
      have staged := (s.tableSound_iff.mp sound).2.2.2 l hl
      rintro x hx
      obtain rfl := Option.some.inj hx
      exact staged.insert room (show 1 ≤ w.ref ∧ w.ref < 4294901760 by omega) fresh free

/-- Entries that are apart from a sound table and from one another join it one after the other. -/
theorem ListSound.insertAll (new : List Fixed) (t : List Entry) (h : ListSound (t.map (·.fix)))
    (room : t.length + new.length ≤ 128) (refs : ∀ f ∈ new, 1 ≤ f.ref ∧ f.ref ≤ 4294967295)
    (each : new.Pairwise fun a b => a.ref ≠ b.ref ∧ clash b a = false)
    (fresh : ∀ f ∈ new, ∀ x ∈ t, x.fix.ref ≠ f.ref ∧ clash f x.fix = false) :
    ListSound ((new.foldl (fun t f => insertEntry ⟨f, Volatile.planned⟩ t) t).map (·.fix)) := by
  induction new generalizing t with
  | nil => exact h
  | cons f new ih =>
    obtain ⟨apart, each⟩ := List.pairwise_cons.mp each
    simp only [List.length_cons] at room
    rw [List.foldl_cons]
    refine ih _ ?_ ?_ (fun g hg => refs g (by simp [hg])) each fun g hg x hx => ?_
    · rw [map_fix_insertEntry]
      refine h.insert ?_ (refs f (by simp)) ?_ ?_
      · rw [List.length_map]; omega
      · simpa using fun x hx => (fresh f (by simp) x hx).1
      · simpa using fun x hx => (fresh f (by simp) x hx).2
    · rw [insertEntry, length_insertBy]; omega
    · rcases (mem_insertBy _ _ _ _).mp hx with rfl | hx
      · exact apart g hg
      · exact fresh g (by simp [hg]) x hx

theorem conflicts_eq_false {kept : List Entry} {f : Fixed} (h : conflicts kept f = false) :
    ∀ x ∈ kept, x.fix.ref ≠ f.ref ∧ clash f x.fix = false := by
  simp only [conflicts, List.any_eq_false, Bool.or_eq_true, beq_iff_eq, not_or, Bool.not_eq_true,
    overlaps_eq_clash] at h
  exact fun x hx => (h x hx).symm

theorem State.loadClose_stays (u : Unit) (s : State) : s.Stays (s.loadClose u).1 := by
  cases hl : s.load with
  | none => simp only [State.loadClose, hl]; exact .refl s
  | some l =>
    simp only [State.loadClose, hl]
    split
    case isTrue =>
      refine State.setLoad_stays fun sound x hx => ?_
      obtain rfl := Option.some.inj hx
      exact (s.tableSound_iff.mp sound).2.2.2 l hl
    case isFalse room =>
      refine .trans (t := s.setTable _) (State.setTable_stays fun sound => ?_)
        ((State.notify_steady _ _).stays.trans (State.setLoad_stays fun _ => by simp))
      obtain ⟨-, list, -, staged⟩ := s.tableSound_iff.mp sound
      obtain ⟨-, ordered, apart, refs⟩ := staged l hl
      have survive : (s.judgeCommit l).survivors.Sublist l.staged :=
        List.filter_sublist.trans List.filter_sublist
      refine ListSound.insertAll _ _ (list.sublist (List.filter_sublist.map _)) ?_ ?_ ?_ ?_
      · simp only [Config.tableCapacity] at room; omega
      · intro f hf
        have := refs f (survive.subset hf)
        omega
      · refine (ordered.and apart).sublist survive |>.imp fun ⟨⟨_, ref⟩, free⟩ => ⟨ref, ?_⟩
        rw [clash_comm]; exact free
      · intro f hf
        have free : conflicts (s.judgeCommit l).kept f = false := by
          simpa [State.judgeCommit] using (List.mem_filter.mp hf).2
        exact conflicts_eq_false free

theorem State.loadAbort_stays (u : Unit) (s : State) : s.Stays (s.loadAbort u).1 := by
  unfold State.loadAbort
  split
  · exact .refl s
  · exact State.setLoad_stays fun _ => by simp

/-! ### Notices, grant and commissioning records -/

theorem State.noticeTake_stays (u : Unit) (s : State) : s.Stays (s.noticeTake u).1 := by
  unfold State.noticeTake
  split
  · exact .refl s
  · rename_i n rest hl
    refine ⟨⟨⟨?_, id, id, id⟩, rfl, id⟩, rfl, id⟩
    rintro ⟨len, counter⟩
    rw [hl, List.length_cons] at len
    exact ⟨Nat.le_of_succ_le len, counter⟩

/-- A recompute under another grant. -/
theorem State.regrant_stays {s : State} {a : Ad} (grant : a.grant ≤ 1000) :
    s.Stays (State.recompute { s with ad := a }) := by
  refine .trans (t := { s with ad := a }) ?_ (State.recompute_steady _).stays
  exact ⟨⟨⟨id, State.recordsFit_congr rfl grant, id, id⟩, rfl, id⟩, rfl, id⟩

theorem State.grantRequest_stays (g : Nat) (s : State) : s.Stays (s.grantRequest g).1 :=
  State.regrant_stays (Nat.min_le_left _ _)

/-- The ranges record by record: what RecordsFit says of the selectors. -/
def Commission.Fits (c : Commission) : Prop :=
  (Record.suite c.suite).InRange ∧ (∀ i, (Record.segment i (c.segments.get i)).InRange) ∧
    (∀ i, (Record.profile i (c.profiles.get i)).InRange) ∧ ∀ i : Fin 16, (Record.scene i (c.scene i)).InRange

theorem Commission.fits_iff (c : Commission) :
    (∀ sel ∈ List.range 25, (c.recordAt sel).InRange) ↔ c.Fits := by
  constructor
  · intro h
    refine ⟨h 0 (by decide), fun i => ?_, fun i => ?_, fun i => ?_⟩
    · have := h (1 + i) (by simp; omega)
      fin_cases i <;> exact this
    · have := h (5 + i) (by simp; omega)
      fin_cases i <;> exact this
    · have := h (9 + i) (by simp; omega)
      fin_cases i <;> exact this
  · rintro ⟨suite, segment, profile, scene⟩ sel hsel
    rw [List.mem_range] at hsel
    unfold Commission.recordAt
    split
    · exact suite
    · split
      · exact segment _
      · split
        · exact profile _
        · have := scene (Fin.ofNat 16 (sel - 9))
          rwa [show (Fin.ofNat 16 (sel - 9)).val = sel - 9 from Nat.mod_eq_of_lt (by omega)] at this

theorem Commission.put_scenes_length (c : Commission) (r : Record) :
    (c.put r).scenes.length = c.scenes.length := by
  cases r <;> simp [Commission.put]

theorem Commission.Fits.put {c : Commission} (h : c.Fits) (len : c.scenes.length = 16) {r : Record}
    (hr : r.InRange) : (c.put r).Fits := by
  obtain ⟨suite, segment, profile, scene⟩ := h
  cases r with
  | suite r => exact ⟨hr, segment, profile, scene⟩
  | segment i r =>
    refine ⟨suite, fun j => ?_, profile, scene⟩
    by_cases hj : j = i
    · subst hj; simpa [Commission.put] using hr
    · simpa [Commission.put, Four.get_set_other _ _ hj] using segment j
  | profile i r =>
    refine ⟨suite, segment, fun j => ?_, scene⟩
    by_cases hj : j = i
    · subst hj; simpa [Commission.put] using hr
    · simpa [Commission.put, Four.get_set_other _ _ hj] using profile j
  | scene i r =>
    refine ⟨suite, segment, profile, fun j => ?_⟩
    by_cases hj : j = i
    · subst hj; simpa [Commission.put, Commission.scene, len] using hr
    · have hne : (i : Nat) ≠ j := fun e => hj (Fin.ext e.symm)
      simpa [Commission.put, Commission.scene, List.getElem?_set_ne hne] using scene j

/-- Pending records in their ranges, taken into effect, leave the records in effect in theirs (R188). -/
theorem Commission.takePending_fits (pending : List Record) (c : Commission) (h : c.Fits)
    (len : c.scenes.length = 16) (hp : ∀ r ∈ pending, r.InRange) :
    (c.takePending pending).Fits ∧ (c.takePending pending).scenes.length = 16 := by
  induction pending generalizing c with
  | nil => exact ⟨h, len⟩
  | cons r rest ih =>
    exact ih (c.put r) (h.put len (hp r (by simp))) ((c.put_scenes_length r).trans len)
      fun x hx => hp x (by simp [hx])

theorem State.RecordsFit.takePending {s : State} (h : s.RecordsFit) :
    (∀ sel ∈ List.range 25, ((s.comm.takePending s.cs.pending).recordAt sel).InRange) ∧
      (s.comm.takePending s.cs.pending).scenes.length = 16 := by
  obtain ⟨inRange, pending, len, -⟩ := h
  obtain ⟨fits, len'⟩ := Commission.takePending_fits _ _ ((Commission.fits_iff _).mp inRange) len pending
  exact ⟨(Commission.fits_iff _).mpr fits, len'⟩

/-! ### A commissioning record by its values (R180, R189) -/

theorem fieldCount_le {selector n : Nat} (h : fieldCount selector = some n) : selector ≤ 24 := by
  unfold fieldCount at h
  split_ifs at h <;> omega

theorem Record.selector_ofValues {selector : Nat} (h : selector ≤ 24) (v : List Nat) :
    (Record.ofValues selector v).selector = selector := by
  unfold Record.ofValues
  split_ifs <;> simp only [Record.selector, Fin.ofNat] <;> omega

/-- Values in their ranges make a record that carries them. -/
theorem Record.values_ofValues {selector : Nat} {v : List Nat}
    (len : fieldCount selector = some v.length)
    (inRange : firstBadField 1 v (fieldRanges selector v) = none) :
    (Record.ofValues selector v).values = v := by
  unfold fieldCount at len
  unfold Record.ofValues
  split_ifs at len ⊢ with h0 h4 h8 h24 <;> simp only [Option.some.injEq] at len
  · match v, len with
    | [_, _, _, _, _, _, _, _, _, _, _, _, _, _, _, _, _, _, _], _ => rfl
  · match v, len with
    | [_, _, _, _, _, _, _, _], _ => rfl
  · match v, len with
    | [_, _, _, _], _ => rfl
  · match v, len with
    | [window, inner, blind, harvest, fade, temporary, exam], _ =>
      simp only [fieldRanges, h0, h4, h8, if_false, firstBadField] at inRange
      split_ifs at inRange with r1 r2 r3 r4 r5 r6 r7
      have flag (n : Nat) (hn : n ≤ 1) : flagNat (n == 1) = n := by
        rcases Nat.le_one_iff_eq_zero_or_eq_one.mp hn with rfl | rfl <;> rfl
      have blind_back : (if blind = 1001 then none else some blind).getD 1001 = blind := by
        split_ifs with hb <;> simp [hb]
      simp [Record.values, SceneRec.ofValues, flag _ r4.2, flag _ r6.2, flag _ r7.2, blind_back]

theorem State.putPending_stays {s : State} {r : Record} (hr : r.InRange) : s.Stays (s.putPending r) := by
  refine ⟨⟨⟨id, ?_, id, id⟩, rfl, id⟩, rfl, id⟩
  rintro ⟨inRange, pending, len, grant⟩
  refine ⟨inRange, ?_, len, grant⟩
  intro x hx
  rcases List.mem_append.mp hx with hx | hx
  · exact pending x (List.mem_of_mem_filter hx)
  · rwa [List.mem_singleton.mp hx]

theorem State.commissionWrite_stays (p : Nat × List Nat) (s : State) :
    s.Stays (s.commissionWrite p).1 := by
  unfold State.commissionWrite
  split
  · exact .refl s
  · rename_i n count
    split_ifs with hlen hrun
    · exact .refl s
    · exact .refl s
    · split
      · exact .refl s
      · rename_i good
        have len : fieldCount p.1 = some p.2.length := by rw [count, Decidable.not_not.mp hlen]
        refine State.putPending_stays ?_
        rw [Record.InRange, Record.values_ofValues len good,
          Record.selector_ofValues (fieldCount_le count)]
        exact good

theorem State.commissionRead_stays (selector : Nat) (s : State) : s.Stays (s.commissionRead selector).1 := by
  unfold State.commissionRead
  split <;> exact .refl s

end Sys2Proof.Machine

/-! SERVICE, restart and the panels under the invariants, the wrappers, and one case for each command:
the statements on what every step keeps (O59, O60) and on what moves the records in effect (O30). -/

namespace Sys2Proof.Machine

/-! ### SERVICE entry and exit, the lock -/

theorem State.formGroups_congr_effective {s t : State} (effective : t.cs.effective = s.cs.effective)
    (parts : t.lm.parts = s.lm.parts) : t.formGroups = s.formGroups := by
  have hc : t.partConfigured = s.partConfigured := by
    funext p
    rw [State.partConfigured, State.partConfigured, State.segCount, State.segCount, effective]
  simp only [State.formGroups, hc, parts]

theorem State.setCs_keeps {s : State} {c : Cs} (effective : c.effective = s.cs.effective)
    (pending : c.pending = s.cs.pending) (lock : s.cs.lock = true → c.lock = true) :
    s.Keeps { s with cs := c } where
  notices := id
  records := by
    unfold State.RecordsFit State.comm
    rintro ⟨inRange, rest⟩
    exact ⟨by rw [effective]; exact inRange, by rw [pending]; exact rest.1,
      by rw [effective]; exact rest.2.1, rest.2.2⟩
  formed h := by
    exact Eq.trans h (State.formGroups_congr_effective (s := s) (t := { s with cs := c }) effective rfl).symm
  table := id
  pins := rfl
  lock := lock

/-- The routines of the blocks at SERVICE entry, once the mode is set (R54, R68, R128, R142, R167). -/
theorem State.parkBlocks_steady (s : State) :
    s.Steady ((((s.endEvery .service).abortLoad .service).alService).adService).lbuService :=
  ((((s.endEvery_steady _).trans (State.abortLoad_steady _ _)).trans
    (State.alService_steady _)).trans (State.adService_steady _)).trans (State.lbuService_relit _).steady

theorem State.enterService_keeps (s : State) : s.Keeps s.enterService ∧
    s.enterService.cs = { s.cs with mode := .service } := by
  unfold State.enterService
  extract_lets s1 running s2
  have flushed : s.Steady s1 := s.flushSettled_steady
  have moded : s1.Keeps s2 := State.setCs_keeps rfl rfl id
  exact ⟨(flushed.keeps.trans moded).trans s2.parkBlocks_steady.keeps,
    s2.parkBlocks_steady.cs.trans (congrArg (fun c : Cs => { c with mode := .service }) flushed.cs)⟩

theorem State.modeService_keeps (force : Bool) (s : State) : s.Keeps (s.modeService force).1 ∧
    (s.modeService force).1.cs.effective = s.cs.effective := by
  unfold State.modeService
  split
  · exact ⟨(Stays.refl s).toKeeps, rfl⟩
  · rw [judged_eq]
    split
    · obtain ⟨keeps, cs⟩ := s.enterService_keeps
      exact ⟨keeps, (congrArg Cs.effective cs :)⟩
    · exact ⟨(Stays.refl s).toKeeps, rfl⟩

/-- LM's records taken down and formed anew. -/
theorem State.Steady.of_relaid {s u t : State} {found made : Lm}
    (read : ({ s with lm := found } : State).Steady u) (after : ({ u with lm := made } : State).Steady t)
    (formed : t.GroupsFormed) : s.Steady t where
  pins := after.pins.trans read.pins
  cs := after.cs.trans read.cs
  grant := after.grant.trans read.grant
  nextAdhoc := after.nextAdhoc.trans read.nextAdhoc
  fixes := after.fixes.trans read.fixes
  stored := after.stored ∘ read.stored
  load := after.load.elim (fun e => e ▸ read.load) .inr
  formed _ := formed
  notices := after.notices ∘ read.notices

/-- LM's readings taken afresh move the partitions and the notices alone. -/
theorem State.readParts_steady (s : State) :
    ({ s with lm := { s.lm with parts := ⟨s.readPart 0, s.readPart 1, s.readPart 2⟩ } } : State).Steady
      s.readParts :=
  ((State.faultCheck_steady _ _).trans (State.faultCheck_steady _ _)).trans (State.faultCheck_steady _ _)

/-- Records made for the sets that the partitions form are groups as formed. -/
theorem State.groupsFormed_of_made {s : State} {groups : List GroupRec} {refs : List Nat}
    (h : groups.map (·.segs) = s.formGroups) :
    ({ s with lm := { s.lm with groups := groups, governsFirst := refs } } : State).GroupsFormed := h

theorem map_initial_segs (sets : List Segs) : (sets.map GroupRec.initial).map (·.segs) = sets := by
  simp [Function.comp_def, GroupRec.initial]

/-- Whatever the groups were, SERVICE exit leaves them as the partitions form them. -/
theorem State.lmExit_formed (s : State) : s.lmExit.GroupsFormed := by
  unfold State.lmExit
  extract_lets s1 groups
  have segs : groups.map (·.segs) = s1.formGroups :=
    (s1.resolveGroups_segs _ _).trans (map_initial_segs _)
  exact ((State.reportGoverns_steady _).trans (State.raiseAll_steady _ _)).formed
    (State.groupsFormed_of_made segs)

theorem State.lmExit_steady (s : State) : s.Steady s.lmExit :=
  .of_relaid s.readParts_steady ((State.reportGoverns_steady _).trans (State.raiseAll_steady _ _))
    s.lmExit_formed

theorem State.lmRestart_formed (s : State) : s.lmRestart.GroupsFormed := by
  unfold State.lmRestart
  exact State.groupsFormed_of_made (map_initial_segs _)

theorem State.lmRestart_steady (s : State) : s.Steady s.lmRestart :=
  .of_relaid s.readParts_steady (.refl _) s.lmRestart_formed

/-- A headcount is neither time nor place nor reference: clamping it leaves a sound table sound. -/
theorem ListSound.map_headcount {l : List Fixed} (f : Fixed → Nat) (h : ListSound l) :
    ListSound (l.map fun x => { x with headcount := f x }) := by
  obtain ⟨len, ordered, apart, refs⟩ := h
  refine ⟨by simpa using len, ?_, ?_, by simpa using refs⟩
  · rw [Ordered, List.pairwise_map]; exact ordered
  · rw [Apart, List.pairwise_map]; exact apart

theorem State.clampHeadcounts_stays (s : State) : s.Stays s.clampHeadcounts := by
  refine State.setTable_stays fun sound => ?_
  have list := (s.tableSound_iff.mp sound).2.1
  have := list.map_headcount fun x => clampHeadcount s.comm (fixedSegs x) x.headcount
  rw [List.map_map] at this ⊢
  exact this

theorem State.siExit_steady (s : State) (n : Nat) : s.Steady (s.siExit n) :=
  .of_rest rfl rfl rfl rfl rfl rfl rfl

theorem State.otLeave_steady (s : State) (n : Nat) : s.Steady (s.otLeave n) :=
  .of_rest rfl rfl rfl rfl rfl rfl rfl

theorem State.alLeave_steady (s : State) : s.Steady s.alLeave := .of_rest rfl rfl rfl rfl rfl rfl rfl

theorem State.adLeave_steady (s : State) (n : Nat) : s.Steady (s.adLeave n) :=
  .of_rest rfl rfl rfl rfl rfl rfl rfl

theorem State.lbuLeaveSegs_steady (s : State) (n : Nat) : s.Steady (s.lbuLeaveSegs n) :=
  .of_rest rfl rfl rfl rfl rfl rfl rfl

theorem State.lbuLeaveOcc_steady (s : State) : s.Steady s.lbuLeaveOcc :=
  .of_rest rfl rfl rfl rfl rfl rfl rfl

theorem State.lbuLeave_steady (s : State) (n : Nat) : s.Steady (s.lbuLeave n) :=
  ((s.lbuLeaveSegs_steady n).trans (State.lbuLeaveOcc_steady _)).trans (State.mapEveryVolatile_steady _ _)

theorem State.rlLeave_steady (s : State) : s.Steady s.rlLeave := .of_rest rfl rfl rfl rfl rfl rfl rfl

/-- What the blocks other than BT and LM do as SERVICE ends. -/
theorem State.leaveBlocks_steady (s : State) (n : Nat) :
    s.Steady ((((((s.siExit n).otLeave n).alLeave).adLeave n).lbuLeave n).rlLeave) :=
  (((((s.siExit_steady n).trans (State.otLeave_steady _ n)).trans (State.alLeave_steady _)).trans
    (State.adLeave_steady _ n)).trans (State.lbuLeave_steady _ n)).trans (State.rlLeave_steady _)

theorem State.leaveService_keeps (s : State) : s.Keeps s.leaveService ∧
    s.leaveService.cs.mode = .run := by
  unfold State.leaveService
  extract_lets oldCount s1 mode s2 s3
  have routines : s2.clampHeadcounts.Steady s3.lmExit.reenterExit :=
    ((State.leaveBlocks_steady _ _).trans s3.lmExit_steady).trans s3.lmExit.reenterExit_steady
  have stays : s2.Stays s3.lmExit.reenterExit := s2.clampHeadcounts_stays.trans routines.stays
  refine ⟨⟨⟨stays.notices, fun fit => stays.records ?_, fun _ => ?_, stays.table⟩, stays.pins,
    stays.lock⟩, ?_⟩
  · obtain ⟨inRange, len⟩ := fit.takePending
    exact ⟨inRange, fun r hr => absurd hr (List.not_mem_nil (a := r)), len, fit.2.2.2⟩
  · exact s3.lmExit.reenterExit_steady.formed s3.lmExit_formed
  · exact congrArg Cs.mode routines.cs

theorem State.inRun_iff (s : State) : s.inRun = true ↔ s.cs.mode = .run := by
  simp [State.inRun]

theorem State.modeRun_keeps (force : Bool) (s : State) : s.Keeps (s.modeRun force).1 ∧
    (s.inRun = true → (s.modeRun force).1.inRun = true) := by
  unfold State.modeRun
  split
  · exact ⟨(Stays.refl s).toKeeps, id⟩
  · exact ⟨s.leaveService_keeps.1, fun _ => (State.inRun_iff _).mpr s.leaveService_keeps.2⟩

theorem State.modeLock_stays (p : Nat × Bool) (s : State) : s.Stays (s.modeLock p).1 := by
  unfold State.modeLock
  split_ifs
  · exact .refl s
  · exact ⟨State.setCs_keeps rfl rfl fun _ => rfl, rfl, id⟩
  · exact .refl s

theorem State.lineReleased_keeps (s : State) : s.Keeps s.lineReleased ∧
    (s.inRun = true → s.lineReleased.inRun = true) := by
  unfold State.lineReleased
  split
  · exact ⟨(Stays.refl s).toKeeps, id⟩
  · obtain ⟨keeps, mode⟩ := s.leaveService_keeps
    have rate (u : State) (w : Wp) : u.Keeps { u with wp := w } :=
      (Steady.of_rest (s := u) (t := { u with wp := w }) rfl rfl rfl rfl rfl rfl rfl).keeps
    exact ⟨keeps.trans (rate _ _), fun _ => (State.inRun_iff _).mpr mode⟩

theorem State.setServiceLine_stays (s : State) (asserted : Bool) : s.Stays (s.setServiceLine asserted) :=
  ⟨State.setCs_keeps rfl rfl id, rfl, id⟩

/-! ### Restart -/

theorem State.cleared_kept (s : State) (cause : RestartCause) (h : s.TableSound) :
    (s.cleared cause).TableSound := by
  rw [State.tableSound_iff] at h ⊢
  obtain ⟨stored, list, -, -⟩ := h
  have fixes : (s.cleared cause).bt.table.map (·.fix) = s.bt.stored := by
    simp [State.cleared, Function.comp_def]
  refine ⟨fixes.symm, ?_, ?_, by simp [State.cleared]⟩
  · rw [fixes, stored]
    exact list
  · simp [State.cleared, Config.adhocFirst]

theorem State.siRestart_steady (s : State) : s.Steady s.siRestart := .of_rest rfl rfl rfl rfl rfl rfl rfl

theorem State.otRestart_steady (s : State) : s.Steady s.otRestart := .of_rest rfl rfl rfl rfl rfl rfl rfl

theorem State.lbuRestart_steady (s : State) : s.Steady s.lbuRestart := .of_rest rfl rfl rfl rfl rfl rfl rfl

theorem State.alRestart_steady (s : State) : s.Steady s.alRestart := .of_rest rfl rfl rfl rfl rfl rfl rfl

theorem State.adRestart_stays (s : State) : s.Stays s.adRestart :=
  ⟨⟨⟨id, State.recordsFit_congr rfl (Nat.le_refl 1000), id, id⟩, rfl, id⟩, rfl, id⟩

/-- What the blocks other than BT and LM do at a restart. -/
theorem State.restartBlocks_stays (s : State) :
    s.Stays ((s.otRestart.lbuRestart.reportSources).alRestart).adRestart :=
  (((s.otRestart_steady.trans (State.lbuRestart_steady _)).trans (State.raiseAll_steady _ _)).trans
    (State.alRestart_steady _)).stays.trans (State.adRestart_stays _)

/-- A restart keeps every invariant, most of them whatever the state was. -/
theorem State.restart_kept (s : State) (cause : RestartCause) :
    s.Kept (s.restart cause) ∧ (s.restart cause).pins = s.pins := by
  unfold State.restart
  extract_lets s1 s2
  have noted : (s.cleared cause).Steady ((s.cleared cause).notify (.restarted cause)) :=
    State.notify_steady _ _
  have early : (s.cleared cause).Steady s1 :=
    (noted.trans (State.lmRestart_steady _)).trans (State.siRestart_steady _)
  have formed : s1.GroupsFormed := (State.siRestart_steady _).formed (State.lmRestart_formed _)
  have late : s1.Stays s2 := s1.restartBlocks_stays
  have last : s2.Steady (if s2.tb.valid then s2.reenter else s2).drive :=
    (Steady.ite s2.reenter_steady (.refl s2)).trans (State.drive_steady _)
  have whole := (early.stays.trans late).trans last.stays
  refine ⟨⟨fun _ => whole.notices (by simp [State.cleared, State.NoticesFit]), fun fit => ?_,
    fun _ => (late.trans last.stays).formed formed, fun sound => whole.table (s.cleared_kept cause sound)⟩,
    whole.pins⟩
  obtain ⟨inRange, len⟩ := fit.takePending
  exact whole.records ⟨inRange, by simp [State.cleared], len, fit.2.2.2⟩

/-! ### Panels -/

/-- The ad-hoc range is run through in a circle (R6). -/
theorem adhocRef_cases (counter k : Nat) :
    (counter + k ≤ 4294967295 ∧ adhocRef counter k = counter + k) ∨
      (4294967295 < counter + k ∧ adhocRef counter k = 4294901760 + (counter + k - 4294967296)) := by
  by_cases h : counter + k ≤ 4294967295
  · exact .inl ⟨h, by simp [adhocRef, Config.adhocLast, h]⟩
  · exact .inr ⟨by omega, by simp [adhocRef, Config.adhocLast, Config.adhocFirst, h]⟩

/-- The reference found is the first from the counter on that no entry holds (R6): with room in the table one
of the first 129 is free. -/
theorem State.freeRef_first {s : State} (low : 4294901760 ≤ s.bt.nextAdhoc)
    (high : s.bt.nextAdhoc ≤ 4294967295) (room : s.bt.table.length < 128) :
    ∃ k ≤ 128, s.freeRef = adhocRef s.bt.nextAdhoc k ∧ (∀ e ∈ s.bt.table, e.fix.ref ≠ s.freeRef) ∧
      ∀ j < k, ∃ e ∈ s.bt.table, e.fix.ref = adhocRef s.bt.nextAdhoc j := by
  have nodup : ((List.range 129).map (adhocRef s.bt.nextAdhoc)).Nodup := by
    refine List.Nodup.map_on ?_ List.nodup_range
    intro x hx y hy hxy
    rw [List.mem_range] at hx hy
    have := adhocRef_cases s.bt.nextAdhoc x
    have := adhocRef_cases s.bt.nextAdhoc y
    omega
  unfold State.freeRef
  cases h : ((List.range (Config.tableCapacity + 1)).map (adhocRef s.bt.nextAdhoc)).find? fun r =>
      (s.entry? r).isNone with
  | some r =>
    obtain ⟨free, k, hk, rfl, first⟩ := List.find?_eq_some_iff_getElem.mp h
    have bound : k < 129 := by
      rw [List.length_map, List.length_range] at hk
      exact hk
    refine ⟨k, by omega, by simp, State.entry?_none.mp (Option.isNone_iff_eq_none.mp free), fun j hj => ?_⟩
    have taken := first j hj
    simp only [List.getElem_map, List.getElem_range, Bool.not_eq_true', Option.isNone_eq_false_iff,
      Option.isSome_iff_exists] at taken
    obtain ⟨e, he⟩ := taken
    exact ⟨e, State.entry?_mem he⟩
  | none =>
    exfalso
    have held : ((List.range 129).map (adhocRef s.bt.nextAdhoc)) ⊆ s.bt.table.map (·.fix.ref) := by
      intro r hr
      have := List.find?_eq_none.mp h r hr
      rw [Option.isNone_iff_eq_none, ← ne_eq, Option.ne_none_iff_exists'] at this
      obtain ⟨e, he⟩ := this
      exact List.mem_map.mpr ⟨e, State.entry?_mem he⟩
    have := (List.subperm_of_subset nodup held).length_le
    simp only [List.length_map, List.length_range] at this
    omega

theorem State.freeRef_spec {s : State} (sound : s.TableSound) (room : s.bt.table.length < 128) :
    (∀ e ∈ s.bt.table, e.fix.ref ≠ s.freeRef) ∧ 4294901760 ≤ s.freeRef ∧ s.freeRef ≤ 4294967295 := by
  obtain ⟨low, high⟩ := (s.tableSound_iff.mp sound).2.2.1
  obtain ⟨k, hk, eq, fresh, -⟩ := State.freeRef_first low high room
  refine ⟨fresh, ?_⟩
  have := adhocRef_cases s.bt.nextAdhoc k
  omega

theorem foldl_min_le (l : List Nat) (a x : Nat) (hx : x ∈ a :: l) : l.foldl min a ≤ x := by
  induction l generalizing a x with
  | nil => simp_all
  | cons b l ih =>
    rw [List.foldl_cons]
    have least := ih (min a b) (min a b) (by simp)
    rcases List.mem_cons.mp hx with rfl | hx
    · exact least.trans (Nat.min_le_left _ _)
    · rcases List.mem_cons.mp hx with rfl | hx
      · exact least.trans (Nat.min_le_right _ _)
      · exact ih _ x (List.mem_cons_of_mem _ hx)

/-- An ad-hoc entry ends before the first entry on its group that ends ahead begins (R42). -/
theorem State.adhocEnd_le {s : State} {g : Segs} {e : Entry} (mem : e ∈ s.bt.table)
    (meet : segsMeet (entrySegs e) g = true) (ahead : s.now < e.fix.stop) :
    s.adhocEnd g ≤ e.fix.start := by
  refine foldl_min_le _ _ _ (List.mem_cons_of_mem _ (List.mem_map_of_mem (List.mem_filter.mpr ⟨mem, ?_⟩)))
  simp [meet, ahead]

theorem State.createAdhoc_stays (s : State) (g : Segs) : s.Stays (s.createAdhoc g).1 := by
  refine judged_stays fun ok => ?_
  have all := (firstFault_eq_ok (by simp)).mp ok
  simp only [List.mem_cons, List.not_mem_nil, or_false, forall_eq_or_imp, forall_eq,
    decide_eq_false_iff_not] at all
  have room : s.bt.table.length < 128 := Nat.lt_of_not_le all.2
  dsimp only
  refine .trans ?_ (State.startSession_steady _ _ _).stays
  refine .of_table rfl rfl rfl rfl rfl fun sound => ?_
  obtain ⟨fresh, low, high⟩ := State.freeRef_spec sound room
  have counted : State.TableSound { s with bt := { s.bt with nextAdhoc := adhocRef s.freeRef 1 } } := by
    rw [State.tableSound_iff] at sound ⊢
    obtain ⟨stored, list, -, staged⟩ := sound
    refine ⟨stored, list, ?_, staged⟩
    show 4294901760 ≤ adhocRef s.freeRef 1 ∧ adhocRef s.freeRef 1 ≤ 4294967295
    have := adhocRef_cases s.freeRef 1
    omega
  refine (State.addEntry_stays ?_ ?_ fresh ?_).table counted
  · exact room
  · show 1 ≤ s.freeRef ∧ s.freeRef ≤ 4294967295
    omega
  · intro x hx
    by_contra clashes
    rw [Bool.not_eq_false, clash_iff] at clashes
    obtain ⟨h1, h2, h3, h4⟩ := clashes
    have meet : segsMeet (entrySegs x) g = true := by
      rw [segsMeet, Bool.and_eq_true]
      exact ⟨decide_eq_true h2, decide_eq_true h1⟩
    exact absurd h4 (Nat.not_lt.mpr (State.adhocEnd_le (s := s) hx meet h3))

theorem State.begin_stays (i : Seg) (s : State) : s.Stays (s.begin_ i).1 := by
  unfold State.begin_
  extract_lets g
  split
  · exact .refl s
  · split
    · exact .refl s
    · split
      · split
        · exact .refl s
        · exact (s.startSession_steady _ _).stays
      · exact s.createAdhoc_stays g

theorem State.end_stays (i : Seg) (s : State) : s.Stays (s.end_ i).1 := by
  unfold State.end_
  extract_lets g
  split
  · split
    · exact .refl s
    · exact (s.endSession_steady _ _).stays
  · exact (s.endWalkIn_steady g).stays

/-- The better of the entry found so far and the next one, by first segment (R78). -/
def lowerFirst (best : Option Entry) (e : Entry) : Option Entry :=
  match best with
  | none => some e
  | some b => if e.fix.first < b.fix.first then some e else some b

theorem lowestFirst_eq (es : List Entry) : lowestFirst es = es.foldl lowerFirst none := rfl

/-- The entry with the lowest first segment is one of those it is chosen from. -/
theorem lowestFirst_mem {es : List Entry} {e : Entry} (h : lowestFirst es = some e) : e ∈ es := by
  have general (l : List Entry) (best : Option Entry) (h : l.foldl lowerFirst best = some e) :
      e ∈ l ∨ best = some e := by
    induction l generalizing best with
    | nil => exact .inr h
    | cons x l ih =>
      rcases ih _ h with hl | hb
      · exact .inl (by simp [hl])
      · cases best with
        | none => left; simp_all [lowerFirst]
        | some b =>
          simp only [lowerFirst] at hb
          split_ifs at hb
          · left; simp_all
          · exact .inr hb
  simpa using general es none (lowestFirst_eq es ▸ h)

theorem governingOf_mem {table : List Entry} {g : Segs} {e : Entry} (h : governingOf table g = some e) :
    e ∈ table ∧ segsMeet (entrySegs e) g = true := by
  have candidate (p : Entry → Bool) (x : Entry) (hx : x ∈ (candidatesOf table g).filter p) :
      x ∈ table ∧ segsMeet (entrySegs x) g = true :=
    List.mem_filter.mp (List.mem_of_mem_filter hx)
  unfold governingOf at h
  split at h
  · rename_i x hx
    obtain rfl := Option.some.inj h
    exact candidate _ _ (lowestFirst_mem hx)
  · exact candidate _ _ (lowestFirst_mem h)

theorem State.activeGovernor_mem {s : State} {g : Segs} {e : Entry} (h : s.activeGovernor g = some e) :
    e ∈ s.bt.table ∧ isActive e = true := by
  obtain ⟨governs, active⟩ := Option.filter_eq_some_iff.mp h
  exact ⟨(governingOf_mem governs).1, active⟩

theorem State.extend_stays (i : Seg) (minutes : Nat) (s : State) : s.Stays (s.extend i minutes).1 := by
  unfold State.extend
  split
  · exact .refl s
  · rename_i e governs
    refine judged_stays fun ok => ?_
    have all := (firstFault_eq_ok (by simp)).mp ok
    simp only [List.mem_cons, List.not_mem_nil, or_false, forall_eq_or_imp, forall_eq,
      List.any_eq_false, overlaps_eq_clash, Bool.and_eq_true, bne_iff_ne, not_and,
      Bool.not_eq_true] at all
    exact State.replaceFixed_stays (State.activeGovernor_mem governs).1 rfl all.2.2.2

theorem State.headcount_stays (i : Seg) (count : Nat) (s : State) : s.Stays (s.headcount i count).1 := by
  unfold State.headcount
  split
  · exact .refl s
  · exact ((s.mapVolatile_steady _ _).trans (State.raise_steady _ _)).stays

theorem State.panelAdjust_stays (i : Seg) (d : Int) (s : State) : s.Stays (s.panelAdjust i d).1 := by
  have h := s.adjust_steady (s.panelGroup i) d
  unfold State.panelAdjust
  split <;> (rename_i eq; rw [eq] at h; exact h.stays)

theorem State.sceneReply_stays {s : State} {r : State × Option Nat} (h : s.Steady r.1) :
    s.Stays (sceneReply r).1 := by
  obtain ⟨t, o⟩ := r
  cases o <;> exact h.stays

theorem State.sceneCommand_stays (i : Seg) (n : Nat) (s : State) : s.Stays (s.sceneCommand i n).1 :=
  judged_stays fun _ => State.sceneReply_stays (s.panelScene_steady _ _)

theorem State.restore_stays (i : Seg) (s : State) : s.Stays (s.restore i).1 :=
  State.sceneReply_stays (s.panelScene_steady _ _)

theorem State.blindTo_stays (i : Seg) (request target : Nat) (s : State) :
    s.Stays (s.blindTo i request target).1 := by
  unfold State.blindTo
  split
  · exact .refl s
  · exact (s.blindRequest_relit _ _).steady.stays

theorem State.blindHalt_stays (i : Seg) (s : State) : s.Stays (s.blindHalt i).1 :=
  (s.blindRequest_relit _ _).steady.stays

theorem State.blindFree_stays (i : Seg) (s : State) : s.Stays (s.blindFree i).1 :=
  (s.blindRequest_relit _ _).steady.stays

theorem State.blindFrame_stays (i : Seg) (payload : List Byte) (s : State) :
    s.Stays (s.blindFrame i payload).1 := by
  unfold State.blindFrame
  split
  · exact s.blindHalt_stays i
  · exact s.blindFree_stays i
  · exact s.blindTo_stays i _ _

theorem State.returnUpcoming_stays (s : State) (i : Seg) (found : Option Entry) :
    s.Stays (s.returnUpcoming i found).1 := by
  cases found with
  | none => exact .refl s
  | some e =>
    have h : s.Steady (s.returnUpcoming i (some e)).1 := .of_rest rfl rfl rfl rfl rfl rfl rfl
    exact h.stays

theorem State.upcomingNext_stays (i : Seg) (s : State) : s.Stays (s.upcomingNext i).1 := by
  unfold State.upcomingNext
  split
  · exact .refl s
  · exact s.returnUpcoming_stays i _

theorem routed_stays (i : Seg) (code : Nat) (payload : List Byte) (s : State) :
    s.Stays (routed i code payload s).1 := by
  unfold routed
  split
  · exact inRunOnly_stays (State.begin_stays i) s
  · exact inRunOnly_stays (State.end_stays i) s
  · exact inRunOnly_stays (State.extend_stays i _) s
  · exact inRunOnly_stays (State.headcount_stays i _) s
  · exact inRunOnly_stays (State.panelAdjust_stays i _) s
  · exact inRunOnly_stays (State.sceneCommand_stays i _) s
  · exact inRunOnly_stays (State.restore_stays i) s
  · exact inRunOnly_stays (State.blindFrame_stays i _) s
  · exact .refl s
  · exact s.returnUpcoming_stays i _
  · exact s.upcomingNext_stays i

theorem frameAnswer_stays (i : Seg) (code : Nat) (payload : List Byte) (s : State) :
    s.Stays (frameAnswer i code payload s).1 := by
  unfold frameAnswer
  split
  · exact .refl s
  · split
    · exact routed_stays i code payload s
    · exact .refl s

/-! ### The wrappers -/

/-- Two states that differ in the ports' records alone. -/
theorem State.ports_stays (s : State) (w : Wp) (r : Rl) : s.Stays { s with wp := w, rl := r } :=
  (Steady.of_rest (s := s) (t := { s with wp := w, rl := r }) rfl rfl rfl rfl rfl rfl rfl).stays

theorem State.event_stays {c : Instr} {act : State → State} (h : ∀ s : State, s.Stays (act s))
    (s : State) : s.Stays (s.event c act) :=
  .ite (((s.take_steady c).stays.trans (h _)).trans (State.drive_steady _).stays) (.refl s)

theorem State.panel_stays {i : Seg} {bytes : List Byte} {act : State → Answered}
    (h : ∀ s : State, s.Stays (act s).1) (s : State) : s.Stays (s.panel i bytes act) := by
  unfold State.panel
  dsimp only
  have heard : s.Stays (s.echoFrame bytes) := s.ports_stays _ _
  have reply (a : Answered) : a.1.Stays (linkReply a) := a.1.ports_stays _ _
  refine .ite (heard.trans (.ite ?_ (reply (refuse _ _)))) (.refl s)
  exact (((State.presence_steady _ i).stays.trans (h _)).trans (reply _)).trans
    (State.drive_steady _).stays

theorem State.request_keeps {code : Nat} {act : State → Answered} (h : ∀ s : State, s.Keeps (act s).1)
    (s : State) : s.Keeps (s.request code act) := by
  unfold State.request
  dsimp only
  split
  · have held : s.Stays (s.hold code) := s.ports_stays _ _
    have reply (a : Answered) : a.1.Stays (putReply code a) := a.1.ports_stays _ _
    exact ((held.toKeeps.trans (h _)).trans (reply _).toKeeps).trans (State.drive_steady _).keeps
  · exact (Stays.refl s).toKeeps

theorem State.request_stays {code : Nat} {act : State → Answered} (h : ∀ s : State, s.Stays (act s).1)
    (s : State) : s.Stays (s.request code act) := by
  unfold State.request
  dsimp only
  refine .ite ?_ (.refl s)
  have held : s.Stays (s.hold code) := s.ports_stays _ _
  have reply (a : Answered) : a.1.Stays (putReply code a) := a.1.ports_stays _ _
  exact ((held.trans (h _)).trans (reply _)).trans (State.drive_steady _).stays

theorem State.broadcastTime_stays (p : Req (Nat × Nat)) (s : State) : s.Stays (s.broadcastTime p) := by
  unfold State.broadcastTime
  extract_lets hunting s1
  have heard : s.Stays s1 := s.ports_stays _ _
  refine .ite ?_ (.refl s)
  cases p with
  | wrongLength n => exact heard
  | fields t =>
    exact (heard.trans (.ite (.refl s1) (s1.applyTime_steady _ _).stays)).trans
      (State.drive_steady _).stays

theorem State.restartRequest_kept (p : Req Unit) (s : State) : s.Kept (s.restartRequest p) ∧
    (s.restartRequest p).pins = s.pins := by
  cases p with
  | wrongLength n =>
    have h := State.request_stays (code := 0x5F) (act := fun s => refuse s .badLength)
      (fun s => .refl s) s
    exact ⟨h.toKept, h.pins⟩
  | fields u =>
    show s.Kept (if _ then State.restart { s with wp := _ } .request else s) ∧
      (if _ then State.restart { s with wp := _ } .request else s).pins = s.pins
    split
    · obtain ⟨kept, pins⟩ := State.restart_kept { s with
        wp := { s.wp with lastSent := some (s.replyOf 0x5F .ok []) } } .request
      exact ⟨(s.ports_stays _ _).toKept.trans kept, pins⟩
    · exact ⟨.refl s, rfl⟩

/-! ### The room link -/

theorem State.takePanelFrame_stays (s : State) (i : Seg) (code : Nat) (payload : List Byte) :
    s.Stays (s.takePanelFrame i code payload) :=
  State.panel_stays (frameAnswer_stays i code payload) s

theorem State.linkJoin_stays (s : State) (b : Byte) : s.Stays (s.linkJoin b) := by
  unfold State.linkJoin
  split
  · exact .ite (s.ports_stays _ _) (.ite (s.takePanelFrame_stays _ _ _) (s.ports_stays _ _))
  · exact .ite (s.takePanelFrame_stays _ _ _) (s.ports_stays _ _)
  · exact s.ports_stays _ _

theorem State.linkByte_stays (s : State) (b : Byte) : s.Stays (s.linkByte b) := by
  unfold State.linkByte
  refine .ite ?_ (.refl s)
  split
  · exact s.linkJoin_stays b
  · exact .ite (s.ports_stays _ _) (s.ports_stays _ _)

theorem State.linkBytes_stays (s : State) (bytes : List Byte) : s.Stays (s.linkBytes bytes) :=
  .ite ((s.ports_stays s.wp { s.rl with echo := [] }).trans (.foldl State.linkByte_stays _ _)) (.refl s)

theorem State.loseFrame_stays (s : State) (bytes : List Byte) : s.Stays (s.loseFrame bytes) := by
  refine (s.linkBytes_stays bytes).trans ?_
  unfold State.loseFrame State.dropLinkFrame
  split
  · exact State.ports_stays _ _ _
  · exact .refl _

theorem State.discardFrame_stays (s : State) (bytes : List Byte) : s.Stays (s.discardFrame bytes) := by
  unfold State.discardFrame
  split
  · exact (s.linkBytes_stays _).trans (.ite (State.ports_stays _ _ _) (.refl _))
  · exact s.loseFrame_stays []

theorem State.takeBreak_stays (s : State) (bytes : List Byte) : s.Stays (s.takeBreak bytes) := by
  unfold State.takeBreak
  extract_lets s1
  refine (s.loseFrame_stays bytes).trans ?_
  split <;> exact s1.ports_stays _ _

/-! ### Frames found in a dropped frame -/

theorem State.modeSet_keeps (b : List Byte) (s : State) : s.Keeps (s.modeSet b).1 := by
  unfold State.modeSet
  split
  · exact (s.modeRun_keeps _).1
  · exact (s.modeService_keeps _).1
  · exact (s.modeLock_stays _).toKeeps

theorem requestAnswer_keeps (code : Nat) (b : List Byte) (s : State) :
    s.Keeps (requestAnswer code b s).1 := by
  unfold requestAnswer
  split
  · exact (ofReq_stays State.timeSet_stays _ s).toKeeps
  · exact (ofReq_stays State.bookAdd_stays _ s).toKeeps
  · exact (ofReq_stays State.bookChange_stays _ s).toKeeps
  · exact (ofReq_stays State.bookCancel_stays _ s).toKeeps
  · exact (ofReq_stays State.bookFind_stays _ s).toKeeps
  · exact (ofReq_stays (fun _ (s : State) => s.returnEntry_stays _) _ s).toKeeps
  · exact (ofReq_stays State.bookNext_stays _ s).toKeeps
  · exact (ofReq_stays State.loadOpen_stays _ s).toKeeps
  · exact (ofReq_stays State.loadEntry_stays _ s).toKeeps
  · exact (ofReq_stays State.loadClose_stays _ s).toKeeps
  · exact (ofReq_stays State.loadAbort_stays _ s).toKeeps
  · exact (ofReq_stays (owner := State.suiteRead) (fun _ s => .refl s) _ s).toKeeps
  · exact (ofReq_stays State.noticeTake_stays _ s).toKeeps
  · exact (ofReq_stays (owner := State.demandRead) (fun _ s => .refl s) _ s).toKeeps
  · exact (ofReq_stays State.grantRequest_stays _ s).toKeeps
  · exact ofReq_keeps State.modeSet_keeps _ s
  · exact (ofReq_stays State.commissionRead_stays _ s).toKeeps
  · exact (ofReq_stays State.commissionWrite_stays _ s).toKeeps
  · exact (State.Stays.refl s).toKeeps

theorem State.takeFrame_kept (s : State) (f : Frame) :
    s.Kept (s.takeFrame f) ∧ (s.takeFrame f).pins = s.pins := by
  unfold State.takeFrame
  split_ifs
  · exact ⟨.refl s, rfl⟩
  · exact s.restartRequest_kept _
  · have h := State.request_keeps (requestAnswer_keeps f.function f.payload) s (code := f.function)
    exact ⟨h.toKept, h.pins⟩
  · have h := s.broadcastTime_stays (reqOf 5 (fun x => (field x 0 4, field x 4 1)) f.payload)
    exact ⟨h.toKept, h.pins⟩
  · exact ⟨.refl s, rfl⟩

theorem State.takeFrames_kept (leftover : WpRx) (fs : List Frame) (s : State) :
    s.Kept (s.takeFrames leftover fs) ∧ (s.takeFrames leftover fs).pins = s.pins := by
  induction fs generalizing s with
  | nil => exact ⟨(s.ports_stays _ _).toKept, rfl⟩
  | cons f rest ih =>
    obtain ⟨kept, pins⟩ := s.takeFrame_kept f
    unfold State.takeFrames
    split
    · exact ⟨kept, pins⟩
    · obtain ⟨kept', pins'⟩ := ih (s.takeFrame f)
      exact ⟨kept.trans kept', pins'.trans pins⟩

/-! ### The outputs -/

theorem State.outputsFollow_iff {s : State} (ha : s.alive = true) : s.OutputsFollow ↔ s.os = s.drive.os := by
  simp [State.OutputsFollow, ha]

theorem State.drive_follows {s : State} (ha : s.alive = true) : s.drive.OutputsFollow :=
  (State.outputsFollow_iff (s := s.drive) ha).mpr rfl

theorem State.alive_congr {s t : State} (h : t.pins = s.pins) : t.alive = s.alive := by
  simp only [State.alive, h]

/-- What moves neither the pins nor a figure that is driven leaves the outputs as they follow. -/
theorem State.OutputsFollow.congr {s t : State} (h : s.OutputsFollow) (pins : t.pins = s.pins)
    (os : t.os = s.os) (driven : t.drive.os = s.drive.os) : t.OutputsFollow := by
  rw [State.OutputsFollow, State.alive_congr pins, driven, os]
  exact h

theorem State.event_follows {s : State} {c : Instr} {act : State → State}
    (h : ∀ u : State, (act u).pins = u.pins) (follow : s.OutputsFollow) :
    (s.event c act).OutputsFollow := by
  cases ha : s.alive with
  | false => rw [State.event_skipped ha]; exact follow
  | true =>
    rw [State.event_taken ha]
    exact State.drive_follows ((State.alive_congr (h _)).trans ha)

theorem State.request_follows {s : State} {code : Nat} {act : State → Answered}
    (h : ∀ u : State, (act u).1.pins = u.pins) (follow : s.OutputsFollow) :
    (s.request code act).OutputsFollow := by
  by_cases ht : s.TakesRequest
  · rw [State.request_taken ht]
    exact State.drive_follows ((State.alive_congr (t := putReply code _) (h (s.hold code))).trans ht.1)
  · rw [State.request_skipped ht]; exact follow

theorem State.panel_follows {s : State} {i : Seg} {bytes : List Byte} {act : State → Answered}
    (h : ∀ u : State, (act u).1.pins = u.pins) (follow : s.OutputsFollow) :
    (s.panel i bytes act).OutputsFollow := by
  by_cases hh : s.Hears
  · cases hc : s.configured i with
    | true =>
      rw [State.panel_taken ⟨hh, hc⟩]
      refine State.drive_follows ((State.alive_congr (t := linkReply _) ?_).trans hh.1)
      exact (h _).trans (State.presence_steady (s.echoFrame bytes) i).pins
    | false =>
      rw [State.panel_unconfigured hh hc]
      exact follow.congr rfl rfl rfl
  · rw [State.panel_skipped hh]; exact follow

theorem State.broadcastTime_follows {s : State} (p : Req (Nat × Nat)) (follow : s.OutputsFollow) :
    (s.broadcastTime p).OutputsFollow := by
  unfold State.broadcastTime
  extract_lets hunting s1
  split
  case isFalse => exact follow
  case isTrue taken =>
    have ha : s.alive = true := by
      rw [Bool.and_eq_true] at taken
      exact taken.1
    cases p with
    | wrongLength n => exact follow.congr rfl rfl rfl
    | fields t =>
      refine State.drive_follows ((State.alive_congr ?_).trans ha)
      exact (Steady.ite (Steady.refl s1) (s1.applyTime_steady t.1 t.2)).pins

theorem State.holdOutputs_follows {s : State} (ha : s.alive = false) : s.holdOutputs.OutputsFollow := by
  have : s.holdOutputs.alive = false := ha
  rw [State.OutputsFollow, this]
  rfl

theorem State.driveOrHold_follows (s : State) : s.driveOrHold.OutputsFollow := by
  unfold State.driveOrHold
  split
  case isTrue ha => exact State.drive_follows ha
  case isFalse ha => exact State.holdOutputs_follows (by simpa using ha)

theorem State.restart_follows {s : State} (cause : RestartCause) (ha : s.alive = true) :
    (s.restart cause).OutputsFollow := by
  have alive : (s.restart cause).alive = true :=
    (State.alive_congr (s.restart_kept cause).2).trans ha
  rw [State.outputsFollow_iff alive]
  rfl

theorem State.restartRequest_follows {s : State} (p : Req Unit) (follow : s.OutputsFollow) :
    (s.restartRequest p).OutputsFollow := by
  cases p with
  | wrongLength n => exact State.request_follows (fun _ => rfl) follow
  | fields u =>
    show (if _ then State.restart { s with wp := _ } .request else s).OutputsFollow
    split
    case isFalse => exact follow
    case isTrue taken =>
      rw [Bool.and_eq_true] at taken
      exact State.restart_follows _ taken.1

/-! ### One case for each command -/

/-- The commands by which the part restarts, and the two rows whose bytes may hold any request. -/
def mayRestart : Instr → Bool
  | .powerOn | .resetLineRelease _ | .restart _ | .wingFrameDropped _ | .wingGapTimeout _ => true
  | _ => false

/-- The commands that leave SERVICE. -/
def mayLeaveService : Instr → Bool
  | .modeSetRun _ | .serviceLineRelease => true
  | _ => false

/-- The request that enters SERVICE. -/
def mayEnterService : Instr → Bool
  | .modeSetService _ => true
  | _ => false

/-- What a command keeps: the invariants, and by its row the lock, the records in effect and RUN. -/
structure Obeys (c : Instr) (s t : State) : Prop where
  kept : s.Kept t
  follows : s.OutputsFollow → t.OutputsFollow
  lock : mayRestart c = false → s.cs.lock = true → t.cs.lock = true
  effective : mayRestart c = false → mayLeaveService c = false → t.cs.effective = s.cs.effective
  running : mayRestart c = false → mayEnterService c = false → s.inRun = true → t.inRun = true

theorem Obeys.of_stays {c : Instr} {s t : State} (h : s.Stays t)
    (follows : s.OutputsFollow → t.OutputsFollow) : Obeys c s t :=
  ⟨h.toKept, follows, fun _ => h.lock, fun _ _ => h.effective, fun _ _ => h.running⟩

/-- A command that may restart the part owes the invariants alone. -/
theorem Obeys.of_kept {c : Instr} {s t : State} (hc : mayRestart c = true) (h : s.Kept t)
    (follows : s.OutputsFollow → t.OutputsFollow) : Obeys c s t := by
  refine ⟨h, follows, ?_, ?_, ?_⟩ <;> (rw [hc]; exact fun x => nomatch x)

theorem Obeys.event {c : Instr} {act : State → State} (h : ∀ u : State, u.Stays (act u)) (s : State) :
    Obeys c s (s.event c act) :=
  .of_stays (State.event_stays h s) (State.event_follows fun u => (h u).pins)

theorem Obeys.routine {c : Instr} {act : State → State} (h : ∀ u : State, u.Steady (act u)) (s : State) :
    Obeys c s (s.event c act) := .event (fun u => (h u).stays) s

theorem Obeys.request {c : Instr} {α : Type} {code : Nat} {owner : α → State → Answered}
    (h : ∀ a (u : State), u.Stays (owner a u).1) (p : Req α) (s : State) :
    Obeys c s (s.request code (ofReq p owner)) :=
  .of_stays (State.request_stays (ofReq_stays h p) s)
    (State.request_follows fun u => (ofReq_stays h p u).pins)

theorem Obeys.panel {c : Instr} {i : Seg} {bytes : List Byte} {act : State → Answered}
    (h : ∀ u : State, u.Stays (act u).1) (s : State) : Obeys c s (s.panel i bytes act) :=
  .of_stays (State.panel_stays h s) (State.panel_follows fun u => (h u).pins)

theorem ofReq_modeService (p : Req Bool) (s : State) : s.Keeps (ofReq p State.modeService s).1 ∧
    (ofReq p State.modeService s).1.cs.effective = s.cs.effective := by
  cases p with
  | fields force => exact s.modeService_keeps force
  | wrongLength n => exact ⟨(State.Stays.refl s).toKeeps, rfl⟩

theorem ofReq_modeRun (p : Req Bool) (s : State) : s.Keeps (ofReq p State.modeRun s).1 ∧
    (s.inRun = true → (ofReq p State.modeRun s).1.inRun = true) := by
  cases p with
  | fields force => exact s.modeRun_keeps force
  | wrongLength n => exact ⟨(State.Stays.refl s).toKeeps, id⟩

/-- What a request's owner leaves in CS, the request leaves. -/
theorem State.request_cs (s : State) (code : Nat) (act : State → Answered) :
    (s.request code act).cs = s.cs ∨ (s.request code act).cs = (act (s.hold code)).1.cs := by
  unfold State.request
  split
  · exact .inr rfl
  · exact .inl rfl

theorem obeys_modeSetService (p : Req Bool) (s : State) :
    Obeys (.modeSetService p) s (s.request 0x50 (ofReq p State.modeService)) := by
  have owner (u : State) := ofReq_modeService p u
  have keeps := State.request_keeps (code := 0x50) (fun u => (owner u).1) s
  refine ⟨keeps.toKept, State.request_follows fun u => (owner u).1.pins, fun _ => keeps.lock,
    fun _ _ => ?_, fun _ h => nomatch h⟩
  rcases s.request_cs 0x50 (ofReq p State.modeService) with cs | cs <;> rw [cs]
  exact (owner _).2

theorem obeys_modeSetRun (p : Req Bool) (s : State) :
    Obeys (.modeSetRun p) s (s.request 0x50 (ofReq p State.modeRun)) := by
  have owner (u : State) := ofReq_modeRun p u
  have keeps := State.request_keeps (code := 0x50) (fun u => (owner u).1) s
  refine ⟨keeps.toKept, State.request_follows fun u => (owner u).1.pins, fun _ => keeps.lock,
    (fun _ h => nomatch h), fun _ _ run => ?_⟩
  unfold State.inRun at *
  rcases s.request_cs 0x50 (ofReq p State.modeRun) with cs | cs <;> rw [cs]
  · exact run
  · exact (owner (s.hold 0x50)).2 run

theorem obeys_serviceLineRelease (s : State) : Obeys .serviceLineRelease s
    ((s.setServiceLine false).event .serviceLineRelease fun s => s.lineReleased) := by
  have set := s.setServiceLine_stays false
  have released : (s.setServiceLine false).Keeps ((s.setServiceLine false).event .serviceLineRelease
      fun s => s.lineReleased) := by
    unfold State.event
    split
    · exact ((State.take_steady _ _).keeps.trans (State.lineReleased_keeps _).1).trans
        (State.drive_steady _).keeps
    · exact (State.Stays.refl _).toKeeps
  refine ⟨set.toKept.trans released.toKept, fun follow => ?_, fun _ => (set.toKeeps.trans released).lock,
    (fun _ h => nomatch h), fun _ _ run => ?_⟩
  · exact State.event_follows (fun u => u.lineReleased_keeps.1.pins) (follow.congr rfl rfl rfl)
  · unfold State.event
    split
    · exact (State.lineReleased_keeps _).2 run
    · exact run

theorem obeys_powerOn (s : State) :
    Obeys .powerOn s ((s.setPins true s.pins.resetLow).restart .power).driveOrHold := by
  have pinned : s.Kept (s.setPins true s.pins.resetLow) := ⟨id, id, id, id⟩
  have driven (u : State) : u.Kept u.driveOrHold := by
    unfold State.driveOrHold
    split <;> exact ⟨id, id, id, id⟩
  exact .of_kept rfl ((pinned.trans (State.restart_kept _ _).1).trans (driven _))
    fun _ => State.driveOrHold_follows _

theorem obeys_resetLineRelease (low : Nat) (s : State) : Obeys (.resetLineRelease low) s
    (if (s.setPins s.pins.powered false).alive && 1000 ≤ low
      then (s.setPins s.pins.powered false).restart .line
      else (s.setPins s.pins.powered false).driveOrHold) := by
  have pinned : s.Kept (s.setPins s.pins.powered false) := ⟨id, id, id, id⟩
  refine .of_kept rfl (pinned.trans ?_) fun _ => ?_
  · split
    · exact (State.restart_kept _ _).1
    · unfold State.driveOrHold
      split <;> exact ⟨id, id, id, id⟩
  · split
    case isTrue taken =>
      rw [Bool.and_eq_true] at taken
      exact State.restart_follows _ taken.1
    case isFalse => exact State.driveOrHold_follows _

/-- The line low, or the supply gone: the ports fall silent and the outputs to 0. -/
theorem obeys_silenced (c : Instr) (s : State) {powered low : Bool} (h : (powered && !low) = false) :
    Obeys c s ((s.setPins powered low).dropPorts).holdOutputs :=
  ⟨⟨id, id, id, id⟩, fun _ => State.holdOutputs_follows h, fun _ => id, fun _ _ => rfl, fun _ _ => id⟩

theorem obeys_partitionContactChange (p : Part) (closedMade openMade : Bool) (s : State) :
    Obeys (.partitionContactChange p closedMade openMade) s
      ((s.setContacts p closedMade openMade).event (.partitionContactChange p closedMade openMade) fun s =>
        if s.partConfigured p
        then s.setPart p (takeReading (s.lm.parts.get p) (readingOf closedMade openMade)) else s) := by
  have noted : s.Steady (s.setContacts p closedMade openMade) := State.setPart_steady rfl
  have taken (u : State) : u.Steady (if u.partConfigured p
      then u.setPart p (takeReading (u.lm.parts.get p) (readingOf closedMade openMade)) else u) := by
    refine .ite (State.setPart_steady ?_) (.refl u)
    unfold takeReading
    split <;> rfl
  exact .of_stays (noted.stays.trans (State.event_stays (fun u => (taken u).stays) _)) fun follow =>
    State.event_follows (fun u => (taken u).pins) (follow.congr rfl rfl rfl)

theorem obeys_droppedFrame {c : Instr} (hc : mayRestart c = true) {act : State → State}
    (h : ∀ u : State, ∃ leftover fs, act u = u.takeFrames leftover fs) (s : State) :
    Obeys c s (s.event c act) := by
  have taken (u : State) : u.Kept (act u) ∧ (act u).pins = u.pins := by
    obtain ⟨leftover, fs, eq⟩ := h u
    rw [eq]
    exact u.takeFrames_kept leftover fs
  refine .of_kept hc ?_ (State.event_follows fun u => (taken u).2)
  unfold State.event
  split
  · exact ((s.take_steady c).stays.toKept.trans (taken _).1).trans (State.drive_steady _).stays.toKept
  · exact .refl s

theorem obeys_timeSet (broadcast : Bool) (p : Req (Nat × Nat)) (s : State) :
    Obeys (.timeSet broadcast p) s
      (if broadcast then s.broadcastTime p else s.request 0x01 (ofReq p State.timeSet)) := by
  split
  · exact .of_stays (s.broadcastTime_stays p) (State.broadcastTime_follows p)
  · exact .request State.timeSet_stays p s

/-- Every command answers a next state and obeys. -/
theorem exec_obeys (c : Instr) (s : State) : ∃ t, exec c s = .next t ∧ Obeys c s t := by
  have refl_stays (u : State) : u.Stays u := .refl u
  cases c with
  | powerOn => exact ⟨_, rfl, obeys_powerOn s⟩
  | resetLineAssert => exact ⟨_, rfl, obeys_silenced _ s (by simp)⟩
  | resetLineRelease low => exact ⟨_, rfl, obeys_resetLineRelease low s⟩
  | timeSet broadcast p => exact ⟨_, rfl, obeys_timeSet broadcast p s⟩
  | bookAdd p => exact ⟨_, rfl, .request State.bookAdd_stays p s⟩
  | bookChange p => exact ⟨_, rfl, .request State.bookChange_stays p s⟩
  | bookCancel p => exact ⟨_, rfl, .request State.bookCancel_stays p s⟩
  | bookFind p => exact ⟨_, rfl, .request State.bookFind_stays p s⟩
  | bookFirst p => exact ⟨_, rfl, .request (fun _ u => u.returnEntry_stays _) p s⟩
  | bookNext p => exact ⟨_, rfl, .request State.bookNext_stays p s⟩
  | loadOpen p => exact ⟨_, rfl, .request State.loadOpen_stays p s⟩
  | loadEntry p => exact ⟨_, rfl, .request State.loadEntry_stays p s⟩
  | loadClose p => exact ⟨_, rfl, .request State.loadClose_stays p s⟩
  | loadAbort p => exact ⟨_, rfl, .request State.loadAbort_stays p s⟩
  | loadIdleTimeout => exact ⟨_, rfl, .routine (fun u => u.abortLoad_steady _) s⟩
  | suiteRead p => exact ⟨_, rfl, .request (owner := State.suiteRead) (fun _ => refl_stays) p s⟩
  | noticeTake p => exact ⟨_, rfl, .request State.noticeTake_stays p s⟩
  | demandRead p => exact ⟨_, rfl, .request (owner := State.demandRead) (fun _ => refl_stays) p s⟩
  | grant p => exact ⟨_, rfl, .request State.grantRequest_stays p s⟩
  | grantAgeExpiry =>
    exact ⟨_, rfl, .event (fun u => .ite (State.regrant_stays (Nat.le_refl _)) (.refl u)) s⟩
  | modeSetService p => exact ⟨_, rfl, obeys_modeSetService p s⟩
  | modeSetRun p => exact ⟨_, rfl, obeys_modeSetRun p s⟩
  | modeSetLock p => exact ⟨_, rfl, .request State.modeLock_stays p s⟩
  | commissionRead p => exact ⟨_, rfl, .request State.commissionRead_stays p s⟩
  | commissionWrite p => exact ⟨_, rfl, .request State.commissionWrite_stays p s⟩
  | restart p =>
    exact ⟨_, rfl, .of_kept rfl (s.restartRequest_kept p).1 (State.restartRequest_follows p)⟩
  | unknownFunction code =>
    exact ⟨_, rfl, .of_stays (State.request_stays (fun u => .refl u) s) (State.request_follows fun _ => rfl)⟩
  | wingFrameDiscarded => exact ⟨_, rfl, .event (fun u => u.ports_stays _ _) s⟩
  | wingFrameDropped bytes => exact ⟨_, rfl, obeys_droppedFrame rfl (fun _ => ⟨_, _, rfl⟩) s⟩
  | wingGapTimeout bytes => exact ⟨_, rfl, obeys_droppedFrame rfl (fun _ => ⟨_, _, rfl⟩) s⟩
  | panelBegin i => exact ⟨_, rfl, .panel (inRunOnly_stays (State.begin_stays i)) s⟩
  | panelEnd i => exact ⟨_, rfl, .panel (inRunOnly_stays (State.end_stays i)) s⟩
  | panelExtend i m => exact ⟨_, rfl, .panel (inRunOnly_stays (State.extend_stays i m)) s⟩
  | panelHeadcount i n => exact ⟨_, rfl, .panel (inRunOnly_stays (State.headcount_stays i n)) s⟩
  | panelAdjust i d => exact ⟨_, rfl, .panel (inRunOnly_stays (State.panelAdjust_stays i d)) s⟩
  | panelScene i n => exact ⟨_, rfl, .panel (inRunOnly_stays (State.sceneCommand_stays i n)) s⟩
  | panelRestore i => exact ⟨_, rfl, .panel (inRunOnly_stays (State.restore_stays i)) s⟩
  | blindTarget i r t => exact ⟨_, rfl, .panel (inRunOnly_stays (State.blindTo_stays i r t)) s⟩
  | blindStop i t => exact ⟨_, rfl, .panel (inRunOnly_stays (State.blindHalt_stays i)) s⟩
  | blindAuto i t => exact ⟨_, rfl, .panel (inRunOnly_stays (State.blindFree_stays i)) s⟩
  | panelStatus i => exact ⟨_, rfl, .panel (act := State.status i) refl_stays s⟩
  | upcomingFirst i => exact ⟨_, rfl, .panel (fun u => u.returnUpcoming_stays i _) s⟩
  | upcomingNext i => exact ⟨_, rfl, .panel (State.upcomingNext_stays i) s⟩
  | lineBreak bytes => exact ⟨_, rfl, .event (fun u => u.takeBreak_stays bytes) s⟩
  | linkGapTimeout bytes => exact ⟨_, rfl, .event (fun u => u.loseFrame_stays bytes) s⟩
  | replyCollision =>
    refine ⟨_, rfl, .event (fun u => ?_) s⟩
    split
    · exact u.ports_stays _ _
    · exact .refl u
  | minuteEvent => exact ⟨_, rfl, .routine (fun u => u.minuteEvent_steady) s⟩
  | loopTimerExpiry =>
    refine ⟨_, rfl, .routine (fun u => .ite (.after (State.evalAll_steady _) ?_) (.refl u)) s⟩
    exact .of_rest rfl rfl rfl rfl rfl rfl rfl
  | partitionContactChange p closedMade openMade =>
    exact ⟨_, rfl, obeys_partitionContactChange p closedMade openMade s⟩
  | settleTimerExpiry p =>
    refine ⟨_, rfl, .routine (fun u => ?_) s⟩
    split
    · exact u.accept_steady p _
    · exact .refl u
  | betweenTimerExpiry p =>
    refine ⟨_, rfl, .routine (fun u => .ite (.after (State.reportFault_steady _ p) ?_) (.refl u)) s⟩
    exact State.setPart_steady rfl
  | sensorPoll i => exact ⟨_, rfl, .routine (fun u => u.poll_steady i) s⟩
  | sensorAnswer i a => exact ⟨_, rfl, .routine (fun u => .ite (u.takeAnswer_steady i a) (.refl u)) s⟩
  | answerWindowExpiry i =>
    exact ⟨_, rfl, .routine (fun u => .ite (u.lineFree_steady.trans
      (.foldl (fun v k => v.takeMissing_steady i k) _ _)) (.refl u)) s⟩
  | staleTimerExpiry i k => exact ⟨_, rfl, .routine (fun u => u.staleExpiry_steady i k) s⟩
  | presenceEvent i => exact ⟨_, rfl, .routine (fun u => u.presence_steady i) s⟩
  | vacancyTimerExpiry i => exact ⟨_, rfl, .routine (fun u => u.vacancyExpiry_steady i) s⟩
  | vacancyReport i => exact ⟨_, rfl, .routine (fun u => u.takeVacancy_steady i) s⟩
  | presenceSourceReport i source =>
    exact ⟨_, rfl, .routine (fun u => u.takePresenceSource_steady i source) s⟩
  | occupancyReport dst g occupied w =>
    exact ⟨_, rfl, .routine (fun u => u.takeOccupancy_steady dst g occupied w) s⟩
  | entryStateChange ref g began => exact ⟨_, rfl, .routine (fun u => u.lmEntryChange_steady ref g began) s⟩
  | governingChange dst g governing level =>
    exact ⟨_, rfl, .routine (fun u => u.takeGoverning_steady dst g governing level) s⟩
  | cameToGovern ref => exact ⟨_, rfl, .routine (fun u => u.takeCame_steady ref) s⟩
  | ceasedToGovern ref => exact ⟨_, rfl, .routine (fun u => u.takeCeased_steady ref) s⟩
  | settledReport g => exact ⟨_, rfl, .routine (fun u => u.takeSettled_steady g) s⟩
  | lostSettledReport g => exact ⟨_, rfl, .routine (fun u => u.takeLostSettled_steady g) s⟩
  | regroupReport dst gone formed =>
    exact ⟨_, rfl, .routine (fun u => u.takeRegroup_steady dst gone formed) s⟩
  | exitReport dst groups => exact ⟨_, rfl, .routine (fun u => u.takeExit_steady dst groups) s⟩
  | demandUpdate figs => exact ⟨_, rfl, .routine (fun u => u.takeDemand_steady figs) s⟩
  | headcountChange ref g => exact ⟨_, rfl, .routine (fun u => u.lmHeadcount_steady ref) s⟩
  | sceneChange ref => exact ⟨_, rfl, .routine (fun u => (u.bookedSceneChanged_relit ref).steady) s⟩
  | sessionEndOverrides ref groups =>
    exact ⟨_, rfl, .routine (fun u => .foldl (fun v g => (v.clearOverrides_relit g).steady) groups u) s⟩
  | daylightValue i lux => exact ⟨_, rfl, .routine (fun u => (u.takeDaylight_relit i lux).steady) s⟩
  | daylightSourceReport i source =>
    exact ⟨_, rfl, .routine (fun u => (u.takeDaylightSource_relit i source).steady) s⟩
  | glareOnExpiry i =>
    exact ⟨_, rfl, .routine (fun u => ((u.mapLbuSeg_relit i _).trans (State.resolveBlind_relit _ i)).steady) s⟩
  | glareOffExpiry i =>
    exact ⟨_, rfl, .routine (fun u => ((u.mapLbuSeg_relit i _).trans (State.resolveBlind_relit _ i)).steady) s⟩
  | fadeStep i row => exact ⟨_, rfl, .routine (fun u => (u.mapLbuSeg_relit i _).steady) s⟩
  | blindStep i => exact ⟨_, rfl, .routine (fun u => (u.mapBlind_relit i _).steady) s⟩
  | reversingEnd i => exact ⟨_, rfl, .routine (fun u => (u.mapBlind_relit i _).steady) s⟩
  | budgetCharge i => exact ⟨_, rfl, .routine (fun u => (u.mapBlind_relit i _).steady) s⟩
  | budgetRefill i =>
    exact ⟨_, rfl, .routine (fun u => .ite (u.mapBlind_relit i _).steady (.refl u)) s⟩
  | driveUpEnd i => exact ⟨_, rfl, .routine (fun u => .ite (u.mapBlind_relit i _).steady (.refl u)) s⟩
  | serviceLineAssert =>
    exact ⟨_, rfl, .of_stays (s.setServiceLine_stays true) fun follow => follow.congr rfl rfl rfl⟩
  | serviceLineRelease => exact ⟨_, rfl, obeys_serviceLineRelease s⟩
  | powerLoss => exact ⟨_, rfl, obeys_silenced _ s (by simp)⟩
  | wingReplyEnd =>
    refine ⟨_, rfl, .event (fun u => ?_) s⟩
    split
    · exact u.ports_stays _ _
    · exact .refl u
  | linkReplyEnd =>
    refine ⟨_, rfl, .event (fun u => ?_) s⟩
    split
    · exact u.ports_stays _ _
    · exact .refl u
  | linkFrameDiscarded bytes => exact ⟨_, rfl, .event (fun u => u.discardFrame_stays bytes) s⟩
  | panelFrameRefused i code payload => exact ⟨_, rfl, .panel (frameAnswer_stays i code payload) s⟩

/-! ### A step -/

/-- A tick moves timers, and no figure that the invariants read. -/
theorem State.tick_kept (s : State) : s.Kept s.tick ∧ (s.OutputsFollow → s.tick.OutputsFollow) := by
  unfold State.tick
  split
  case isFalse => exact ⟨.refl s, id⟩
  case isTrue =>
    have parts : s.ticked.formGroups = s.formGroups := by
      have same (p : Part) : (s.ticked.lm.parts.get p).accepted = (s.lm.parts.get p).accepted := by
        fin_cases p <;> rfl
      simp only [State.formGroups, same]
      rfl
    refine ⟨⟨id, id, fun h => h.trans parts.symm, fun sound => ?_⟩, fun follow => ?_⟩
    · rw [State.tableSound_iff] at sound ⊢
      obtain ⟨stored, list, adhoc, staged⟩ := sound
      refine ⟨stored, list, adhoc, fun l hl => ?_⟩
      obtain ⟨old, old_mem, rfl⟩ := Option.mem_map.mp hl
      exact staged old old_mem
    · refine follow.congr rfl rfl ?_
      have driven (i : Seg) : s.ticked.outsOf i = s.outsOf i := by
        fin_cases i <;> rfl
      simp only [State.drive, driven]

theorem step_kept {s t : State} (h : step s = .next t) :
    s.Kept t ∧ (s.OutputsFollow → t.OutputsFollow) := by
  have command (c : Instr) (u : State) (hc : exec c u = .next t) :
      u.Kept t ∧ (u.OutputsFollow → t.OutputsFollow) := by
    obtain ⟨t', eq, obeys⟩ := exec_obeys c u
    obtain rfl : t' = t := by simpa using eq.symm.trans hc
    exact ⟨obeys.kept, obeys.follows⟩
  unfold step at h
  split at h
  · obtain ⟨⟨notices, records, formed, table⟩, follows⟩ := command _ _ h
    exact ⟨⟨notices, records, formed, table⟩, follows⟩
  · split at h
    · exact command _ _ h
    · obtain rfl : s.tick = t := by simpa using h
      exact s.tick_kept

/-! ### The statements -/

/-- Settles O59: one inversion of a step, each command keeping the table sound. -/
theorem tableSoundAfterEveryStep : Obligations.TableSoundAfterEveryStep :=
  fun _ _ sound h => (step_kept h).1.table sound

/-- Settles O60: the outputs spelled out position by position, and one inversion of a step. -/
theorem outputsNoticesAndRecordsFitAfterEveryStep :
    Obligations.OutputsNoticesAndRecordsFitAfterEveryStep := by
  refine ⟨fun s => ⟨rfl, fun i => ?_⟩, fun s t h => ?_⟩
  · have driven : s.drive.os.get i = s.outsOf i := by fin_cases i <;> rfl
    refine ⟨fun hc => ?_, fun hc => ?_⟩
    · rw [driven, State.outsOf, hc]
      rfl
    · rw [driven, State.outsOf, if_pos hc]
      have motor (m : Motion) : driveOf m = match m with
          | .movingUp => Drive.up
          | .movingDown => .down
          | .stopped | .reversing | .held => .stop := by cases m <;> rfl
      exact congrArg (Outs.mk (s.ad.targets.get i) (s.reheatOf i) (s.lbu.segs.get i).window.level
        (s.lbu.segs.get i).inner.level) (motor _)
  · obtain ⟨⟨notices, records, formed, -⟩, follows⟩ := step_kept h
    exact ⟨follows, notices, records, formed⟩

/-- Settles O30: what a command owes by its row. -/
theorem lockAndRecordsMoveOnlyAtRestartOrExit : Obligations.LockAndRecordsMoveOnlyAtRestartOrExit := by
  intro c s t h frames powerOn release restart
  obtain ⟨t', eq, obeys⟩ := exec_obeys c s
  obtain rfl : t' = t := by simpa using eq.symm.trans h
  have plain : mayRestart c = false := by
    cases c <;> simp_all [mayRestart]
  refine ⟨obeys.lock plain, fun run line => obeys.effective plain ?_, fun service => obeys.running plain ?_⟩
  · cases c <;> simp_all [mayLeaveService]
  · cases c <;> simp_all [mayEnterService]

end Sys2Proof.Machine

/-! The queue of commands, the pins, the reset state and the clock's request. -/

namespace Sys2Proof.Machine

/-! ### The queue (R1 of the step) -/

/-- Settles O1. -/
theorem stepRunsFrontCommand : Obligations.StepRunsFrontCommand := by
  intro c rest s h
  simp only [step, h]

/-- Settles O2: the part's own next arrival is the oldest report or the first event due. -/
theorem emptyQueueTakesReportEventOrTick : Obligations.EmptyQueueTakesReportEventOrTick := by
  intro s h
  simp only [step, h, State.nextInternal, State.tick]
  cases s.alive with
  | false => rfl
  | true =>
    cases s.reports with
    | cons c rest => rfl
    | nil => cases s.due <;> rfl

/-! ### Pins (R12, R193) -/

/-- Settles O8: the ports fall silent and the outputs are held; after a short pulse a supplied part is
running again and drives them. -/
theorem resetLineAndPowerLossSilenceThePart : Obligations.ResetLineAndPowerLossSilenceThePart := by
  intro s
  refine ⟨rfl, rfl, fun low hlow hpow => ?_⟩
  have running : (s.setPins s.pins.powered false).alive = true := by
    simp [State.alive, State.setPins, hpow]
  have short : decide (1000 ≤ low) = false := by simpa using hlow
  show execResetLineRelease low s = _
  simp only [execResetLineRelease, running, short, Bool.and_false, Bool.false_eq_true, if_false,
    State.driveOrHold, if_true]
  rfl

/-- Settles O9: the reset state is a literal, its records are read off it. -/
theorem resetHoldsTheSpecsValues : Obligations.ResetHoldsTheSpecsValues := by
  refine ⟨rfl, rfl, rfl, rfl, rfl, rfl, rfl, rfl, rfl, rfl, rfl, rfl, rfl, rfl, rfl, rfl, rfl, rfl, rfl, rfl,
    rfl, rfl, rfl, rfl, rfl, rfl, rfl, ?_, rfl, ?_, ?_, rfl⟩
  · exact ⟨rfl, by decide, .nil, .nil, by decide, by decide, fun l h => by cases h⟩
  · exact ⟨by decide, by decide⟩
  · exact ⟨by decide, fun r (h : r ∈ []) => absurd h List.not_mem_nil, rfl, by decide⟩

/-! ### TIME SET (R29) -/

/-- No re-entry evaluation is due in SERVICE, nor while a valid clock keeps its minute. -/
theorem State.applyTime_plain {s : State} {m sec : Nat}
    (h : s.inRun = false ∨ (s.tb.valid = true ∧ s.tb.minutes = m)) :
    s.applyTime m sec = { s with
      tb := ⟨m, sec, true, 0, false⟩, al := { s.al with loopTimer := none } } := by
  have due : ((!s.tb.valid || s.tb.minutes != m) && s.inRun) = false := by
    rcases h with h | ⟨hv, hm⟩
    · simp [h]
    · simp [hv, hm]
  exact if_neg (fun reentry => Bool.false_ne_true (due.symm.trans reentry))

/-- A broadcast TIME SET that is taken: the frame is complete and the time applied. -/
theorem State.broadcastTime_taken {s : State} (hs : s.TakesRequest) (m sec : Nat) :
    s.broadcastTime (.fields (m, sec)) =
      (if 59 < sec then { s with wp := { s.wp with rx := .hunt } }
        else ({ s with wp := { s.wp with rx := .hunt } } : State).applyTime m sec).drive := by
  simp [State.broadcastTime, hs.1, hs.2]

/-- A state that shares what is driven with one whose outputs follow has its own outputs in place. -/
theorem State.drive_eq_self {s u : State} (ha : s.alive = true) (ho : s.OutputsFollow) (hos : u.os = s.os)
    (hd : u.drive.os = s.drive.os) : u.drive = u := by
  show ({ u with os := u.drive.os } : State) = u
  rw [hd, State.os_of_follow ha ho, ← hos]

/-- Settles O10: the refusal, and the counts set where no re-entry evaluation is due. -/
theorem timeSetSetsClockOrIsRefused : Obligations.TimeSetSetsClockOrIsRefused := by
  intro s m sec hs ho
  refine ⟨fun late => ⟨?_, ?_⟩, fun inTime still => ⟨?_, ?_⟩⟩
  · have answer : State.timeSet (m, sec) (s.hold 0x01) = refuse (s.hold 0x01) .outOfRange := if_pos late
    exact congrArg Host.Outcome.next (State.request_replied hs ho answer rfl rfl)
  · refine congrArg Host.Outcome.next ((State.broadcastTime_taken hs m sec).trans ?_)
    rw [if_pos late]
    exact State.drive_eq_self hs.1 ho rfl rfl
  · have plain := State.applyTime_plain (s := s.hold 0x01) (sec := sec) still
    have answer : State.timeSet (m, sec) (s.hold 0x01) = answerOk ((s.hold 0x01).applyTime m sec) :=
      if_neg (Nat.not_lt.mpr inTime)
    rw [plain] at answer
    exact congrArg Host.Outcome.next (State.request_replied (u := { s with
      tb := ⟨m, sec, true, 0, false⟩, al := { s.al with loopTimer := none } }) hs ho answer rfl rfl)
  · refine congrArg Host.Outcome.next ((State.broadcastTime_taken hs m sec).trans ?_)
    rw [if_neg (Nat.not_lt.mpr inTime),
      State.applyTime_plain (s := { s with wp := { s.wp with rx := .hunt } }) still]
    exact State.drive_eq_self hs.1 ho rfl rfl

end Sys2Proof.Machine

/-! BOOK CHANGE, BOOK CANCEL and the reads of the table (R15 to R24), and the commit of a load (R62 to R65). -/

namespace Sys2Proof.Machine

/-! ### BOOK CHANGE (R15) -/

/-- The model's table of checks answers the reason of R15's table. -/
theorem firstFault_changeChecks (s : State) (c : ChangeWire) (e : Entry) :
    firstFault (changeChecks s c e) = changeReason s c e := by
  simp only [changeChecks, firstFault, changeReason, altersActive, badSegs_eq_outsideSuite,
    badDuration_eq_wrongDuration, isPast_eq_endPassed, inLoad_eq_startLoading, overlaps_eq_clash]
  rfl

theorem State.bookChange_none {s : State} {c : ChangeWire} (h : s.entry? c.ref = none) :
    s.bookChange c = refuse s .notFound := by
  simp only [State.bookChange, h]

theorem State.bookChange_some {s : State} {c : ChangeWire} {e : Entry} (h : s.entry? c.ref = some e) :
    s.bookChange c = if allKept c = true then answerOk s
      else if changeReason s c e = .ok then answerOk (s.applyChange c e)
      else refuse s (changeReason s c e) := by
  simp only [State.bookChange, h, judged_eq, firstFault_changeChecks]

/-- A change of a PLANNED entry puts the candidate in its place and does nothing else (R16). -/
theorem State.applyChange_planned {s : State} {c : ChangeWire} {e : Entry} (h : e.vol.state = .planned) :
    s.applyChange c e = s.replaceFixed e (candidate s.comm c e.fix) := by
  simp only [State.applyChange, h]

theorem changedKind_eq (c : ChangeWire) (old : Kind) :
    changedKind c old = match c.kind with
      | .set code => if code = 1 then .lecture else if code = 2 then .caseStudy
        else if code = 3 then .exam else if code = 4 then .event else old
      | _ => old := by
  unfold changedKind
  cases c.kind with
  | set code =>
    match code with
    | 0 | 1 | 2 | 3 | 4 => rfl
    | n + 5 => simp [supervisorKind?]
  | _ => rfl

/-- A setpoint as changed, clamped once as a signed figure (R10). -/
theorem changedSetpoint_clamped (c : ChangeWire) (old : Option Nat) :
    (changedSetpoint c old).map (clampNat 160 280) =
      (match c.setpoint with
        | .set n => some n
        | .clear => none
        | _ => old.map Int.ofNat).map fun (n : Int) => (max 160 (min 280 n)).toNat := by
  have kept (n : Nat) : clampNat 160 280 n = (max 160 (min 280 (Int.ofNat n))).toNat := by
    simp only [clampNat, Int.ofNat_eq_natCast]
    omega
  unfold changedSetpoint
  cases c.setpoint with
  | set n => exact congrArg some (clampNat_clampInt_setpoint n)
  | clear => rfl
  | _ =>
    cases old with
    | none => rfl
    | some n => exact congrArg some (kept n)

/-- Settles O13: the candidate field by field, and the owner's answer by the checks of R15. -/
theorem bookChangeRefusesOrChangesPlanned : Obligations.BookChangeRefusesOrChangesPlanned := by
  refine ⟨fun s c hs ho => ⟨fun h => ?_, fun e h => ⟨fun hk => ?_, fun hk hr => ?_, fun hk hr hp => ?_⟩⟩, ?_⟩
  · have answer := State.bookChange_none (s := s.hold 0x11) h
    exact congrArg Host.Outcome.next (State.request_replied hs ho answer rfl rfl)
  · have answer := State.bookChange_some (s := s.hold 0x11) h
    rw [if_pos hk] at answer
    exact congrArg Host.Outcome.next (State.request_replied hs ho answer rfl rfl)
  · have answer := State.bookChange_some (s := s.hold 0x11) h
    rw [if_neg (by simp [hk]), if_neg (show changeReason (s.hold 0x11) c e ≠ .ok from hr)] at answer
    exact congrArg Host.Outcome.next (State.request_replied hs ho answer rfl rfl)
  · have answer := State.bookChange_some (s := s.hold 0x11) h
    rw [if_neg (by simp [hk]), if_pos (show changeReason (s.hold 0x11) c e = .ok from hr),
      State.applyChange_planned hp] at answer
    exact congrArg Host.Outcome.next (State.request_replied
      (u := s.withTable (insertEntry { e with fix := candidate s.comm c e.fix }
        (s.bt.table.filter fun x => x.fix.ref != e.fix.ref))) hs ho answer rfl rfl)
  · intro comm c f
    have hlead : clampNat 0 90 = min 90 := by
      funext n
      simp [clampNat]
    simp only [candidate, settleFlags_eq, clampFixed, changedKind_eq, changedSetpoint_clamped, hlead]
    cases c.setpoint <;> rfl

/-! ### BOOK CANCEL (R21, R46) -/

/-- Settles O15: the notice's fields, and the owner's answer by the entry's state. -/
theorem bookCancelRemovesEndsOrRefuses : Obligations.BookCancelRemovesEndsOrRefuses := by
  refine ⟨fun e now began startedBy cause hb hc => ?_, fun s ref force hs ho => ⟨fun h => ?_, fun e h => ?_⟩⟩
  · simp only [endedFields, hb, hc]
    cases e.vol.occupiedMinutes <;> cases e.vol.overrunMinutes <;> rfl
  · have answer : State.bookCancel (ref, force) (s.hold 0x12) = refuse (s.hold 0x12) .notFound := by
      simp only [State.bookCancel, show (s.hold 0x12).entry? ref = none from h]
    exact congrArg Host.Outcome.next (State.request_replied hs ho answer rfl rfl)
  · obtain ⟨-, rfl⟩ := State.entry?_mem h
    have answer : State.bookCancel (e.fix.ref, force) (s.hold 0x12) =
        if startLoading s e.fix.start = true then refuse (s.hold 0x12) .loading
        else if isActive e = true then
          if force = true then answerOk ((s.hold 0x12).endSession e .supervisor)
          else refuse (s.hold 0x12) .active
        else answerOk (((s.hold 0x12).dropEntry e.fix.ref).reportRemoval e) := by
      simp only [State.bookCancel, show (s.hold 0x12).entry? e.fix.ref = some e from h,
        inLoad_eq_startLoading]
      rfl
    refine ⟨fun hl => ?_, fun hl ha hf => ?_, fun hl ha => ?_, fun hl ha hf => ?_⟩
    · rw [if_pos hl] at answer
      exact congrArg Host.Outcome.next (State.request_replied hs ho answer rfl rfl)
    · rw [if_neg (by simp [hl]), if_pos ha, if_neg (by simp [hf])] at answer
      exact congrArg Host.Outcome.next (State.request_replied hs ho answer rfl rfl)
    · rw [if_neg (by simp [hl]), if_neg (by simp [ha])] at answer
      have removed (u : State) : u.reportRemoval e = { u with reports := u.reports ++
          (if e.vol.state = EntryState.planned then []
            else [Instr.entryStateChange e.fix.ref (entrySegs e) false]) } := by
        unfold State.reportRemoval
        cases e.vol.state <;> simp [State.raise]
      rw [removed] at answer
      exact congrArg Host.Outcome.next (State.request_replied
        (u := { s.withTable (s.bt.table.filter fun x => x.fix.ref != e.fix.ref) with reports := s.reports ++
          (if e.vol.state = EntryState.planned then []
            else [Instr.entryStateChange e.fix.ref (entrySegs e) false]) }) hs ho answer rfl rfl)
    · rw [if_neg (by simp [hl]), if_pos ha, if_pos hf] at answer
      exact congrArg Host.Outcome.next (State.request_replied
        (u := { s.withTable (s.bt.table.filter fun x => x.fix.ref != e.fix.ref) with
          nq := (s.notify (.sessionEnded (endedFields e s.tb.minutes .supervisor))).nq
          reports := s.reports ++ [Instr.entryStateChange e.fix.ref (entrySegs e) false,
            Instr.sessionEndOverrides e.fix.ref (s.governedBy e.fix.ref)] }) hs ho answer rfl rfl)

/-! ### Loads (R59, R62 to R67) -/

/-- The survivors joined to the kept entries: who stands in the table then, and how many. -/
theorem mem_foldl_insertEntry (fs : List Fixed) (t : List Entry) (e : Entry) :
    e ∈ fs.foldl (fun t f => insertEntry ⟨f, Volatile.planned⟩ t) t ↔
      e ∈ t ∨ ∃ f ∈ fs, e = ⟨f, Volatile.planned⟩ := by
  induction fs generalizing t with
  | nil => simp
  | cons f fs ih =>
    rw [List.foldl_cons, ih, insertEntry, mem_insertBy]
    simp only [List.mem_cons, exists_eq_or_imp]
    tauto

theorem length_foldl_insertEntry (fs : List Fixed) (t : List Entry) :
    (fs.foldl (fun t f => insertEntry ⟨f, Volatile.planned⟩ t) t).length = t.length + fs.length := by
  induction fs generalizing t with
  | nil => rfl
  | cons f fs ih =>
    rw [List.foldl_cons, ih, insertEntry, length_insertBy, List.length_cons]
    omega

theorem State.loadAbort_eq (s : State) :
    s.loadAbort () = if s.load = none then refuse s .noLoad else answerOk s.closeLoad := by
  unfold State.loadAbort
  cases s.load <;> rfl

/-- Settles O19. -/
theorem loadAbortAndTimeoutDiscardTheLoad : Obligations.LoadAbortAndTimeoutDiscardTheLoad := by
  intro s ho
  refine ⟨fun hs hl => ⟨?_, ?_⟩, fun hs hl => ?_, fun ha hl => ?_, fun l ha hl => ?_⟩
  · have answer := (s.hold 0x23).loadAbort_eq
    rw [if_pos (show (s.hold 0x23).load = none from hl)] at answer
    exact congrArg Host.Outcome.next (State.request_replied hs ho answer rfl rfl)
  · have answer : State.loadClose () (s.hold 0x22) = refuse (s.hold 0x22) .noLoad := by
      simp only [State.loadClose, show (s.hold 0x22).load = none from hl]
    exact congrArg Host.Outcome.next (State.request_replied hs ho answer rfl rfl)
  · have answer := (s.hold 0x23).loadAbort_eq
    rw [if_neg (show (s.hold 0x23).load ≠ none from Option.isSome_iff_ne_none.mp hl)] at answer
    exact congrArg Host.Outcome.next (State.request_replied (u := { s with load := none }) hs ho answer rfl rfl)
  · have still : (s.take .loadIdleTimeout).abortLoad .timeout = s.take .loadIdleTimeout := by
      simp only [State.abortLoad, show (s.take .loadIdleTimeout).load = none from hl]
    refine congrArg Host.Outcome.next ((State.event_undriven ha ho ?_ ?_).trans still) <;> rw [still] <;> rfl
  · have gone : (s.take .loadIdleTimeout).abortLoad .timeout = ({ s.take .loadIdleTimeout with
        load := none
        nq := (s.notify (.loadAborted l.lo l.hi .timeout l.staged.length)).nq } : State) := by
      simp only [State.abortLoad, show (s.take .loadIdleTimeout).load = some l from hl]
      rfl
    refine congrArg Host.Outcome.next ((State.event_undriven ha ho ?_ ?_).trans gone) <;> rw [gone] <;> rfl

/-- Settles O18: the model's judgement of a commit is the statement's, count by count. -/
theorem loadCloseCommitsOrRefusesFull : Obligations.LoadCloseCommitsOrRefusesFull := by
  intro s l hs ho hl removable kept past conflict joins removed lostPast lostConflict
  have hmark (e : Entry) : (s.hold 0x22).marked e = removable e := by
    have hin : inLoad (s.hold 0x22) e.fix.start = (l.lo ≤ e.fix.start && e.fix.start < l.hi : Bool) := by
      simp only [inLoad, show (s.hold 0x22).load = some l from hl]
    simp only [State.marked, hin, removable]
  have hpast (f : Fixed) : isPast (s.hold 0x22) f = past f := rfl
  have judgement : (s.hold 0x22).judgeCommit l = ⟨kept, removed, lostPast, lostConflict, joins⟩ := by
    have hk : (s.hold 0x22).bt.table.filter (fun e => !(s.hold 0x22).marked e) = kept := by
      simp only [hmark]
      rfl
    have hc : conflicts kept = conflict := rfl
    simp only [State.judgeCommit, hk, hc, List.filter_filter, Commit.mk.injEq]
    refine ⟨trivial, ?_, rfl, ?_, ?_⟩
    · simp only [show (s.hold 0x22).marked = removable from funext hmark]
      rfl
    · simp only [hpast, lostConflict]
      congr 1
      exact List.filter_congr fun f _ => Bool.and_comm ..
    · simp only [hpast, joins]
      exact List.filter_congr fun f _ => Bool.and_comm ..
  have close : State.loadClose () (s.hold 0x22) =
      if 128 < kept.length + joins.length then
        refuse { s.hold 0x22 with load := some { l with idle := 1200 } } .full
      else
        (((((s.hold 0x22).setTable (joins.foldl (fun t f => insertEntry ⟨f, Volatile.planned⟩ t) kept)).notify
          (.loadDone l.lo l.hi removed joins.length lostPast lostConflict)).closeLoad), .ok,
          be 1 removed ++ be 1 joins.length ++ be 1 lostPast ++ be 1 lostConflict) := by
    simp only [State.loadClose, show (s.hold 0x22).load = some l from hl, judgement]
    rfl
  refine ⟨fun full => ?_, fun fits => ?_⟩
  · rw [if_pos full] at close
    exact congrArg Host.Outcome.next (State.request_replied
      (u := { s with load := some { l with idle := 1200 } }) hs ho close rfl rfl)
  · rw [if_neg (Nat.not_lt.mpr fits)] at close
    refine ⟨_, congrArg Host.Outcome.next (State.request_replied (u := { s with
      bt := { s.bt with
        table := joins.foldl (fun t f => insertEntry ⟨f, Volatile.planned⟩ t) kept
        stored := (joins.foldl (fun t f => insertEntry ⟨f, Volatile.planned⟩ t) kept).map (·.fix) }
      load := none
      nq := (s.notify (.loadDone l.lo l.hi removed joins.length lostPast lostConflict)).nq })
      hs ho close rfl rfl), ?_, ?_, rfl, rfl⟩
    · exact fun e => mem_foldl_insertEntry joins kept e
    · exact length_foldl_insertEntry joins kept

/-! ### Mode requests refused, and the lock (R190, R192) -/

theorem State.modeService_eq (s : State) (force : Bool) :
    s.modeService force = if s.inRun = false then answerOk s
      else if s.cs.serviceLine = false then refuse s .wrongMode
      else if s.cs.lock = true then refuse s .locked
      else if s.bt.table.any isActive = true ∧ force = false then refuse s .active
      else answerOk s.enterService := by
  rw [State.modeService, judged_cons (by decide), judged_cons (by decide), judged_cons (by decide), judged_nil]
  simp only [Bool.not_eq_true', Bool.and_eq_true]

theorem State.modeLock_eq (s : State) (code : Nat) (force : Bool) :
    s.modeLock (code, force) = if 2 < code then refuse s .outOfRange
      else if s.inRun = true then answerOk { s with cs := { s.cs with lock := true } }
      else refuse s .wrongMode := rfl

/-- Settles O26: the owner's checks in order, judged on the held state. -/
theorem serviceEntryAndLockJudgedInOrder : Obligations.ServiceEntryAndLockJudgedInOrder := by
  refine ⟨fun s force hs ho => ?_, fun s => ⟨fun hs ho force => ?_, rfl⟩⟩
  · have answer : State.modeService force (s.hold 0x50) = _ := (s.hold 0x50).modeService_eq force
    have held_run : (s.hold 0x50).inRun = s.inRun := rfl
    have held_cs : (s.hold 0x50).cs = s.cs := rfl
    have held_bt : (s.hold 0x50).bt = s.bt := rfl
    rw [held_run, held_cs, held_bt] at answer
    refine ⟨fun hr => ?_, fun hr hl => ?_, fun hr hl hk => ?_, fun hr hl hk ha hf => ?_⟩
    · rw [if_pos hr] at answer
      exact congrArg Host.Outcome.next (State.request_replied hs ho answer rfl rfl)
    · rw [if_neg (by simp [hr]), if_pos hl] at answer
      exact congrArg Host.Outcome.next (State.request_replied hs ho answer rfl rfl)
    · rw [if_neg (by simp [hr]), if_neg (by simp [hl]), if_pos hk] at answer
      exact congrArg Host.Outcome.next (State.request_replied hs ho answer rfl rfl)
    · rw [if_neg (by simp [hr]), if_neg (by simp [hl]), if_neg (by simp [hk]), if_pos ⟨ha, hf⟩] at answer
      exact congrArg Host.Outcome.next (State.request_replied hs ho answer rfl rfl)
  · refine ⟨fun code hc => ?_, fun hr => ?_, fun hr => ?_⟩
    · have answer := (s.hold 0x50).modeLock_eq code force
      rw [if_pos hc] at answer
      exact congrArg Host.Outcome.next (State.request_replied hs ho answer rfl rfl)
    · have answer := (s.hold 0x50).modeLock_eq 2 force
      rw [if_neg (by decide), if_pos (show (s.hold 0x50).inRun = true from hr)] at answer
      exact congrArg Host.Outcome.next (State.request_replied
        (u := { s with cs := { s.cs with lock := true } }) hs ho answer rfl rfl)
    · have answer := (s.hold 0x50).modeLock_eq 2 force
      rw [if_neg (by decide), if_neg (by rw [show (s.hold 0x50).inRun = s.inRun from rfl, hr]; simp)] at answer
      exact congrArg Host.Outcome.next (State.request_replied hs ho answer rfl rfl)

end Sys2Proof.Machine

/-! The bytes of the records (section 9.4): figures read back from their bytes, optional fields and flags by
their presence byte, the lengths of the records. -/

namespace Sys2Proof.Machine

/-! ### Figures -/

theorem byteOf_toNat (n : Nat) : (byteOf n).toNat = n % 256 := by
  simp [byteOf]

/-- Reading goes on from what has been read: the bytes of n stand for n modulo the width. -/
theorem foldl_be (k n acc : Nat) :
    (be k n).foldl (fun m b => m * 256 + b.toNat) acc = acc * 256 ^ k + n % 256 ^ k := by
  induction k generalizing acc with
  | zero => simp [be, Nat.mod_one]
  | succ k ih =>
    rw [be, List.foldl_cons, ih, byteOf_toNat, Nat.pow_succ, Nat.mod_mul (x := n)]
    ring

theorem unbe_be_mod (k n : Nat) : unbe (be k n) = n % 256 ^ k := by
  rw [unbe, foldl_be, Nat.zero_mul, Nat.zero_add]

theorem unbe_be {k n : Nat} (h : n < 256 ^ k) : unbe (be k n) = n := by
  rw [unbe_be_mod, Nat.mod_eq_of_lt h]

/-- The byte at each place of a figure, most significant first (R178). -/
theorem getElem?_be {k n j : Nat} (h : j < k) :
    (be k n)[j]? = some (byteOf (n / 256 ^ (k - 1 - j))) := by
  induction k generalizing j with
  | zero => omega
  | succ k ih =>
    cases j with
    | zero => rfl
    | succ j =>
      rw [be, List.getElem?_cons_succ, ih (by omega)]
      congr 4
      omega

/-! ### Flags and optional fields [55] -/

theorem flagByte_singleton (b : Bool) : [flagByte b] = be 1 (if b = true then 1 else 0) := by
  cases b <;> rfl

theorem optBytes_eq (k : Nat) (n : Option Nat) :
    optBytes k n = be 1 (if n.isSome = true then 1 else 0) ++ be k (n.getD 0) := by
  cases n with
  | none => exact congrArg (· ++ be k 0) (show [0] = be 1 0 from rfl)
  | some m => exact congrArg (· ++ be k m) (show [1] = be 1 1 from rfl)

theorem optSegs_eq (g : Option Segs) :
    optSegs g = be 1 (if g.isSome = true then 1 else 0) ++ be 1 ((g.map (·.first)).getD 0) ++
      be 1 ((g.map (·.span)).getD 0) := by
  cases g with
  | none => rfl
  | some g => exact congrArg (· ++ segsBytes g) (show [1] = be 1 1 from rfl)

/-! ### The entry record -/

theorem fixedBytes_length (f : Fixed) : (fixedBytes f).length = 26 := by
  simp [fixedBytes]

theorem entryBytes_length (c : Commission) (e : Entry) : (entryBytes c e).length = 74 := by
  simp [entryBytes, fixedBytes_length]

/-- Two flags side by side, one figure each. -/
theorem flagBytes_pair (a b : Bool) :
    [flagByte a, flagByte b] = be 1 (if a = true then 1 else 0) ++ be 1 (if b = true then 1 else 0) := by
  cases a <;> cases b <;> rfl

theorem State.bookFind_some {s : State} {ref : Nat} {e : Entry} (h : s.entry? ref = some e) :
    s.bookFind ref = (s, .ok, entryBytes s.comm e) := by
  simp only [State.bookFind, h]

theorem State.bookFind_none {s : State} {ref : Nat} (h : s.entry? ref = none) :
    s.bookFind ref = refuse s .notFound := by
  simp only [State.bookFind, h]

/-- An entry found moves the cursor to it (R23, R24). -/
theorem State.request_returning {s : State} (hs : s.TakesRequest) (ho : s.OutputsFollow) {code : Nat}
    {act : State → Answered} {e : Entry} (ha : act (s.hold code) = (s.hold code).returnEntry (some e)) :
    s.request code act = ({ s with wp := { s.wp with cursor := some ⟨e.fix.start, e.fix.ref⟩ } }).replied
      code .ok (entryBytes s.comm e) :=
  State.request_replied (u := { s with wp := { s.wp with cursor := some ⟨e.fix.start, e.fix.ref⟩ } })
    hs ho ha rfl rfl

/-- No entry found moves nothing. -/
theorem State.request_returning_none {s : State} (hs : s.TakesRequest) (ho : s.OutputsFollow) {code : Nat}
    {act : State → Answered} (ha : act (s.hold code) = (s.hold code).returnEntry none) :
    s.request code act = s.replied code .notFound [] :=
  State.request_replied hs ho ha rfl rfl

/-- Settles O16: the owner's answers, and the record byte field by byte field. -/
theorem bookReadsReturnEntriesAndMoveCursor : Obligations.BookReadsReturnEntriesAndMoveCursor := by
  intro s hs ho
  refine ⟨fun ref => ?_, fun minute => ?_, fun hc => ?_, fun k hc => ?_, fun c e => ?_, fun k n => ?_⟩
  · show Host.Outcome.next (s.request 0x13 (State.bookFind ref)) = _
    cases h : s.entry? ref with
    | some e =>
      have answer := State.bookFind_some (s := s.hold 0x13) h
      exact congrArg Host.Outcome.next (State.request_replied hs ho answer rfl rfl)
    | none =>
      have answer := State.bookFind_none (s := s.hold 0x13) h
      exact congrArg Host.Outcome.next (State.request_replied hs ho answer rfl rfl)
  · have answer : State.bookFirst minute (s.hold 0x14) =
        (s.hold 0x14).returnEntry (s.bt.table.find? fun e => decide (minute ≤ e.fix.start)) := rfl
    show Host.Outcome.next (s.request 0x14 (State.bookFirst minute)) = _
    cases h : s.bt.table.find? fun e => decide (minute ≤ e.fix.start) with
    | some e =>
      rw [h] at answer
      exact congrArg Host.Outcome.next (State.request_returning hs ho answer)
    | none =>
      rw [h] at answer
      exact congrArg Host.Outcome.next (State.request_returning_none hs ho answer)
  · have answer : State.bookNext () (s.hold 0x15) = refuse (s.hold 0x15) .noCursor := by
      simp only [State.bookNext, show (s.hold 0x15).wp.cursor = none from hc]
    exact congrArg Host.Outcome.next (State.request_replied hs ho answer rfl rfl)
  · have behind : follows k = fun e : Entry =>
        decide (k.start < e.fix.start ∨ (k.start = e.fix.start ∧ k.ref < e.fix.ref)) := by
      funext e
      rw [Bool.eq_iff_iff]
      simp [follows]
    have answer : State.bookNext () (s.hold 0x15) =
        (s.hold 0x15).returnEntry (s.bt.table.find? (follows k)) := by
      simp only [State.bookNext, show (s.hold 0x15).wp.cursor = some k from hc]
      rfl
    rw [behind] at answer
    show Host.Outcome.next (s.request 0x15 (State.bookNext ())) = _
    cases h : s.bt.table.find? fun (e : Entry) =>
        decide (k.start < e.fix.start ∨ (k.start = e.fix.start ∧ k.ref < e.fix.ref)) with
    | some e =>
      rw [h] at answer
      exact congrArg Host.Outcome.next (State.request_returning hs ho answer)
    | none =>
      rw [h] at answer
      exact congrArg Host.Outcome.next (State.request_returning_none hs ho answer)
  · intro f v flag optional optionalSet cause
    refine ⟨entryBytes_length c e, ?_⟩
    have causes (x : Option StartCause) : x.map startCauseCode = x.map cause := by
      cases x with
      | none => rfl
      | some y => cases y <;> rfl
    have seen (x : Option Bool) :
        x.map flagNat = x.map fun b => if b = true then 1 else 0 := rfl
    simp only [entryBytes, fixedBytes, flagBytes_pair, optBytes_eq, optSegs_eq, causes, seen,
      List.append_assoc, flag, optional, optionalSet]
    rfl
  · exact ⟨be_length k n, unbe_be, fun j h => getElem?_be h⟩

/-! ### The reads (R141, R174, R188) -/

theorem length_flatMap_of_length {α β : Type} {l : List α} {f : α → List β} {n : Nat}
    (h : ∀ a, (f a).length = n) : (l.flatMap f).length = n * l.length := by
  simp [List.length_flatMap, h, Nat.mul_comm]

theorem State.segmentBytes_length (s : State) (i : Seg) : (s.segmentBytes i).length = 13 := by
  simp [State.segmentBytes]

theorem State.groupBytes_length (s : State) (r : GroupRec) : (s.groupBytes r).length = 13 := by
  simp [State.groupBytes, beInt]

theorem adGroupBytes_length (g : AdGroup) : (adGroupBytes g).length = 11 := by
  simp [adGroupBytes]

theorem State.suiteBytes_length (s : State) :
    s.suiteBytes.length = 13 + 13 * s.configuredSegs.length + 13 * s.lm.groups.length := by
  simp [State.suiteBytes, length_flatMap_of_length s.segmentBytes_length,
    length_flatMap_of_length s.groupBytes_length, allParts]
  omega

theorem demandBytes_length (a : Ad) : (demandBytes a).length = 15 + 11 * a.groups.length := by
  simp [demandBytes, length_flatMap_of_length adGroupBytes_length]
  omega

theorem State.commissionRead_eq (s : State) (sel : Nat) :
    s.commissionRead sel = if 24 < sel then refuse s .outOfRange
      else (s, .ok, be 1 sel ++ recordBytes ((s.pendingAt sel).getD (s.comm.recordAt sel))) := rfl

/-- Settles O20: the owners leave the held state as it is, and the records field by field. -/
theorem readRequestsChangeNothing : Obligations.ReadRequestsChangeNothing := by
  intro s hs ho health segment group partByte suiteSegs header adGroup plantAge
  refine ⟨congrArg Host.Outcome.next (State.request_replied hs ho rfl rfl rfl),
    congrArg Host.Outcome.next (State.request_replied hs ho rfl rfl rfl),
    s.suiteBytes_length, ?_, demandBytes_length _, ?_, fun sel h => ?_, fun sel h => ?_⟩
  · have segments : s.segmentBytes = segment := by
      funext i
      have sums : flagNat (s.segOccupied i) + 2 * flagNat (s.si.presenceSource.get i).isNone =
          (if s.segOccupied i = true then 1 else 0) +
            if (s.si.presenceSource.get i).isNone = true then 2 else 0 := by
        simp only [flagNat]
        split <;> split <;> rfl
      simp only [State.segmentBytes, sums]
      rfl
    have groups : s.groupBytes = group := rfl
    have parts : s.partByte = partByte := by
      funext p
      simp only [State.partByte, partByte]
      cases s.partConfigured p with
      | false => rfl
      | true => cases (s.lm.parts.get p).accepted <;> rfl
    have mode : (!s.inRun) = (s.cs.mode == .service) := by
      unfold State.inRun
      cases s.cs.mode <;> rfl
    simp only [State.suiteBytes, segments, groups, parts, mode, header, List.append_assoc]
    rfl
  · have source : sourceCode s.ad.source = if s.ad.source = .plant then 1 else 0 := by
      cases s.ad.source <;> rfl
    have age : grantElapsed s.ad = plantAge := by
      simp only [grantElapsed, plantAge]
      cases s.ad.source <;> rfl
    simp only [demandBytes, source, age]
    rfl
  · have answer := (s.hold 0x51).commissionRead_eq sel
    rw [if_pos h] at answer
    exact congrArg Host.Outcome.next (State.request_replied hs ho answer rfl rfl)
  · have answer := (s.hold 0x51).commissionRead_eq sel
    rw [if_neg (Nat.not_lt.mpr h)] at answer
    exact congrArg Host.Outcome.next (State.request_replied hs ho answer rfl rfl)

/-! ### Notices (R175, R176) -/

theorem State.noticeTake_nil {s : State} (h : s.nq.list = []) : s.noticeTake () = refuse s .notFound := by
  simp only [State.noticeTake, h]

theorem State.noticeTake_cons {s : State} {n : NoticeRec} {rest : List NoticeRec} (h : s.nq.list = n :: rest) :
    s.noticeTake () = ({ s with nq := { s.nq with list := rest, overflow := false } }, .ok,
      flagByte s.nq.overflow :: be 1 rest.length ++ noticeBytes n) := by
  simp only [State.noticeTake, h]

/-- A queue within its bound loses its oldest notice exactly when it is full (R175). -/
theorem State.notify_list {s : State} (h : s.nq.list.length ≤ 32) (n : Notice) :
    (s.notify n).nq.list =
      (s.nq.list ++ [(⟨s.nq.counter, s.stampMinute, n⟩ : NoticeRec)]).drop (s.nq.list.length - 31) := by
  rw [List.drop_append_of_le_length (by omega)]
  show (if 32 ≤ s.nq.list.length then s.nq.list.drop (s.nq.list.length - 31) else s.nq.list) ++ _ = _
  split
  · rfl
  · rw [show s.nq.list.length - 31 = 0 by omega, List.drop_zero]

/-- Settles O21: the oldest notice taken, the record of each kind, and a notice joining. -/
theorem noticesJoinAtTheEndAndLeaveInOrder : Obligations.NoticesJoinAtTheEndAndLeaveInOrder := by
  refine ⟨fun s hs ho => ⟨fun h => ?_, fun n rest h => ?_⟩, fun n => ?_, fun s n fits => ?_⟩
  · have answer := State.noticeTake_nil (s := s.hold 0x31) h
    exact congrArg Host.Outcome.next (State.request_replied hs ho answer rfl rfl)
  · have answer := State.noticeTake_cons (s := s.hold 0x31) h
    exact congrArg Host.Outcome.next (State.request_replied
      (u := { s with nq := { s.nq with list := rest, overflow := false } }) hs ho answer rfl rfl)
  · intro kind begun set started sensor told
    have code : noticeCode n.notice = told.1 := by
      simp only [told]
      cases n.notice <;> rfl
    have fields : noticeFields n.notice = told.2.2 := by
      simp only [told]
      cases n.notice with
      | sessionEnded f =>
        simp only [noticeFields, endedBytes, optBytes_eq, List.append_assoc]
        rfl
      | ready ref elapsed learnt =>
        simp only [noticeFields, flagByte_singleton]
      | _ => rfl
    have size : told.2.2.length = told.2.1 := by
      rw [← fields]
      simp only [told]
      cases n.notice <;> simp [noticeFields, startedBytes, endedBytes]
    refine ⟨size, ?_⟩
    rw [noticeBytes, fields, code, size]
  · obtain ⟨short, counter⟩ := fits
    have kept := s.notify_noticesFit n ⟨short, counter⟩
    refine ⟨State.notify_list short n, ?_, ?_, kept, rfl⟩
    · show (if 32 ≤ s.nq.list.length then true else s.nq.overflow) = _
      rcases Nat.lt_or_ge s.nq.list.length 32 with lt | ge
      · rw [if_neg (Nat.not_le.mpr lt), show (s.nq.list.length == 32) = false by simp; omega, Bool.or_false]
      · rw [if_pos ge, show (s.nq.list.length == 32) = true by simp; omega, Bool.or_true]
    · show (s.nq.counter + 1) % 65536 = _
      split
      · omega
      · exact Nat.mod_eq_of_lt (by omega)

/-! ### Commissioning records (R180, R188, R189) -/

theorem State.commissionWrite_bad_selector {s : State} {sel : Nat} (h : 24 < sel) (v : List Nat) :
    s.commissionWrite (sel, v) = refuse s .outOfRange := by
  have none : fieldCount sel = none := by
    unfold fieldCount
    rw [if_neg (by omega), if_neg (by omega), if_neg (by omega), if_neg (by omega)]
  simp only [State.commissionWrite, none]

theorem State.commissionWrite_bad_length {s : State} {sel n : Nat} {v : List Nat} (h : fieldCount sel = some n)
    (hv : v.length ≠ n) : s.commissionWrite (sel, v) = refuse s .badLength := by
  simp only [State.commissionWrite, h, if_pos hv]

theorem State.commissionWrite_in_run {s : State} {sel n : Nat} {v : List Nat} (h : fieldCount sel = some n)
    (hv : v.length = n) (hr : s.inRun = true) : s.commissionWrite (sel, v) = refuse s .wrongMode := by
  simp only [State.commissionWrite, h, hv, ne_eq, not_true, if_false, hr, if_true]

theorem State.commissionWrite_bad_field {s : State} {sel n pos : Nat} {v : List Nat}
    (h : fieldCount sel = some n) (hv : v.length = n) (hr : s.inRun = false)
    (hf : firstBadField 1 v (fieldRanges sel v) = some pos) :
    s.commissionWrite (sel, v) = (s, .outOfRange, be 1 pos) := by
  simp only [State.commissionWrite, h, hv, ne_eq, not_true, if_false, hr, Bool.false_eq_true, hf]

theorem State.commissionWrite_accepted {s : State} {sel n : Nat} {v : List Nat}
    (h : fieldCount sel = some n) (hv : v.length = n) (hr : s.inRun = false)
    (hf : firstBadField 1 v (fieldRanges sel v) = none) :
    s.commissionWrite (sel, v) = answerOk (s.putPending (Record.ofValues sel v)) := by
  simp only [State.commissionWrite, h, hv, ne_eq, not_true, if_false, hr, Bool.false_eq_true, hf]

/-- The pending copy put is found at its own place, and another place has what it had. -/
theorem State.pendingAt_putPending_same (s : State) (r : Record) :
    (s.putPending r).pendingAt r.selector = some r := by
  have gone : (s.cs.pending.filter fun x => x.selector != r.selector).find?
      (fun x => x.selector == r.selector) = none := by
    simp [List.find?_eq_none]
  show (s.cs.pending.filter (fun x => x.selector != r.selector) ++ [r]).find? _ = _
  rw [List.find?_append, gone]
  simp

theorem State.pendingAt_putPending_other (s : State) (r : Record) {k : Nat} (h : k ≠ r.selector) :
    (s.putPending r).pendingAt k = s.pendingAt k := by
  have away : (r.selector == k) = false := by simpa using h.symm
  show (s.cs.pending.filter (fun x => x.selector != r.selector) ++ [r]).find? _ = _
  rw [List.find?_append, List.find?_cons, away, List.find?_nil, Option.or_none, List.find?_filter]
  refine congrArg (s.cs.pending.find? ·) (funext fun x => ?_)
  by_cases hx : x.selector = k
  · simp [hx, h]
  · simp [hx]

/-- Settles O29: the owner's checks in order, and the record made of the values carries them back. -/
theorem commissionWriteIsReadBack : Obligations.CommissionWriteIsReadBack := by
  intro s sel v hs ho
  refine ⟨fun h => ?_, fun n h => ⟨fun hv => ?_, fun hv hr => ?_, fun hv hr => ⟨fun pos hf => ?_, fun hf => ?_⟩⟩⟩
  · have answer := State.commissionWrite_bad_selector (s := s.hold 0x52) h v
    exact congrArg Host.Outcome.next (State.request_replied hs ho answer rfl rfl)
  · have answer := State.commissionWrite_bad_length (s := s.hold 0x52) h hv
    exact congrArg Host.Outcome.next (State.request_replied hs ho answer rfl rfl)
  · have answer := State.commissionWrite_in_run (s := s.hold 0x52) h hv hr
    exact congrArg Host.Outcome.next (State.request_replied hs ho answer rfl rfl)
  · have answer := State.commissionWrite_bad_field (s := s.hold 0x52) h hv hr hf
    exact congrArg Host.Outcome.next (State.request_replied hs ho answer rfl rfl)
  · have answer := State.commissionWrite_accepted (s := s.hold 0x52) h hv hr hf
    have selector : (Record.ofValues sel v).selector = sel := Record.selector_ofValues (fieldCount_le h) v
    have values : (Record.ofValues sel v).values = v := Record.values_ofValues (hv ▸ h) hf
    refine ⟨_, congrArg Host.Outcome.next (State.request_replied
      (u := s.putPending (Record.ofValues sel v)) hs ho answer rfl rfl), rfl, fun k hk => ?_, fun u hu huo hcs => ?_⟩
    · exact s.pendingAt_putPending_other _ (by rw [selector]; exact hk)
    · have found : (u.hold 0x51).pendingAt sel = some (Record.ofValues sel v) := by
        have put := s.pendingAt_putPending_same (Record.ofValues sel v)
        rw [selector] at put
        simp only [State.pendingAt, show (u.hold 0x51).cs = _ from hcs]
        exact put
      have reading := (u.hold 0x51).commissionRead_eq sel
      rw [if_neg (Nat.not_lt.mpr (fieldCount_le h)), found, Option.getD_some, recordBytes, values] at reading
      exact congrArg Host.Outcome.next (State.request_replied hu huo reading rfl rfl)

end Sys2Proof.Machine

/-! The division of air at AD: what a recompute makes of the records and the targets, and the notices of its
shortage judgement (R136 to R142). -/

namespace Sys2Proof.Machine

/-! ### Several notices -/

theorem State.notifyAll_cons (s : State) (n : Notice) (ns : List Notice) :
    s.notifyAll (n :: ns) = (s.notify n).notifyAll ns := rfl

theorem State.notifyAll_append (s : State) (ns more : List Notice) :
    s.notifyAll (ns ++ more) = (s.notifyAll ns).notifyAll more := List.foldl_append

/-- Queuing notices moves the queue alone. -/
theorem State.notifyAll_frame (s : State) (ns : List Notice) :
    s.notifyAll ns = { s with nq := (s.notifyAll ns).nq } := by
  induction ns generalizing s with
  | nil => rfl
  | cons n ns ih =>
    rw [State.notifyAll_cons, ih]
    rfl

/-- The queue after several notices depends on the queue and the clock alone. -/
theorem State.notifyAll_nq {s u : State} (hnq : u.nq = s.nq) (htb : u.tb = s.tb) (ns : List Notice) :
    (u.notifyAll ns).nq = (s.notifyAll ns).nq := by
  induction ns generalizing s u with
  | nil => exact hnq
  | cons n ns ih =>
    refine ih ?_ htb
    simp only [State.notify, State.stampMinute, hnq, htb]

/-! ### Records with their allocations -/

/-- The records of a recompute before they are judged: each with its allocation. -/
def withAllocs (groups : List AdGroup) (allocs : List Nat) : List AdGroup :=
  (groups.zip allocs).map fun p => { p.1 with alloc := p.2 }

/-- The records once judged: the flag as R140 has it. -/
def flagged (groups : List AdGroup) : List AdGroup :=
  groups.map fun g => { g with short := decide (g.alloc < g.qvent) }

theorem judgeShort_fst (grant : Nat) (g : AdGroup) :
    (judgeShort grant g).1 = { g with short := decide (g.alloc < g.qvent) } := by
  unfold judgeShort
  split <;> simp [*]

theorem withAllocs_map_alloc {groups : List AdGroup} {allocs : List Nat} (h : allocs.length = groups.length) :
    (withAllocs groups allocs).map (·.alloc) = allocs := by
  rw [withAllocs, List.map_map]
  exact List.map_snd_zip h.le

/-- What does not read the allocation is read off the records as before. -/
theorem withAllocs_map {α : Type} {f : AdGroup → α} (hf : ∀ g n, f { g with alloc := n } = f g)
    {groups : List AdGroup} {allocs : List Nat} (h : allocs.length = groups.length) :
    (withAllocs groups allocs).map f = groups.map f := by
  rw [withAllocs, List.map_map]
  calc (groups.zip allocs).map (f ∘ fun p => { p.1 with alloc := p.2 })
      = (groups.zip allocs).map (f ∘ Prod.fst) := List.map_congr_left fun p _ => hf p.1 p.2
    _ = ((groups.zip allocs).map Prod.fst).map f := List.map_map.symm
    _ = groups.map f := by rw [List.map_fst_zip h.ge]

theorem withAllocs_self (f : AdGroup → Nat) (groups : List AdGroup) :
    withAllocs groups (groups.map f) = groups.map fun g => { g with alloc := f g } := by
  induction groups with
  | nil => rfl
  | cons g groups ih => exact congrArg ({ g with alloc := f g } :: ·) ih

theorem giveLeftover_length (left : Nat) (l : List (AdGroup × Nat)) : (giveLeftover left l).length = l.length := by
  induction l generalizing left with
  | nil => rfl
  | cons p l ih =>
    obtain ⟨g, share⟩ := p
    rw [giveLeftover]
    split <;> simp [ih]

theorem allocations_length' (total : Nat) (groups : List AdGroup) :
    (allocations total groups).length = groups.length := by
  unfold allocations
  dsimp only
  split
  · exact List.length_map ..
  · simp [giveLeftover_length]

theorem giveLeftover_map {h : AdGroup → AdGroup} (hqd : ∀ g, (h g).qd = g.qd) (hqmin : ∀ g, (h g).qmin = g.qmin)
    (left : Nat) (l : List (AdGroup × Nat)) :
    giveLeftover left (l.map fun p => (h p.1, p.2)) = giveLeftover left l := by
  induction l generalizing left with
  | nil => rfl
  | cons p l ih =>
    obtain ⟨g, share⟩ := p
    simp only [List.map_cons, giveLeftover, hqd, hqmin, ih]

/-- The allocations read the demands and minima of the records alone. -/
theorem allocations_map {h : AdGroup → AdGroup} (hqd : ∀ g, (h g).qd = g.qd) (hqmin : ∀ g, (h g).qmin = g.qmin)
    (total : Nat) (groups : List AdGroup) : allocations total (groups.map h) = allocations total groups := by
  have zipped (fs : List Nat) : ((groups.map h).zip fs).map (fun p => (p.1, p.1.qmin + p.2)) =
      ((groups.zip fs).map fun p => (p.1, p.1.qmin + p.2)).map fun p => (h p.1, p.2) := by
    rw [List.zip_map_left, List.map_map, List.map_map]
    exact List.map_congr_left fun p _ => by simp [hqmin]
  simp only [allocations, sumOf, List.map_map, Function.comp_def, hqd, hqmin]
  simp only [zipped, giveLeftover_map hqd hqmin]
  congr!

/-- A record reduced to what the division reads. -/
def AdGroup.asking (g : AdGroup) : AdGroup := ⟨⟨0, 0⟩, g.qd, g.qmin, 0, 0, 0, false⟩

theorem allocations_congr {total : Nat} {l m : List AdGroup} (h : l.map AdGroup.asking = m.map AdGroup.asking) :
    allocations total l = allocations total m := by
  rw [← allocations_map (h := AdGroup.asking) (fun _ => rfl) (fun _ => rfl) total l, h,
    allocations_map (h := AdGroup.asking) (fun _ => rfl) (fun _ => rfl)]

/-! ### Targets -/

/-- Of values put in turn a position has one of its own, or the value it had where none is put there. -/
theorem foldl_set_get {l : List (Seg × Nat)} {v : Four Nat} {i : Seg} {p : Nat → Prop}
    (given : ∀ x ∈ l, x.1 = i → p x.2) (some_given : (∃ x ∈ l, x.1 = i) ∨ p (v.get i)) :
    p ((l.foldl (fun v x => v.set x.1 x.2) v).get i) := by
  induction l generalizing v with
  | nil => simpa using some_given
  | cons x l ih =>
    refine ih (fun y hy => given y (List.mem_cons_of_mem _ hy)) ?_
    by_cases hx : x.1 = i
    · subst hx
      right
      rw [Four.get_set_same]
      exact given x List.mem_cons_self rfl
    · rcases some_given with ⟨y, hy, rfl⟩ | h
      · rcases List.mem_cons.mp hy with rfl | hy
        · exact absurd rfl hx
        · exact .inl ⟨y, hy, rfl⟩
      · right
        rwa [Four.get_set_other _ _ (Ne.symm hx)]

theorem State.mem_splitGroup_seg {s : State} {g : AdGroup} {i : Seg} :
    (∃ x ∈ s.splitGroup g, x.1 = i) ↔ segHas g.segs i = true := by
  rw [← mem_segList, ← s.splitGroup_fst g, List.mem_map]

section Records

variable {s t : State} (hcs : t.cs = s.cs)
include hcs

/-! What reads the records in effect alone. -/

theorem State.configured_congr : t.configured = s.configured := by
  funext i
  rw [State.configured, State.configured, State.segCount, State.segCount, hcs]

theorem State.segRec_congr : t.segRec = s.segRec := by
  funext i
  rw [State.segRec, State.segRec, hcs]

theorem State.splitGroup_congr : t.splitGroup = s.splitGroup := by
  have spare : t.spareOf = s.spareOf := by
    funext n m i
    rw [State.spareOf, State.spareOf, State.segRec_congr hcs]
  funext g
  rw [State.splitGroup, State.splitGroup, spare, State.segRec_congr hcs]

end Records

/-- The targets that a recompute hands on are those of the records as judged. -/
theorem State.newTargets_follow {s t : State} (hcs : t.cs = s.cs) (hg : t.ad.groups = flagged s.ad.groups)
    (ht : t.ad.targets = s.newTargets) : t.TargetsFollow := by
  have split (g : AdGroup) :
      t.splitGroup { g with short := decide (g.alloc < g.qvent) } = s.splitGroup g := by
    rw [State.splitGroup_congr hcs]
    rfl
  intro i
  rw [State.configured_congr hcs, ht, State.newTargets, Four.get_mapIdx]
  refine ⟨fun hc => by simp [hc], fun hc g hmem hi only => ?_⟩
  rw [if_pos hc]
  rw [hg] at hmem only
  obtain ⟨g0, hg0, rfl⟩ := List.mem_map.mp hmem
  refine foldl_set_get (p := fun n => (i, n) ∈ t.splitGroup _) (fun x hx hxi => ?_) (.inl ?_)
  · obtain ⟨g1, hg1, hx⟩ := List.mem_flatMap.mp hx
    subst hxi
    have covers : segHas g1.segs x.1 = true := State.mem_splitGroup_seg.mp ⟨x, hx, rfl⟩
    have same := only _ (List.mem_map.mpr ⟨g1, hg1, rfl⟩) covers
    rw [← same, split]
    exact hx
  · obtain ⟨x, hx, hxi⟩ := (State.mem_splitGroup_seg (s := s)).mpr (show segHas g0.segs i = true from hi)
    exact ⟨x, List.mem_flatMap.mpr ⟨g0, hg0, hx⟩, hxi⟩

/-! ### Notices of a recompute -/

/-- The judgement's notices, from the flag each record had and the record as it now is. -/
theorem airNotices_withAllocs {groups : List AdGroup} {allocs : List Nat} (h : allocs.length = groups.length)
    (grant : Nat) :
    (withAllocs groups allocs).flatMap (fun g => airNotices grant g.short g) =
      (groups.zip (flagged (withAllocs groups allocs))).flatMap fun p => airNotices grant p.1.short p.2 := by
  induction groups generalizing allocs with
  | nil => rfl
  | cons g groups ih =>
    cases allocs with
    | nil => simp at h
    | cons n allocs =>
      have rest := ih (allocs := allocs) (by simpa using h)
      simp only [withAllocs, flagged, List.zip_cons_cons, List.map_cons, List.flatMap_cons] at rest ⊢
      rw [rest]
      rfl

/-- The flags a list of records had, looked up by their sets. -/
theorem airNotices_by_segs {groups now : List AdGroup} {was : Segs → Bool}
    (hs : now.map (·.segs) = groups.map (·.segs)) (hw : ∀ g ∈ groups, g.short = was g.segs) (grant : Nat) :
    (groups.zip now).flatMap (fun p => airNotices grant p.1.short p.2) =
      now.flatMap fun g => airNotices grant (was g.segs) g := by
  induction groups generalizing now with
  | nil =>
    obtain rfl : now = [] := by simpa using hs
    rfl
  | cons g groups ih =>
    cases now with
    | nil => rfl
    | cons x now =>
      obtain ⟨hx, hs⟩ : x.segs = g.segs ∧ now.map (·.segs) = groups.map (·.segs) := List.cons.inj hs
      rw [List.zip_cons_cons, List.flatMap_cons, List.flatMap_cons,
        ih hs fun y hy => hw y (List.mem_cons_of_mem _ hy), hw g List.mem_cons_self, ← hx]

/-! ### The recompute -/

/-- What the division and the judgement leave of a record. -/
def AdGroup.demand (g : AdGroup) : Segs × Nat × Nat × Nat × Nat := (g.segs, g.qd, g.qmin, g.qvent, g.qmax)

/-- A recompute (R136 to R140), in SERVICE that of R142. -/
structure State.Recomputed (s t : State) : Prop where
  frame : t = { s with ad := t.ad, nq := t.nq }
  kept : t.ad = { s.ad with total := t.ad.total, groups := t.ad.groups, targets := t.ad.targets }
  demand : t.ad.groups.map AdGroup.demand = s.ad.groups.map AdGroup.demand
  run : s.inRun = true →
    t.ad.total = max (sumOf (·.qmin) s.ad.groups) (sumOf (·.qd) s.ad.groups * s.ad.grant / 1000) ∧
    t.ad.groups.map (·.alloc) = allocations t.ad.total s.ad.groups ∧ t.TargetsFollow ∧
    (∀ g ∈ t.ad.groups, g.short = decide (g.alloc < g.qvent)) ∧
    t.nq = (s.notifyAll ((s.ad.groups.zip t.ad.groups).flatMap fun p =>
      airNotices s.ad.grant p.1.short p.2)).nq
  service : s.inRun = false → t.ad.total = sumOf (·.qmin) s.ad.groups ∧
    (∀ g ∈ t.ad.groups, g.alloc = g.qmin) ∧ t.ad.groups.map (·.short) = s.ad.groups.map (·.short) ∧
    t.nq = s.nq ∧ ∀ i, t.ad.targets.get i = if s.configured i then (s.segRec i).airMin else 0

theorem State.recompute_of_run {s : State} (h : s.inRun = true) :
    let total := grantedTotal (sumOf (·.qd) s.ad.groups) (sumOf (·.qmin) s.ad.groups) s.ad.grant
    let given := withAllocs s.ad.groups (allocations total s.ad.groups)
    s.recompute = ({ s with ad := { s.ad with
      total := total
      groups := flagged given
      targets := State.newTargets { s with ad := { s.ad with total := total, groups := given } } } } :
        State).notifyAll (given.flatMap fun g => airNotices s.ad.grant g.short g) := by
  intro total given
  have flags : (given.map (judgeShort s.ad.grant)).map (fun p => p.1) = flagged given := by
    rw [List.map_map]
    exact List.map_congr_left fun g _ => judgeShort_fst s.ad.grant g
  have notices : (given.map (judgeShort s.ad.grant)).flatMap (fun p => p.2) =
      given.flatMap fun g => airNotices s.ad.grant g.short g := by
    simp only [List.flatMap_map, judgeShort_notices]
  rw [← flags, ← notices]
  simp only [State.recompute, h, if_true]
  rfl

theorem State.recompute_of_service {s : State} (h : s.inRun = false) :
    s.recompute = { s with ad := { s.ad with
      total := sumOf (·.qmin) s.ad.groups
      groups := withAllocs s.ad.groups (s.ad.groups.map (·.qmin))
      targets := s.minimaTargets } } := by
  simp only [State.recompute, h, Bool.false_eq_true, if_false]
  rfl

theorem State.recompute_recomputed (s : State) : s.Recomputed s.recompute := by
  cases h : s.inRun with
  | true =>
    rw [State.recompute_of_run h]
    generalize htotal : grantedTotal (sumOf (·.qd) s.ad.groups) (sumOf (·.qmin) s.ad.groups) s.ad.grant = total
    have len := allocations_length' total s.ad.groups
    generalize hgiven : withAllocs s.ad.groups (allocations total s.ad.groups) = given
    rw [State.notifyAll_frame]
    refine ⟨rfl, rfl, ?_, fun _ => ⟨htotal ▸ rfl, ?_, ?_, ?_, ?_⟩, fun hr => by simp [hr] at h⟩
    · show (flagged given).map AdGroup.demand = _
      rw [flagged, List.map_map, ← hgiven]
      exact withAllocs_map (fun _ _ => rfl) len
    · show (flagged given).map (·.alloc) = _
      rw [flagged, List.map_map, ← hgiven]
      exact withAllocs_map_alloc len
    · exact State.newTargets_follow (s := { s with ad := { s.ad with total := total, groups := given } })
        rfl rfl rfl
    · intro g hg
      obtain ⟨x, -, rfl⟩ := List.mem_map.mp hg
      rfl
    · rw [← hgiven, airNotices_withAllocs len]
      refine State.notifyAll_nq (s := s) (ns := ?_) ?_ ?_ <;> rfl
  | false =>
    rw [State.recompute_of_service h]
    have len : (s.ad.groups.map (·.qmin)).length = s.ad.groups.length := List.length_map ..
    refine ⟨rfl, rfl, withAllocs_map (fun _ _ => rfl) len, fun hr => by simp [hr] at h,
      fun _ => ⟨rfl, fun g hg => ?_, withAllocs_map (fun _ _ => rfl) len, rfl, fun i => ?_⟩⟩
    · obtain ⟨x, -, rfl⟩ : ∃ x ∈ s.ad.groups, { x with alloc := x.qmin } = g := by
        simpa [withAllocs_self] using hg
      rfl
    · exact Four.get_mapIdx ..

/-! ### The grant (R134, R135) and the demand update (R132) -/

/-- What a recompute under a new grant owes, whatever wrapper it runs in: `v` differs from `s` in AD's grant,
source and age, and in what AD does not read. -/
theorem State.Recomputed.divided {s v u : State} (re : v.Recomputed u) (hcs : v.cs = s.cs) (htb : v.tb = s.tb)
    (hnq : v.nq = s.nq) (hg : v.ad.groups = s.ad.groups) :
    u.ad.groups.map AdGroup.demand = s.ad.groups.map AdGroup.demand ∧
    (s.inRun = true →
      u.ad.total = max (sumOf (·.qmin) s.ad.groups) (sumOf (·.qd) s.ad.groups * u.ad.grant / 1000) ∧
      u.ad.groups.map (·.alloc) = allocations u.ad.total s.ad.groups ∧ u.TargetsFollow ∧
      (∀ g ∈ u.ad.groups, g.short = decide (g.alloc < g.qvent)) ∧
      u.nq = (s.notifyAll ((s.ad.groups.zip u.ad.groups).flatMap fun p =>
        airNotices u.ad.grant p.1.short p.2)).nq) ∧
    (s.inRun = false → u.ad.total = sumOf (·.qmin) s.ad.groups ∧ (∀ g ∈ u.ad.groups, g.alloc = g.qmin) ∧
      u.ad.groups.map (·.short) = s.ad.groups.map (·.short) ∧ u.nq = s.nq ∧
      ∀ i, u.ad.targets.get i = if s.configured i then (s.segRec i).airMin else 0) := by
  have grant : u.ad.grant = v.ad.grant := by rw [re.kept]
  have mode : v.inRun = s.inRun := by rw [State.inRun, State.inRun, hcs]
  have run := re.run
  have service := re.service
  rw [mode, hg] at run service
  rw [State.configured_congr hcs, State.segRec_congr hcs, hnq] at service
  rw [grant, ← State.notifyAll_nq hnq htb]
  exact ⟨hg ▸ re.demand, run, service⟩

/-- Settles O22: both set the grant and recompute. -/
theorem grantAndItsExpiryRecompute : Obligations.GrantAndItsExpiryRecompute := by
  intro s ha qd qmin shape divided
  refine ⟨fun hh g => ?_, fun hage => ?_⟩
  · have hs : s.TakesRequest := ⟨ha, hh⟩
    have re := State.recompute_recomputed { s.hold 0x41 with ad :=
      { s.ad with grant := min 1000 g, source := .plant, age := some (Config.seconds 600) } }
    have parts := re.divided (s := s) rfl rfl rfl rfl
    obtain ⟨frame, kept, -, -, -⟩ := re
    have act : s.request 0x41 (State.grantRequest g) = (fun u : State =>
        (putReply 0x41 (u, .ok, be 2 u.ad.grant ++ be 2 u.ad.total)).drive)
          (State.recompute { s.hold 0x41 with ad :=
            { s.ad with grant := min 1000 g, source := .plant, age := some (Config.seconds 600) } }) :=
      State.request_taken hs _ _
    refine ⟨_, congrArg Host.Outcome.next act, ?_⟩
    generalize State.recompute _ = u at frame kept parts ⊢
    obtain ⟨ad, nq, rfl⟩ : ∃ ad nq, u = { s.hold 0x41 with ad := ad, nq := nq } := ⟨_, _, frame⟩
    have given : ad.grant = min 1000 g ∧ ad.source = .plant ∧ ad.age = some 12000 := by
      change ad = _ at kept
      rw [kept]
      exact ⟨rfl, rfl, rfl⟩
    obtain ⟨demand, run, service⟩ := parts
    exact ⟨given.1, given.2.1, given.2.2, ⟨demand, run, service⟩, rfl, rfl, rfl⟩
  · have re := State.recompute_recomputed { s.take .grantAgeExpiry with ad :=
      { s.ad with grant := 1000, source := .default, age := none } }
    have parts := re.divided (s := s) rfl rfl rfl rfl
    obtain ⟨frame, kept, -, -, -⟩ := re
    have act : State.event s .grantAgeExpiry (fun s =>
        if s.ad.age.isSome then
          ({ s with ad := { s.ad with grant := 1000, source := .default, age := none } }).recompute
        else s) = (State.recompute { s.take .grantAgeExpiry with ad :=
      { s.ad with grant := 1000, source := .default, age := none } }).drive := by
      rw [State.event_taken ha]
      exact congrArg State.drive (if_pos hage)
    refine ⟨_, congrArg Host.Outcome.next act, ?_⟩
    generalize State.recompute _ = u at frame kept parts ⊢
    obtain ⟨ad, nq, rfl⟩ : ∃ ad nq, u = { s.take .grantAgeExpiry with ad := ad, nq := nq } := ⟨_, _, frame⟩
    have given : ad.grant = 1000 ∧ ad.source = .default ∧ ad.age = none := by
      change ad = _ at kept
      rw [kept]
      exact ⟨rfl, rfl, rfl⟩
    obtain ⟨demand, run, service⟩ := parts
    exact ⟨given.1, given.2.1, given.2.2, ⟨demand, run, service⟩, rfl, rfl⟩

/-- The records that a demand update forms (R132), before the recompute. -/
def State.demanded (s : State) (figs : List DemandFig) : List AdGroup :=
  figs.map fun f => { (s.adGroup? f.segs).getD (s.provisional f.segs) with
    qd := f.qd, qmin := f.qmin, qvent := f.qvent, qmax := s.maxOf f.segs }

/-- A record formed for a set is of that set, and keeps the flag of the record that stood. -/
theorem State.adGroup?_getD (s : State) (g : Segs) :
    ((s.adGroup? g).getD (s.provisional g)).segs = g ∧
    ((s.adGroup? g).getD (s.provisional g)).short =
      (s.ad.groups.find? fun x => x.segs == g).any (·.short) := by
  unfold State.adGroup?
  cases h : s.ad.groups.find? fun x => x.segs == g with
  | none => exact ⟨rfl, rfl⟩
  | some r => exact ⟨by simpa using List.find?_some h, rfl⟩

/-- Settles O25: the records are formed and recomputed, and the judgement read off. -/
theorem demandUpdateFormsRecordsAndJudgesShortage : Obligations.DemandUpdateFormsRecordsAndJudgesShortage := by
  refine ⟨fun s figs ha => ?_, fun grant g => ?_⟩
  · have re := State.recompute_recomputed { s.take (.demandUpdate figs) with ad := { s.ad with
      groups := s.demanded figs, exitUpdate := s.ad.exitUpdate || s.al.exitFigs == some figs } }
    obtain ⟨frame, kept, demand, run, service⟩ := re
    have act : s.event (.demandUpdate figs) (fun s => s.takeDemand figs) = (State.recompute
      { s.take (.demandUpdate figs) with ad := { s.ad with
        groups := s.demanded figs
        exitUpdate := s.ad.exitUpdate || s.al.exitFigs == some figs } }).drive := State.event_taken ha _ _
    refine ⟨_, congrArg Host.Outcome.next act, ?_⟩
    generalize State.recompute _ = u at frame kept demand run service ⊢
    obtain ⟨ad, nq, rfl⟩ : ∃ ad nq, u = { s.take (.demandUpdate figs) with ad := ad, nq := nq } :=
      ⟨_, _, frame⟩
    change ad = _ at kept
    change ad.groups.map AdGroup.demand = (s.demanded figs).map AdGroup.demand at demand
    have formed : (s.demanded figs).map AdGroup.demand =
        figs.map fun f => (f.segs, f.qd, f.qmin, f.qvent, s.maxOf f.segs) := by
      simp only [State.demanded, List.map_map]
      refine List.map_congr_left fun f _ => ?_
      simp only [Function.comp, AdGroup.demand, (s.adGroup?_getD f.segs).1]
    have figures : ad.groups.map (fun g => (⟨g.segs, g.qd, g.qmin, g.qvent⟩ : DemandFig)) = figs := by
      have := congrArg (List.map fun (d : Segs × Nat × Nat × Nat × Nat) =>
        (⟨d.1, d.2.1, d.2.2.1, d.2.2.2.1⟩ : DemandFig)) (demand.trans formed)
      simpa [Function.comp_def, AdGroup.demand] using this
    have sums (f : AdGroup → Nat) (k : DemandFig → Nat)
        (h : ∀ (x : AdGroup) (y : DemandFig), f { x with qd := y.qd, qmin := y.qmin, qvent := y.qvent, qmax := s.maxOf y.segs } = k y) :
        sumOf f (s.demanded figs) = (figs.map k).sum := by
      simp only [sumOf, State.demanded, List.map_map, Function.comp_def, h]
    have maxima : ∀ g ∈ ad.groups, g.qmax = s.maxOf g.segs := by
      intro g hg
      have hd : AdGroup.demand g ∈ figs.map fun f => (f.segs, f.qd, f.qmin, f.qvent, s.maxOf f.segs) := by
        rw [← formed, ← demand]
        exact List.mem_map_of_mem hg
      obtain ⟨f, -, hf⟩ := List.mem_map.mp hd
      simp only [AdGroup.demand, Prod.mk.injEq] at hf
      rw [← hf.1, hf.2.2.2.2]
    refine ⟨figures, maxima, fun hr => ?_, fun hr => ?_, ?_, rfl, rfl⟩
    · obtain ⟨total, allocs, targets, short, nq_eq⟩ := run hr
      refine ⟨?_, ?_, targets, short, ?_⟩
      · rw [← sums (·.qmin) (·.qmin) fun _ _ => rfl, ← sums (·.qd) (·.qd) fun _ _ => rfl]
        exact total
      · refine Eq.trans allocs (allocations_congr ?_)
        have := congrArg (List.map fun (d : Segs × Nat × Nat × Nat × Nat) =>
          (⟨⟨0, 0⟩, d.2.1, d.2.2.1, 0, 0, 0, false⟩ : AdGroup)) demand.symm
        rw [List.map_map, List.map_map] at this
        exact this
      · have segs : ad.groups.map (·.segs) = (s.demanded figs).map (·.segs) := by
          have := congrArg (List.map Prod.fst) demand
          simpa [Function.comp_def, AdGroup.demand] using this
        have was : ∀ g ∈ s.demanded figs,
            g.short = (s.ad.groups.find? fun x => x.segs == g.segs).any (·.short) := by
          intro g hg
          obtain ⟨f, -, rfl⟩ := List.mem_map.mp hg
          obtain ⟨set, flag⟩ := s.adGroup?_getD f.segs
          simp only [set, flag]
        have notices := airNotices_by_segs (was := fun g =>
          (s.ad.groups.find? fun x => x.segs == g).any (·.short)) segs was s.ad.grant
        exact (nq_eq.trans (State.notifyAll_nq (s := s) (by rfl) (by rfl) _)).trans
          (congrArg (fun ns => (s.notifyAll ns).nq) notices)
    · obtain ⟨total, allocs, -, nq_eq, targets⟩ := service hr
      refine ⟨?_, allocs, targets, nq_eq⟩
      rw [← sums (·.qmin) (·.qmin) fun _ _ => rfl]
      exact total
    · show (ad.grant, ad.source, ad.age) = _
      rw [kept]
  · refine Prod.ext (judgeShort_fst grant g) ?_
    rw [judgeShort_notices]
    rfl

end Sys2Proof.Machine

/-! Frames that are refused or not taken, and what a panel frame's wrapper makes of its owner's answer. -/

namespace Sys2Proof.Machine

/-! ### Requests of a wrong length, and arrivals that are not taken (R171, R172, R184) -/

theorem State.request_badLength {α : Type} {s : State} (hs : s.TakesRequest) (ho : s.OutputsFollow)
    (code n : Nat) (owner : α → State → Answered) :
    s.request code (ofReq (.wrongLength n) owner) = s.replied code .badLength [] :=
  State.request_replied hs ho rfl rfl rfl

/-- Settles O31. -/
theorem wingRefusesUnknownFunctionAndLength : Obligations.WingRefusesUnknownFunctionAndLength := by
  intro s n hs ho
  have short {α : Type} (code : Nat) (owner : α → State → Answered) :=
    congrArg (Host.Outcome.next (φ := Fault) (ρ := Refusal))
      (State.request_badLength hs ho code n owner)
  exact ⟨fun code => congrArg Host.Outcome.next (State.request_replied hs ho rfl rfl rfl),
    short .., short .., short .., short .., short .., short .., short .., short .., short .., short ..,
    short .., short .., short .., short .., short .., short .., short .., short .., short .., short ..,
    congrArg Host.Outcome.next (State.request_replied (code := 0x5F) (act := fun s => refuse s .badLength)
      hs ho rfl rfl rfl)⟩

theorem State.broadcastTime_skipped {s : State} (h : ¬ s.TakesRequest) (p : Req (Nat × Nat)) :
    s.broadcastTime p = s := by
  have deaf : (s.alive && s.wp.held.isNone) = false := by
    cases ha : s.alive <;> cases hh : s.wp.held <;> simp_all [State.TakesRequest]
  simp only [State.broadcastTime, deaf, Bool.false_eq_true, if_false]

theorem State.restartRequest_skipped {s : State} (h : ¬ s.TakesRequest) (p : Req Unit) :
    s.restartRequest p = s := by
  cases p with
  | wrongLength n => exact State.request_skipped h 0x5F fun s => refuse s .badLength
  | fields u =>
    have deaf : (s.alive && s.wp.held.isNone) = false := by
      cases ha : s.alive <;> cases hh : s.wp.held <;> simp_all [State.TakesRequest]
    simp only [State.restartRequest, deaf, Bool.false_eq_true, if_false]

/-- Settles O32: each row of a request runs in the wrapper of a request, each panel frame in that of a panel. -/
theorem nothingTakenWhileBusyOrDown : Obligations.NothingTakenWhileBusyOrDown := by
  intro c s
  refine ⟨fun wing busy => ?_, fun f hf busy => ?_⟩
  · cases c with
    | timeSet broadcast p =>
      cases broadcast with
      | false => exact congrArg Host.Outcome.next (State.request_skipped busy _ _)
      | true => exact congrArg Host.Outcome.next (State.broadcastTime_skipped busy p)
    | restart p => exact congrArg Host.Outcome.next (State.restartRequest_skipped busy p)
    | bookAdd p | bookChange p | bookCancel p | bookFind p | bookFirst p | bookNext p | loadOpen p
    | loadEntry p | loadClose p | loadAbort p | suiteRead p | noticeTake p | demandRead p | grant p
    | modeSetService p | modeSetRun p | modeSetLock p | commissionRead p | commissionWrite p
    | unknownFunction p => exact congrArg Host.Outcome.next (State.request_skipped busy _ _)
    | _ => cases wing
  · cases c with
    | panelBegin i | panelEnd i | panelExtend i _ | panelHeadcount i _ | panelAdjust i _ | panelScene i _
    | panelRestore i | blindTarget i _ _ | blindStop i _ | blindAuto i _ | panelStatus i | upcomingFirst i
    | upcomingNext i | panelFrameRefused i _ _ =>
      exact congrArg Host.Outcome.next (State.panel_skipped busy _ _ _)
    | _ => cases hf

/-! ### The press (R99, R183) -/

/-- A press moves BT, OT and the reports, and reads nothing of the link. -/
theorem State.presence_frame (s : State) (i : Seg) :
    s.presence i = { s with
      bt := (s.presence i).bt, ot := (s.presence i).ot, reports := (s.presence i).reports } := by
  unfold State.presence
  split <;> rfl

theorem State.echoFrame_presence (s : State) (bytes : List Byte) (i : Seg) :
    (s.echoFrame bytes).presence i = (s.presence i).echoFrame bytes := by
  by_cases h : s.configured i = true
  · simp only [State.presence, show (s.echoFrame bytes).configured i = true from h, h, if_true]
    rfl
  · rw [State.presence, State.presence, if_neg h, if_neg (show ¬ (s.echoFrame bytes).configured i = true from h)]

/-- A panel frame's owner answers the state after the press; the reply waits and the outputs follow. -/
theorem State.panel_answered {s u : State} {i : Seg} (h : s.TakesPanel i) {bytes : List Byte}
    {act : State → Answered} {r : Reason} {payload : List Byte}
    (ha : act ((s.presence i).echoFrame bytes) = (u.echoFrame bytes, r, payload)) :
    s.panel i bytes act = (u.panelReplied bytes r payload).drive := by
  rw [State.panel_taken h, State.echoFrame_presence, ha]
  rfl

/-- The press touches nothing that is driven. -/
theorem State.presence_drive_os (s : State) (i : Seg) : (s.presence i).drive.os = s.drive.os := by
  rw [s.presence_frame i]
  rfl

/-- A panel frame whose owner touches no figure that is driven. -/
theorem State.panel_replied {s u : State} {i : Seg} (h : s.TakesPanel i) (ho : s.OutputsFollow)
    {bytes : List Byte} {act : State → Answered} {r : Reason} {payload : List Byte}
    (ha : act ((s.presence i).echoFrame bytes) = (u.echoFrame bytes, r, payload)) (hos : u.os = s.os)
    (hd : u.drive.os = s.drive.os) : s.panel i bytes act = u.panelReplied bytes r payload := by
  rw [State.panel_answered h ha]
  exact State.drive_eq_self h.1.1 ho hos hd

theorem State.presence_os (s : State) (i : Seg) : (s.presence i).os = s.os := by
  rw [s.presence_frame i]

/-- A refusal, or an answer that moves nothing: only the press takes effect. -/
theorem State.panel_still {s : State} {i : Seg} (h : s.TakesPanel i) (ho : s.OutputsFollow)
    {bytes : List Byte} {act : State → Answered} {r : Reason} {payload : List Byte}
    (ha : act ((s.presence i).echoFrame bytes) = ((s.presence i).echoFrame bytes, r, payload)) :
    s.panel i bytes act = (s.presence i).panelReplied bytes r payload :=
  State.panel_replied h ho ha (s.presence_os i) (s.presence_drive_os i)

theorem inRunOnly_run {s : State} (h : s.inRun = true) (act : State → Answered) : inRunOnly act s = act s :=
  if_pos h

theorem inRunOnly_service {s : State} (h : s.inRun = false) (act : State → Answered) :
    inRunOnly act s = refuse s .wrongMode :=
  if_neg (by simp [h])

theorem State.presence_inRun (s : State) (i : Seg) : (s.presence i).inRun = s.inRun := by
  rw [s.presence_frame i]
  rfl

/-! ### Frames by their bytes (R183) -/

/-- A frame's bytes name its command and its payload. -/
theorem frameBytes_inj {i j : Seg} {code code' : Nat} {payload payload' : List Byte} (hc : code < 256)
    (hc' : code' < 256) (h : frameBytes i code payload = frameBytes j code' payload') :
    code = code' ∧ payload = payload' := by
  obtain ⟨-, hcode, -, hpay⟩ : byteOf ((0xA0 + i) / 256 ^ 0) = byteOf ((0xA0 + j) / 256 ^ 0) ∧
      byteOf (code / 256 ^ 0) = byteOf (code' / 256 ^ 0) ∧
      byteOf (payload.length / 256 ^ 0) = byteOf (payload'.length / 256 ^ 0) ∧ payload = payload' := by
    simpa [frameBytes, be] using h
  refine ⟨?_, hpay⟩
  have := congrArg BitVec.toNat hcode
  simp only [byteOf_toNat, Nat.pow_zero, Nat.div_one] at this
  omega

theorem panelLength_lt {code n : Nat} (h : panelLength code = some n) : code < 256 := by
  by_contra big
  have none : panelLength code = none := by
    unfold panelLength
    split <;> first | rfl | omega
  simp [none] at h

/-- A signed byte is read back from its two's complement. -/
theorem signedOf_beInt {d : Int} (low : -128 ≤ d) (high : d ≤ 127) :
    signedOf 1 (unbe (beInt 1 d)) = d := by
  have wide : (d % (256 ^ 1 : Int)).toNat < 256 ^ 1 := by omega
  rw [beInt, unbe_be wide]
  unfold signedOf
  split <;> omega

theorem unbe_byte {n : Nat} (h : n < 256) : unbe (be 1 n) = n := unbe_be h

/-- The answer to a frame of the list that carries a payload of its length is that of its command. -/
theorem frameAnswer_routed {i : Seg} {code : Nat} {payload : List Byte}
    (h : panelLength code = some payload.length) : frameAnswer i code payload = routed i code payload := by
  funext s
  simp only [frameAnswer, h, if_true]

/-- What a frame refused or routed by its bytes does is what the row of its command does. -/
theorem exec_panelFrameRefused {i : Seg} {code : Nat} {payload : List Byte}
    (h : panelLength code = some payload.length) (s : State) :
    exec (.panelFrameRefused i code payload) s =
      .next (s.panel i (frameBytes i code payload) (routed i code payload)) := by
  rw [← frameAnswer_routed h]
  rfl

/-- A row and a frame of its bytes meet the same owner with the same operands. -/
theorem exec_eq_routed {s : State} {c : Instr} {i : Seg} {code : Nat} {payload : List Byte} (wf : c.wf = true)
    (hf : panelFrame? c = some (i, frameBytes i code payload))
    (hl : panelLength code = some payload.length) :
    exec c s = .next (s.panel i (frameBytes i code payload) (routed i code payload)) := by
  have small := panelLength_lt hl
  cases c with
  | panelBegin j | panelEnd j | panelRestore j | panelStatus j | upcomingFirst j | upcomingNext j =>
    obtain ⟨rfl, hb⟩ := Prod.mk.inj (Option.some.inj hf)
    obtain ⟨rfl, rfl⟩ := frameBytes_inj (by decide) small hb
    rfl
  | panelExtend j m | panelScene j m =>
    obtain ⟨rfl, hb⟩ := Prod.mk.inj (Option.some.inj hf)
    obtain ⟨rfl, rfl⟩ := frameBytes_inj (by decide) small hb
    have read : unbe (be 1 m) = m := unbe_be (of_decide_eq_true wf)
    simp only [routed, read]
    rfl
  | panelHeadcount j n =>
    obtain ⟨rfl, hb⟩ := Prod.mk.inj (Option.some.inj hf)
    obtain ⟨rfl, rfl⟩ := frameBytes_inj (by decide) small hb
    have read : unbe (be 2 n) = n := unbe_be (of_decide_eq_true wf)
    simp only [routed, read]
    rfl
  | panelAdjust j d =>
    obtain ⟨rfl, hb⟩ := Prod.mk.inj (Option.some.inj hf)
    obtain ⟨rfl, rfl⟩ := frameBytes_inj (by decide) small hb
    have range : -128 ≤ d ∧ d < 128 := by simpa [Instr.wf, fitsSigned] using wf
    simp only [routed, signedOf_beInt range.1 (by omega)]
    rfl
  | blindTarget j r n =>
    obtain ⟨rfl, hb⟩ := Prod.mk.inj (Option.some.inj hf)
    obtain ⟨rfl, rfl⟩ := frameBytes_inj (by decide) small hb
    obtain ⟨⟨⟨hr, h1⟩, h2⟩, hn⟩ : ((r < 256 ∧ r ≠ 1) ∧ r ≠ 2) ∧ n < 65536 := by
      simpa [Instr.wf, fits] using wf
    have request : unbe ((be 1 r ++ be 2 n).take 1) = r := unbe_byte hr
    have target : unbe ((be 1 r ++ be 2 n).drop 1) = n := unbe_be (k := 2) hn
    have owner : State.blindFrame j (be 1 r ++ be 2 n) = State.blindTo j r n := by
      funext s
      simp only [State.blindFrame, request, target]
    simp only [routed, owner]
    rfl
  | blindStop j n | blindAuto j n =>
    obtain ⟨rfl, hb⟩ := Prod.mk.inj (Option.some.inj hf)
    obtain ⟨rfl, rfl⟩ := frameBytes_inj (by decide) small hb
    rfl
  | panelFrameRefused j code' payload' =>
    obtain ⟨rfl, hb⟩ := Prod.mk.inj (Option.some.inj hf)
    have code_small : code' < 256 := by
      obtain ⟨h, -⟩ : code' < 256 ∧ payload'.length ≤ 6 := by simpa [Instr.wf, fits] using wf
      exact h
    obtain ⟨rfl, rfl⟩ := frameBytes_inj code_small small hb
    exact exec_panelFrameRefused hl s
  | _ => cases hf

/-- Settles O35: the wrapper's checks, the routing by bytes, and the refusal in SERVICE. -/
theorem panelFramesRefusedInOrder : Obligations.PanelFramesRefusedInOrder := by
  refine ⟨fun s hears ho => ⟨fun c i bytes hf hc => ?_, fun i code payload hc => ⟨fun hn => ?_, fun n hn hl => ?_⟩⟩,
    fun s c i code payload wf hf hl => ?_, fun c s i bytes hs ho hf refused service => ?_⟩
  · cases c with
    | panelBegin j | panelEnd j | panelExtend j _ | panelHeadcount j _ | panelAdjust j _ | panelScene j _
    | panelRestore j | blindTarget j _ _ | blindStop j _ | blindAuto j _ | panelStatus j | upcomingFirst j
    | upcomingNext j | panelFrameRefused j _ _ =>
      obtain ⟨rfl, rfl⟩ := Prod.mk.inj (Option.some.inj hf)
      exact congrArg Host.Outcome.next (State.panel_unconfigured hears hc _ _)
    | _ => cases hf
  · have answer : frameAnswer i code payload ((s.presence i).echoFrame (frameBytes i code payload)) =
        refuse ((s.presence i).echoFrame (frameBytes i code payload)) .unknownFunction := by simp only [frameAnswer, hn]
    exact congrArg Host.Outcome.next (State.panel_still ⟨hears, hc⟩ ho answer)
  · have answer : frameAnswer i code payload ((s.presence i).echoFrame (frameBytes i code payload)) =
        refuse ((s.presence i).echoFrame (frameBytes i code payload)) .badLength := by simp only [frameAnswer, hn, hl, if_false]
    exact congrArg Host.Outcome.next (State.panel_still ⟨hears, hc⟩ ho answer)
  · rw [exec_eq_routed wf hf hl, exec_panelFrameRefused hl]
  · have service' : ((s.presence i).echoFrame bytes).inRun = false := (s.presence_inRun i).trans service
    have wrongMode (act : State → Answered) : Host.Outcome.next (s.panel i bytes (inRunOnly act)) =
        (.next ((s.presence i).panelReplied bytes .wrongMode []) : Host.Outcome State Fault Refusal) :=
      congrArg Host.Outcome.next (State.panel_still hs ho (inRunOnly_service service' act))
    cases c with
    | panelBegin j | panelEnd j | panelExtend j _ | panelHeadcount j _ | panelAdjust j _ | panelScene j _
    | panelRestore j | blindTarget j _ _ | blindStop j _ | blindAuto j _ =>
      obtain ⟨rfl, rfl⟩ := Prod.mk.inj (Option.some.inj hf)
      exact wrongMode _
    | _ => cases refused

end Sys2Proof.Machine

/-! The panel commands of BT, and the reads: each owner's answer on the state after the press, in the cases of
the statements; the loops that a moved setpoint concerns. -/

namespace Sys2Proof.Machine

/-! ### The state after a press -/

/-- The press keeps every fixed field. -/
theorem State.presence_fixes (s : State) (i : Seg) :
    (s.presence i).bt.table.map (·.fix) = s.bt.table.map (·.fix) := by
  unfold State.presence
  split
  · exact State.mapEveryVolatile_fixes _ _
  · rfl

/-- Of BT the press moves the table alone. -/
theorem State.presence_bt (s : State) (i : Seg) :
    (s.presence i).bt = { s.bt with table := (s.presence i).bt.table } := by
  unfold State.presence
  split <;> rfl

/-- Of a segment the press moves the timer alone. -/
theorem State.presence_covered (s : State) (i j : Seg) :
    ((s.presence i).ot.segs.get j).covered = (s.ot.segs.get j).covered := by
  unfold State.presence
  split
  · by_cases h : j = i
    · subst h
      exact (congrArg Occ.covered (Four.get_set_same s.ot.segs j _)).trans rfl
    · exact congrArg Occ.covered (Four.get_set_other _ _ h)
  · rfl

/-- A press as a change of BT's table, of OT and of the reports, and what a panel frame then does whose owner
touches nothing that is driven. -/
theorem State.panel_pressed_any {s : State} {i : Seg} (hs : s.TakesPanel i) (ho : s.OutputsFollow) :
    ∃ table ot reports,
    s.presence i = { s with bt := { s.bt with table := table }, ot := ot, reports := reports } ∧
    table.map (·.fix) = s.bt.table.map (·.fix) ∧
    (∀ j, (ot.segs.get j).covered = (s.ot.segs.get j).covered) ∧
    ∀ {act : State → Answered} {bytes : List Byte} {u : State} {r : Reason} {payload : List Byte},
      act (State.echoFrame
        { s with bt := { s.bt with table := table }, ot := ot, reports := reports } bytes) =
          (u.echoFrame bytes, r, payload) → u.os = s.os → u.drive.os = s.drive.os →
      s.panel i bytes act = u.panelReplied bytes r payload := by
  have frame : s.presence i = { s with
      bt := { s.bt with table := (s.presence i).bt.table }, ot := (s.presence i).ot
      reports := (s.presence i).reports } := by
    rw [← s.presence_bt i]
    exact s.presence_frame i
  exact ⟨_, _, _, frame, s.presence_fixes i, s.presence_covered i,
    fun answer hos hd => State.panel_replied hs ho (frame ▸ answer) hos hd⟩

/-- The same for a command that SERVICE refuses, in RUN. -/
theorem State.panel_pressed {s : State} {i : Seg} (hs : s.TakesPanel i) (ho : s.OutputsFollow)
    (hr : s.inRun = true) : ∃ table ot reports,
    s.presence i = { s with bt := { s.bt with table := table }, ot := ot, reports := reports } ∧
    table.map (·.fix) = s.bt.table.map (·.fix) ∧
    (∀ j, (ot.segs.get j).covered = (s.ot.segs.get j).covered) ∧
    ∀ {act : State → Answered} {bytes : List Byte} {u : State} {r : Reason} {payload : List Byte},
      act (State.echoFrame
        { s with bt := { s.bt with table := table }, ot := ot, reports := reports } bytes) =
          (u.echoFrame bytes, r, payload) → u.os = s.os → u.drive.os = s.drive.os →
      s.panel i bytes (inRunOnly act) = u.panelReplied bytes r payload := by
  obtain ⟨table, ot, reports, frame, fixes, covered, reply⟩ := State.panel_pressed_any hs ho
  exact ⟨table, ot, reports, frame, fixes, covered,
    fun answer hos hd => reply ((if_pos hr).trans answer) hos hd⟩

/-! ### BEGIN (R41, R42) -/

theorem State.activeGovernor_some {s : State} {g : Segs} {e : Entry} (h : governingOf s.bt.table g = some e)
    (ha : isActive e = true) : s.activeGovernor g = some e := by
  rw [State.activeGovernor, h, Option.filter_some, if_pos ha]

theorem State.activeGovernor_none {s : State} {g : Segs}
    (h : ∀ e, governingOf s.bt.table g = some e → isActive e = false) : s.activeGovernor g = none := by
  unfold State.activeGovernor
  cases hg : governingOf s.bt.table g with
  | none => rfl
  | some e => rw [Option.filter_some, if_neg (by simp [h e hg])]

section Begin

variable {s : State} {i : Seg}

theorem State.begin_noClock (h : s.tb.valid = false) : s.begin_ i = refuse s .noClock := by
  simp [State.begin_, h]

theorem State.begin_running {e : Entry} (hv : s.tb.valid = true)
    (h : s.activeGovernor (s.panelGroup i).segs = some e) : s.begin_ i = (s, .ok, be 4 e.fix.ref) := by
  simp [State.begin_, hv, h]

theorem State.begin_ahead {e : Entry} (hv : s.tb.valid = true)
    (h : s.activeGovernor (s.panelGroup i).segs = none) (he : s.toBringForward i = some e) :
    s.begin_ i = if s.bt.table.any (fun x => isActive x && segsMeet (entrySegs x) (entrySegs e)) = true
      then refuse s .conflict else (s.startSession e .panel, .ok, be 4 e.fix.ref) := by
  simp [State.begin_, hv, h, he]

theorem State.begin_adhoc (hv : s.tb.valid = true) (h : s.activeGovernor (s.panelGroup i).segs = none)
    (he : s.toBringForward i = none) : s.begin_ i = s.createAdhoc (s.panelGroup i).segs := by
  simp [State.begin_, hv, h, he]

end Begin

/-- Settles O36: BT's answer in each of its cases, on the state after the press. -/
theorem beginAnswersOrBringsForward : Obligations.BeginAnswersOrBringsForward := by
  intro s i hs ho hr
  obtain ⟨table, ot, reports, hp, -, -, reply⟩ := State.panel_pressed hs ho hr
  rw [hp]
  intro p bytes g
  have ahead : (p.echoFrame bytes).toBringForward i = p.bt.table.find? fun x =>
      segHas (entrySegs x) i && !isActive x && decide (x.fix.start ≤ s.tb.minutes + 30) := rfl
  refine ⟨fun hv => ?_, fun e hv hg ha => ?_, fun e hv hg he => ⟨fun hx => ?_, fun hx => ?_⟩⟩
  · have answer := State.begin_noClock (s := p.echoFrame bytes) (i := i) hv
    exact congrArg Host.Outcome.next (reply answer rfl rfl)
  · have answer := State.begin_running (s := p.echoFrame bytes) (i := i) hv (State.activeGovernor_some hg ha)
    exact congrArg Host.Outcome.next (reply answer rfl rfl)
  · have answer := State.begin_ahead (s := p.echoFrame bytes) hv (State.activeGovernor_none hg) (ahead.trans he)
    exact congrArg Host.Outcome.next (reply (answer.trans (if_pos hx)) rfl rfl)
  · have answer := State.begin_ahead (s := p.echoFrame bytes) hv (State.activeGovernor_none hg) (ahead.trans he)
    have joins := answer.trans (if_neg fun h => Bool.false_ne_true (hx.symm.trans h))
    exact congrArg Host.Outcome.next (reply (u := p.startSession e .panel) joins rfl rfl)

/-! ### An ad-hoc entry (R6, R42) -/

theorem foldl_min_mem (l : List Nat) (a : Nat) : l.foldl min a ∈ a :: l := by
  induction l generalizing a with
  | nil => simp
  | cons b l ih =>
    rw [List.foldl_cons]
    rcases List.mem_cons.mp (ih (min a b)) with h | h
    · rw [h]
      rcases Nat.le_total a b with hab | hab
      · simp [Nat.min_eq_left hab]
      · simp [Nat.min_eq_right hab]
    · exact List.mem_cons_of_mem _ (List.mem_cons_of_mem _ h)

/-- The end of an ad-hoc entry reads the fixed fields alone. -/
theorem State.adhocEnd_congr {s u : State} (hf : u.bt.table.map (·.fix) = s.bt.table.map (·.fix))
    (hn : u.tb = s.tb) (g : Segs) : u.adhocEnd g = s.adhocEnd g := by
  have starts (t : State) : (t.bt.table.filter fun e => segsMeet (entrySegs e) g && t.now < e.fix.stop).map
      (·.fix.start) = ((t.bt.table.map (·.fix)).filter fun f => segsMeet (fixedSegs f) g &&
        t.tb.minutes < f.stop).map (·.start) := by
    rw [List.filter_map, List.map_map]
    rfl
  rw [State.adhocEnd, State.adhocEnd, starts u, starts s, hf, State.now, State.now, hn]

/-- R42: now + 60, or the earliest start among the entries on the group that end ahead. -/
theorem State.adhocEnd_eq_or (s : State) (g : Segs) : s.adhocEnd g = s.tb.minutes + 60 ∨
    ∃ x, (x ∈ s.bt.table ∧ segsMeet (entrySegs x) g = true ∧ s.tb.minutes < x.fix.stop) ∧
      s.adhocEnd g = x.fix.start := by
  rcases List.mem_cons.mp (foldl_min_mem ((s.bt.table.filter fun e => segsMeet (entrySegs e) g &&
    s.now < e.fix.stop).map (·.fix.start)) (s.now + 60)) with h | h
  · exact .inl h
  · obtain ⟨x, hx, eq⟩ := List.mem_map.mp h
    obtain ⟨mem, ok⟩ := List.mem_filter.mp hx
    rw [Bool.and_eq_true, decide_eq_true_eq] at ok
    exact .inr ⟨x, ⟨mem, ok⟩, eq.symm⟩

theorem State.createAdhoc_eq (s : State) (g : Segs) :
    s.createAdhoc g = if s.adhocEnd g < s.tb.minutes + 10 then refuse s .conflict
      else if 128 ≤ s.bt.table.length then refuse s .full
      else (((State.addEntry { s with bt := { s.bt with nextAdhoc := adhocRef s.freeRef 1 } }
          ⟨s.adhocFixed g, adhocVolatile (s.walkIn? g)⟩).startSession
            ⟨s.adhocFixed g, adhocVolatile (s.walkIn? g)⟩ .panel), .ok, be 4 s.freeRef) := by
  rw [State.createAdhoc, judged_cons (by decide), judged_cons (by decide), judged_nil]
  simp only [decide_eq_true_eq]
  rfl

/-- An entry joined under a reference no other holds: a change by that reference is a change of the newcomer. -/
theorem map_insertEntry_fresh {t : List Entry} {f : Fixed} {v : Volatile} (h : ∀ x ∈ t, x.fix.ref ≠ f.ref)
    (change : Volatile → Volatile) :
    (insertEntry ⟨f, v⟩ t).map (fun e => if e.fix.ref == f.ref then { e with vol := change e.vol } else e) =
      insertEntry ⟨f, change v⟩ t := by
  have fixed (x : Entry) : (if x.fix.ref == f.ref then { x with vol := change x.vol } else x).fix = x.fix := by
    split <;> rfl
  have kept : t.map (fun e => if e.fix.ref == f.ref then { e with vol := change e.vol } else e) = t := by
    refine (List.map_congr_left fun x hx => ?_).trans (List.map_id _)
    rw [if_neg (by simpa using h x hx), id]
  rw [insertEntry, map_insertBy _ _ (fun a b => fixedBefore a.fix b.fix) fun x y => by rw [fixed, fixed], kept,
    if_pos (by simp)]
  rfl

/-- Settles O37: the end by R42, the checks in order, and the entry made. -/
theorem beginCreatesAdhocEntry : Obligations.BeginCreatesAdhocEntry := by
  intro s i hs ho hr hv low high
  obtain ⟨table, ot, reports, hp, fixes, -, reply⟩ := State.panel_pressed hs ho hr
  rw [hp]
  intro p bytes g hg none bounds
  have ends : p.adhocEnd g = s.adhocEnd g := State.adhocEnd_congr (s := s) (u := p) fixes rfl g
  have len : table.length = s.bt.table.length := by
    simpa using congrArg List.length fixes
  have refs : table.map (·.fix.ref) = s.bt.table.map (·.fix.ref) := by
    simpa [Function.comp_def] using congrArg (List.map Fixed.ref) fixes
  have not_ahead : (p.echoFrame bytes).toBringForward i = .none := by
    refine List.find?_eq_none.mpr fun x hx => ?_
    rw [Bool.and_eq_true, Bool.and_eq_true, Bool.not_eq_true', decide_eq_true_eq]
    rintro ⟨⟨hseg, hact⟩, hstart⟩
    exact absurd hstart (Nat.not_le.mpr (none x hx hseg hact))
  have answer := State.begin_adhoc (s := p.echoFrame bytes) hv (State.activeGovernor_none hg) not_ahead
  have create := answer.trans (State.createAdhoc_eq (p.echoFrame bytes) g)
  refine ⟨ends ▸ foldl_min_le _ _ _ List.mem_cons_self, fun x ⟨mem, meet, ahead⟩ => ?_, ?_, fun early => ?_,
    fun fits full => ?_, fun fits room => ?_⟩
  · rw [ends]
    exact State.adhocEnd_le mem meet ahead
  · rw [ends]
    exact s.adhocEnd_eq_or g
  · exact congrArg Host.Outcome.next (reply (create.trans (if_pos early)) rfl rfl)
  · replace create := (create.trans (if_neg (Nat.not_lt.mpr fits))).trans
      (if_pos (show 128 ≤ table.length by omega))
    exact congrArg Host.Outcome.next (reply create rfl rfl)
  · replace create := (create.trans (if_neg (Nat.not_lt.mpr fits))).trans
      (if_neg (show ¬ 128 ≤ table.length by omega))
    obtain ⟨k, hk, eq, fresh, taken⟩ := State.freeRef_first (s := p) low high (show table.length < 128 by omega)
    have held {r : Nat} : (∃ x ∈ table, x.fix.ref = r) ↔ ∃ x ∈ s.bt.table, x.fix.ref = r := by
      rw [← List.mem_map, ← List.mem_map, refs]
    have range := adhocRef_cases s.bt.nextAdhoc k
    have next := adhocRef_cases p.freeRef 1
    change p.freeRef = adhocRef s.bt.nextAdhoc k at eq
    refine ⟨p.freeRef, k, hk, eq, by omega, by omega, fun x hx hxr => ?_, fun j hj => held.mp (taken j hj), ?_⟩
    · obtain ⟨y, hy, hyr⟩ := held.mpr ⟨x, hx, hxr⟩
      exact fresh y hy hyr
    · intro f copied v
      have copies : adhocVolatile (p.walkIn? g) = copied := by
        simp only [copied]
        cases p.walkIn? g <;> rfl
      refine ⟨fun w hw => ?_, fun hw => ?_, ?_⟩
      · simp only [v, copied, hw]
        exact ⟨rfl, rfl, rfl⟩
      · simp only [v, copied, hw]
        exact ⟨rfl, rfl, rfl⟩
      · have wrap : (if p.freeRef = 4294967295 then 4294901760 else p.freeRef + 1) = adhocRef p.freeRef 1 := by
          split <;> omega
        have joined := map_insertEntry_fresh (f := f) (v := copied) (t := table) fresh
          (begunVolatile s.comm f s.tb.minutes .panel true)
        have stored : (insertEntry ⟨f, copied⟩ table).map (·.fix) = (insertEntry ⟨f, v⟩ table).map (·.fix) := by
          rw [map_fix_insertEntry, map_fix_insertEntry]
        have made := reply (u := (State.addEntry
          { p with bt := { p.bt with nextAdhoc := adhocRef p.freeRef 1 } }
            ⟨p.adhocFixed g, adhocVolatile (p.walkIn? g)⟩).startSession
              ⟨p.adhocFixed g, adhocVolatile (p.walkIn? g)⟩ .panel) create rfl rfl
        rw [copies] at made
        refine congrArg Host.Outcome.next (made.trans ?_)
        rw [wrap]
        refine congrArg (fun b : Bt => State.panelReplied { p with
          bt := b
          nq := (p.notify (.sessionStarted (startedFields f s.tb.minutes .panel))).nq
          reports := p.reports ++ [.entryStateChange p.freeRef g true] } bytes .ok (be 4 p.freeRef)) ?_
        exact congr (congrArg (fun t (l : List Fixed) => (⟨t, l, adhocRef p.freeRef 1, s.bt.rates⟩ : Bt)) joined)
          stored

/-! ### END (R47, R105) -/

theorem State.end_session {s : State} {i : Seg} {e : Entry}
    (h : s.activeGovernor (s.panelGroup i).segs = some e) :
    s.end_ i = if e.fix.held = true then refuse s .held else answerOk (s.endSession e .panel) := by
  simp [State.end_, h]

theorem State.end_walkIn {s : State} {i : Seg} (h : s.activeGovernor (s.panelGroup i).segs = none) :
    s.end_ i = answerOk (s.endWalkIn (s.panelGroup i).segs) := by
  simp [State.end_, h]

/-- A report that waits goes on waiting when others are placed early. -/
theorem State.mem_raiseEarly {s : State} {c : Instr} (cs : List Instr) (h : c ∈ s.reports) :
    c ∈ (s.raiseEarly cs).reports := by
  rw [← List.take_append_drop (s.reports.length -
    (s.reports.reverse.takeWhile fun c => !isOccupancyReport c).length) s.reports] at h
  simp only [State.raiseEarly, List.mem_append] at h ⊢
  tauto

theorem State.mem_otSettle_reports {s : State} {c : Instr} (h : c ∈ s.reports) : c ∈ s.otSettle.reports :=
  List.mem_append_left _ (State.mem_raiseEarly (s := { s with ot := { s.ot with
    groups := s.ot.groups.map s.otGroupNow } }) _ h)

/-- Settles O38: the session ended, or the walk-in's timers stopped and its group derived anew. -/
theorem endStopsSessionOrWalkIn : Obligations.EndStopsSessionOrWalkIn := by
  intro s i hs ho hr
  obtain ⟨table, ot, reports, hp, -, covered, reply⟩ := State.panel_pressed hs ho hr
  rw [hp]
  intro p bytes g
  refine ⟨fun e hg ha => ⟨fun held => ?_, fun free => ?_⟩, fun hg => ?_⟩
  · have answer := State.end_session (s := p.echoFrame bytes) (i := i) (State.activeGovernor_some hg ha)
    rw [if_pos held] at answer
    exact congrArg Host.Outcome.next (reply answer rfl rfl)
  · have answer := State.end_session (s := p.echoFrame bytes) (i := i) (State.activeGovernor_some hg ha)
    rw [if_neg (by simp [free])] at answer
    exact congrArg Host.Outcome.next (reply (u := p.endSession e .panel) answer rfl rfl)
  · have answer := State.end_walkIn (s := p.echoFrame bytes) (i := i) (State.activeGovernor_none hg)
    refine ⟨_, congrArg Host.Outcome.next (reply (u := p.endWalkIn g) answer rfl rfl), rfl, fun j hj => ?_,
      fun j hj => ?_, ?_, fun uncovered r hr hrg => ?_⟩
    · have segs : (p.endWalkIn g).ot.segs.get j = { ot.segs.get j with vacancy := none, restored := false } := by
        refine (Four.get_mapIdx ..).trans ?_
        rw [if_pos (mem_segList.mp hj)]
      refine ⟨congrArg Occ.vacancy segs, congrArg Occ.restored segs, fun running => ?_⟩
      refine State.mem_otSettle_reports (List.mem_append_right _ (List.mem_map_of_mem ?_))
      exact List.mem_filter.mpr ⟨hj, running⟩
    · refine (Four.get_mapIdx ..).trans ?_
      rw [if_neg (fun h => hj (mem_segList.mpr h))]
    · show ((p.ot.groups.map _).map _).map _ = _
      rw [List.map_map, List.map_map]
      refine List.map_congr_left fun r _ => ?_
      simp only [Function.comp, State.otGroupNow]
      split <;> rfl
    · obtain ⟨x, -, rfl⟩ := List.mem_map.mp hr
      have vacant : State.groupOccupied (p.endWalkIn g) g = false := by
        refine List.any_eq_false.mpr fun j hj => ?_
        have segs : (p.endWalkIn g).ot.segs.get j = { ot.segs.get j with vacancy := none, restored := false } := by
          refine (Four.get_mapIdx ..).trans ?_
          rw [if_pos (mem_segList.mp hj)]
        rw [State.segOccupied, segs]
        simp [occOccupied, covered j, uncovered j hj]
      change x.segs = g at hrg
      have now : State.groupOccupied (p.endWalkIn g) x.segs = false := hrg ▸ vacant
      exact ⟨now, if_neg (fun h => by
        rw [Bool.and_eq_true] at h
        exact Bool.false_ne_true (now.symm.trans h.1))⟩

/-! ### EXTEND and HEADCOUNT (R48, R51) -/

section Session

variable {s : State} {i : Seg} {n : Nat}

theorem State.extend_none (h : s.activeGovernor (s.panelGroup i).segs = none) :
    s.extend i n = refuse s .noSession := by
  simp [State.extend, h]

theorem State.extend_some {e : Entry} (h : s.activeGovernor (s.panelGroup i).segs = some e) :
    let stop := min (e.fix.stop + max 5 (min 60 n)) (e.fix.start + 600)
    let f : Fixed := { e.fix with stop := stop }
    let others := s.bt.table.filter fun x => x.fix.ref != e.fix.ref
    s.extend i n = if e.fix.held = true then refuse s .held
      else if e.vol.state = .overrun ∨ stop ≤ e.fix.stop then refuse s .limit
      else if others.any (fun x => clash f x.fix) = true then refuse s .conflict
      else (s.setTable (insertEntry { e with fix := f } others), .ok, be 4 stop) := by
  intro stop f others
  have hit : s.bt.table.any (fun x => x.fix.ref != e.fix.ref && overlaps f x.fix) =
      others.any fun x => clash f x.fix := by
    simp only [others, List.any_filter, overlaps_eq_clash]
  have ends : extendedEnd e.fix n = stop := rfl
  unfold State.extend
  rw [h]
  dsimp only
  rw [ends, hit, judged_cons (by decide), judged_cons (by decide), judged_cons (by decide),
    judged_cons (by decide), judged_nil]
  simp only [beq_iff_eq, decide_eq_true_eq, ite_or]
  rfl

theorem State.headcount_none (h : s.activeGovernor (s.panelGroup i).segs = none) :
    s.headcount i n = refuse s .noSession := by
  simp [State.headcount, h]

theorem State.headcount_some {e : Entry} (h : s.activeGovernor (s.panelGroup i).segs = some e) :
    let count := min (min n 400) (seatsOf s.comm (entrySegs e))
    s.headcount i n = ((s.mapVolatile e.fix.ref fun v => { v with
      panelHeadcount := some count, peakHeadcount := some (max count (v.peakHeadcount.getD 0)) }).raise
        (.headcountChange e.fix.ref (entrySegs e)), .ok, be 2 count) := by
  intro count
  unfold State.headcount
  rw [h]
  rfl

end Session

/-- Settles O39: both commands on the state after the press. -/
theorem extendAndHeadcountActOnTheSession : Obligations.ExtendAndHeadcountActOnTheSession := by
  intro s i n hs ho hr
  obtain ⟨table, ot, reports, hp, -, -, reply⟩ := State.panel_pressed hs ho hr
  rw [hp]
  intro p g xb hb
  refine ⟨fun none => ⟨?_, ?_⟩, fun e hg ha => ?_⟩
  · have answer := State.extend_none (s := p.echoFrame xb) (i := i) (n := n) (State.activeGovernor_none none)
    exact congrArg Host.Outcome.next (reply answer rfl rfl)
  · have answer := State.headcount_none (s := p.echoFrame hb) (i := i) (n := n) (State.activeGovernor_none none)
    exact congrArg Host.Outcome.next (reply answer rfl rfl)
  · intro stop f others count
    constructor
    · have answer := State.extend_some (s := p.echoFrame xb) (i := i) (n := n) (State.activeGovernor_some hg ha)
      dsimp only at answer
      show Host.Outcome.next (s.panel i xb (inRunOnly (State.extend i n))) = _
      congr 1
      by_cases held : e.fix.held = true
      · rw [if_pos held] at answer ⊢
        exact reply answer rfl rfl
      rw [if_neg held] at answer ⊢
      by_cases limit : e.vol.state = .overrun ∨ stop ≤ e.fix.stop
      · rw [if_pos limit]
        exact reply (answer.trans (if_pos limit)) rfl rfl
      rw [if_neg limit]
      replace answer := answer.trans (if_neg limit)
      by_cases taken : others.any (fun x => clash f x.fix) = true
      · rw [if_pos taken]
        exact reply (answer.trans (if_pos taken)) rfl rfl
      · rw [if_neg taken]
        exact reply (u := p.withTable (insertEntry { e with fix := f } others))
          (answer.trans (if_neg taken)) rfl rfl
    · have answer := State.headcount_some (s := p.echoFrame hb) (i := i) (n := n)
        (State.activeGovernor_some hg ha)
      exact congrArg Host.Outcome.next (reply (u := { p with
        bt := { p.bt with table := p.bt.table.map fun x =>
          if x.fix.ref == e.fix.ref then { x with vol := { x.vol with
            panelHeadcount := some count
            peakHeadcount := some (max count (x.vol.peakHeadcount.getD 0)) } } else x }
        reports := p.reports ++ [.headcountChange e.fix.ref (entrySegs e)] }) answer rfl rfl)

/-! ### STATUS and UPCOMING (R186, R187) -/

theorem upcomingBytes_length (e : Entry) : (upcomingBytes e).length = 16 := by
  simp [upcomingBytes]

theorem State.statusBytes_length (s : State) (g : GroupRec) : (s.statusBytes g).length = 17 := by
  simp [State.statusBytes, beInt]

theorem State.readSetpoint_eq (s : State) (g : GroupRec) :
    s.readSetpoint g = if g.level = .none then (s.walkIn? g.segs).map (·.setpoint)
      else (g.governing.bind s.entry?).bind (·.vol.liveSetpoint) := by
  unfold State.readSetpoint
  cases g.level with
  | none => rfl
  | _ => exact (Option.bind_assoc ..).symm

theorem State.readScene_eq (s : State) (g : GroupRec) :
    s.readScene g = if g.level = .session then (g.governing.bind s.entry?).bind (·.vol.currentScene)
      else (s.walkIn? g.segs).map (·.scene) := by
  unfold State.readScene
  cases g.level <;> rfl

theorem State.upcomingNext_none {s : State} {i : Seg} (h : s.rl.cursors.get i = none) :
    s.upcomingNext i = refuse s .noCursor := by
  simp only [State.upcomingNext, h]

theorem State.upcomingNext_some {s : State} {i : Seg} {k : Key} (h : s.rl.cursors.get i = some k) :
    s.upcomingNext i = s.returnUpcoming i (s.bt.table.find? fun e => s.concerns i e && follows k e) := by
  simp only [State.upcomingNext, h]

/-- Settles O43: the records field by field, and the cursor of the address alone. -/
theorem panelReadsMoveOnlyTheirCursor : Obligations.PanelReadsMoveOnlyTheirCursor := by
  intro s i hs ho
  obtain ⟨table, ot, reports, hp, -, -, reply⟩ := State.panel_pressed_any hs ho
  rw [hp]
  intro p concerned behind kind group governing loop setpoint scene status upcoming answer
  have status_eq : p.statusBytes group = status := by
    simp only [State.statusBytes, p.readSetpoint_eq, p.readScene_eq]
    rfl
  have upcoming_eq : upcomingBytes = upcoming := by
    funext e
    simp only [upcomingBytes, segsBytes, ← List.append_assoc]
    rfl
  have found {act : State → Answered} {bytes : List Byte} {f : Option Entry}
      (ha : act (p.echoFrame bytes) = (p.echoFrame bytes).returnUpcoming i f) :
      s.panel i bytes act = answer bytes f := by
    cases f with
    | none => exact reply ha rfl rfl
    | some e =>
      have returned := reply (u := { p with rl := { p.rl with
        cursors := p.rl.cursors.set i (some ⟨e.fix.start, e.fix.ref⟩) } }) ha rfl rfl
      rw [upcoming_eq] at returned
      exact returned
  refine ⟨status_eq ▸ p.statusBytes_length group, fun e => upcoming_eq ▸ upcomingBytes_length e, ?_, ?_,
    fun h => ?_, fun k h => ?_⟩
  · rw [← status_eq]
    exact congrArg Host.Outcome.next (reply rfl rfl rfl)
  · exact congrArg Host.Outcome.next (found (act := State.upcomingFirst i) rfl)
  · exact congrArg Host.Outcome.next (reply (act := State.upcomingNext i)
      (State.upcomingNext_none (s := p.echoFrame _) h) rfl rfl)
  · have next := State.upcomingNext_some (s := p.echoFrame (frameBytes i 0x0B [])) h
    have follow : follows k = behind k := by
      funext e
      rw [Bool.eq_iff_iff]
      simp [follows, behind]
    rw [follow] at next
    exact congrArg Host.Outcome.next (found (act := State.upcomingNext i) next)

/-! ### Loops between minutes (R110, R111, R121, R125) -/

theorem State.evaluate_mode (s : State) (l : Loop) : (s.evaluate l).mode = l.mode := by
  unfold State.evaluate
  split
  · split <;> rfl
  · rfl

theorem State.evaluate_reference (s : State) (l : Loop) : (s.evaluate l).reference = l.reference := by
  unfold State.evaluate
  split
  · split <;> rfl
  · rfl

theorem State.evaluate_settled (s : State) (l : Loop) : (s.evaluate l).settled = l.settled := by
  unfold State.evaluate
  split
  · split <;> rfl
  · rfl

/-- A loop is evaluated between minutes exactly when its record changes. -/
theorem State.reconcile_snd (s : State) (l : Loop) :
    (s.reconcile l).2 = true ↔ (s.reconcile l).1 ≠ l := by
  have entered (mode : LoopMode) (l' : Loop) (h : l'.mode = mode) (hm : l.mode ≠ mode) : s.evaluate l' ≠ l :=
    fun eq => hm (by rw [← eq, s.evaluate_mode, h])
  unfold State.reconcile
  split
  · simp
  · split
    · split
      · rename_i p _ parked
        simpa using entered .acquire _ rfl (by rw [parked]; decide)
      · rename_i _ _ p _ _
        split
        · rename_i far
          refine ⟨fun _ eq => ?_, fun _ => rfl⟩
          have ref : l.reference = some p := by
            rw [← eq, s.evaluate_reference]
            rfl
          rw [ref] at far
          simp at far
        · simp
      · simp
    · split
      · simp
      · rename_i away
        simpa using entered .parked _ rfl away

/-- Between minutes no loop becomes SETTLED. -/
theorem State.reconcile_settled (s : State) (l : Loop) (h : (s.reconcile l).1.settled = true) :
    l.settled = true := by
  revert h
  unfold State.reconcile
  split
  · exact id
  · split
    · split
      · rw [s.evaluate_settled]
        exact fun h => absurd h Bool.false_ne_true
      · split
        · rw [s.evaluate_settled]
          exact fun h => absurd h Bool.false_ne_true
        · exact id
      · exact id
    · split
      · exact id
      · rw [s.evaluate_settled]
        exact fun h => absurd h Bool.false_ne_true

/-- Where no loop becomes SETTLED the changes of SETTLED are the losses. -/
theorem settledReports_of_losses {before after : List Loop}
    (h : ∀ p ∈ before.zip after, p.2.settled = true → p.1.settled = true) :
    settledReports before after =
      ((before.zip after).filter fun p => p.1.settled && !p.2.settled).map fun p =>
        .lostSettledReport p.2.segs := by
  unfold settledReports
  rw [← List.filterMap_eq_map, List.filterMap_filter]
  refine List.filterMap_congr fun p hp => ?_
  have := h p hp
  cases h1 : p.1.settled <;> cases h2 : p.2.settled <;> simp_all

/-- All that a judgement between minutes makes of the state: the loops named follow R110 and R111, and what
follows is handed on. -/
theorem State.alReconcile_eq (s : State) (hit : Loop → Bool) :
    s.alReconcile hit = { s with
      al := { s.al with loops := s.al.loops.map fun l => if hit l then s.loopFollowing l else l }
      reports := s.reports ++ loopReports s.al.loops
        (s.al.loops.map fun l => if hit l then s.loopFollowing l else l) } := by
  let result (l : Loop) : Loop × Bool := if hit l then s.reconcile l else (l, false)
  have fst : (s.al.loops.map result).map (fun r => r.1) =
      s.al.loops.map fun l => if hit l then s.loopFollowing l else l := by
    rw [List.map_map]
    refine List.map_congr_left fun l _ => ?_
    simp only [Function.comp, result]
    split
    · exact s.reconcile_fst l
    · rfl
  have snd (l : Loop) : (result l).2 = true ↔ (result l).1 ≠ l := by
    simp only [result]
    split
    · exact s.reconcile_snd l
    · simp
  have still : (s.al.loops.map result).any (fun r => r.2) = false ↔
      (s.al.loops.map result).map (fun r => r.1) = s.al.loops := by
    rw [List.map_map]
    conv_rhs => rhs; rw [← List.map_id s.al.loops]
    rw [List.map_inj_left, List.any_map, List.any_eq_false]
    refine forall₂_congr fun l _ => ?_
    have := snd l
    simp only [Function.comp, id]
    tauto
  have losses : settledReports s.al.loops ((s.al.loops.map result).map fun r => r.1) =
      ((s.al.loops.zip ((s.al.loops.map result).map fun r => r.1)).filter
        fun p => p.1.settled && !p.2.settled).map fun p => .lostSettledReport p.2.segs := by
    refine settledReports_of_losses fun p hp => ?_
    rw [List.map_map, List.zip_map_right, List.mem_map] at hp
    obtain ⟨q, hq, rfl⟩ := hp
    have diag : q.1 = q.2 := by
      obtain ⟨k, hk⟩ := List.mem_iff_getElem?.mp hq
      obtain ⟨h1, h2⟩ := List.getElem?_zip_eq_some.mp hk
      exact Option.some.inj (h1.symm.trans h2)
    simp only [Prod.map, id, Function.comp, result, diag]
    split
    · exact s.reconcile_settled q.2
    · exact id
  show State.raiseAll _ (settledReports s.al.loops ((s.al.loops.map result).map fun r => r.1)) = _
  rw [losses, ← fst]
  cases hany : (s.al.loops.map result).any fun r => r.2 with
  | false =>
    rw [loopReports, if_pos (still.mp hany)]
    simp only [Bool.false_eq_true, if_false]
    rfl
  | true =>
    have moved := mt still.mpr (by simp [hany])
    rw [loopReports, if_neg moved]
    simp only [if_true, ← List.append_assoc]
    rfl

/-! ### ADJUST (R126, R127) -/

theorem State.adjust_session {s : State} {g : GroupRec} {e : Entry} {live : Nat} (hl : g.level = .session)
    (he : g.governing.bind s.entry? = some e) (hv : e.vol.liveSetpoint = some live) (d : Int) :
    let p := adjusted live (storedSetpoint s.comm e.fix) s.suite.adjustRange d
    s.adjust g d = ((s.mapVolatile e.fix.ref fun v => { v with liveSetpoint := some p }).alSetpointMoved
      e.fix.ref, some p) := by
  simp only [State.adjust, hl, he, hv]

theorem State.adjust_walkIn {s : State} {g : GroupRec} {w : WalkIn} (hl : g.level ≠ .session)
    (hw : s.walkIn? g.segs = some w) (d : Int) :
    let p := adjusted w.setpoint s.suite.walkInSetpoint s.suite.adjustRange d
    s.adjust g d = ((s.mapWalkIn g.segs fun w => { w with setpoint := p }).alReconcile
      fun l => l.segs == g.segs, some p) := by
  unfold State.adjust
  cases h : g.level with
  | session => exact absurd h hl
  | _ => simp only [hw]

theorem State.adjust_none {s : State} {g : GroupRec} (hl : g.level ≠ .session)
    (hw : s.walkIn? g.segs = none) (d : Int) : s.adjust g d = (s, none) := by
  unfold State.adjust
  cases h : g.level with
  | session => exact absurd h hl
  | _ => simp only [hw]

/-- A panel frame in RUN whose owner moves what is driven: the outputs follow. -/
theorem State.panel_pressed_driven {s : State} {i : Seg} (hs : s.TakesPanel i) (hr : s.inRun = true) :
    ∃ table ot reports,
    s.presence i = { s with bt := { s.bt with table := table }, ot := ot, reports := reports } ∧
    ∀ {act : State → Answered} {bytes : List Byte} {u : State} {r : Reason} {payload : List Byte},
      act (State.echoFrame
        { s with bt := { s.bt with table := table }, ot := ot, reports := reports } bytes) =
          (u.echoFrame bytes, r, payload) →
      s.panel i bytes (inRunOnly act) = (u.panelReplied bytes r payload).drive := by
  have frame : s.presence i = { s with
      bt := { s.bt with table := (s.presence i).bt.table }, ot := (s.presence i).ot
      reports := (s.presence i).reports } := by
    rw [← s.presence_bt i]
    exact s.presence_frame i
  refine ⟨_, _, _, frame, @fun act bytes u r payload answer => ?_⟩
  have run : ((s.presence i).echoFrame bytes).inRun = true := (s.presence_inRun i).trans hr
  exact State.panel_answered hs ((inRunOnly_run run act).trans (frame ▸ answer))

theorem State.panelAdjust_some {s u : State} {i : Seg} {d : Int} {n : Nat}
    (h : s.adjust (s.panelGroup i) d = (u, some n)) : s.panelAdjust i d = (u, .ok, be 2 n) := by
  simp only [State.panelAdjust, h]

theorem State.panelAdjust_none {s u : State} {i : Seg} {d : Int}
    (h : s.adjust (s.panelGroup i) d = (u, none)) : s.panelAdjust i d = refuse u .noSession := by
  simp only [State.panelAdjust, h]

/-- Settles O40: the setpoint moved, then the loops it serves reconciled. -/
theorem adjustMovesTheSetpointWithinItsRange : Obligations.AdjustMovesTheSetpointWithinItsRange := by
  intro s i d hs ho hr
  obtain ⟨table, ot, reports, hp, reply⟩ := State.panel_pressed_driven hs hr
  rw [hp]
  intro p g bytes moved judged
  have segs (f : Loop → Bool) (u : State) : (p.al.loops.map fun l => if f l then u.loopFollowing l else l).map
      (·.segs) = p.al.loops.map (·.segs) := by
    rw [List.map_map]
    refine List.map_congr_left fun l _ => ?_
    simp only [Function.comp]
    split
    · exact u.loopFollowing_segs l
    · rfl
  refine ⟨fun e live hl he hv => ?_, fun w hl hw => ?_, fun hl hw => ?_⟩
  · have answer := State.panelAdjust_some (State.adjust_session (s := p.echoFrame bytes) hl he hv d)
    rw [State.alSetpointMoved, State.alReconcile_eq] at answer
    let u : State := { p with bt := { p.bt with table := p.bt.table.map fun x =>
      if x.fix.ref == e.fix.ref then { x with vol := { x.vol with
        liveSetpoint := some (moved live (storedSetpoint s.comm e.fix)) } } else x } }
    exact ⟨_, congrArg Host.Outcome.next (reply (u := { u with
      al := { p.al with loops := p.al.loops.map fun l =>
        if l.governing == some e.fix.ref then u.loopFollowing l else l }
      reports := p.reports ++ loopReports p.al.loops (p.al.loops.map fun l =>
        if l.governing == some e.fix.ref then u.loopFollowing l else l) }) answer),
      rfl, ⟨rfl, rfl, segs _ u⟩, rfl, rfl⟩
  · have answer := State.panelAdjust_some (State.adjust_walkIn (s := p.echoFrame bytes) hl hw d)
    rw [State.alReconcile_eq] at answer
    let u : State := { p with ot := { p.ot with groups := p.ot.groups.map fun r =>
      if r.segs == g.segs then { r with walkIn := r.walkIn.map fun x =>
        { x with setpoint := moved w.setpoint s.suite.walkInSetpoint } } else r } }
    exact ⟨_, congrArg Host.Outcome.next (reply (u := { u with
      al := { p.al with loops := p.al.loops.map fun l =>
        if l.segs == g.segs then u.loopFollowing l else l }
      reports := p.reports ++ loopReports p.al.loops (p.al.loops.map fun l =>
        if l.segs == g.segs then u.loopFollowing l else l) }) answer),
      rfl, ⟨rfl, rfl, segs _ u⟩, rfl, rfl⟩
  · have answer := State.panelAdjust_none (State.adjust_none (s := p.echoFrame bytes) hl hw d)
    refine congrArg Host.Outcome.next ((reply answer).trans ?_)
    exact State.drive_eq_self hs.1.1 ho rfl rfl

end Sys2Proof.Machine

/-! What every lighting act of LBU does to a segment's record: the rows formed and the blind resolved as functions
of that record alone, the other parts of the state given. -/

namespace Sys2Proof.Machine

/-! ### One segment at a time -/

/-- The state with one segment's record of LBU replaced. -/
def State.withSeg (s : State) (i : Seg) (l : LbuSeg) : State :=
  { s with lbu := { s.lbu with segs := s.lbu.segs.set i l } }

/-- What forming the rows of segment i makes of a record l. -/
def State.rowsSet (s : State) (g : LbuGroup) (i : Seg) (l : LbuSeg) : LbuSeg :=
  ((s.withSeg i l).formRows g i).lbu.segs.get i

/-- What resolving the blind of segment i makes of a record l. -/
def State.blindSet (s : State) (i : Seg) (l : LbuSeg) : LbuSeg :=
  ((s.withSeg i l).resolveBlind i).lbu.segs.get i

/-- A record with another override. -/
def overridden (o : Blind → Option Nat) (l : LbuSeg) : LbuSeg :=
  { l with blind := { l.blind with override := o l.blind } }

@[simp] theorem State.withSeg_get (s : State) (i : Seg) (l : LbuSeg) : (s.withSeg i l).lbu.segs.get i = l :=
  Four.get_set_same _ _ _

theorem State.withSeg_self (s : State) (i : Seg) : s.withSeg i (s.lbu.segs.get i) = s := by
  unfold State.withSeg
  rw [Four.set_get]

theorem State.mapLbuSeg_get (s : State) (i : Seg) (f : LbuSeg → LbuSeg) :
    (s.mapLbuSeg i f).lbu.segs.get i = f (s.lbu.segs.get i) := Four.get_set_same _ _ _

theorem State.rowsSet_eq (s : State) (g : LbuGroup) (i : Seg) (l : LbuSeg) :
    s.rowsSet g i l = if (s.inRun && s.configured i) = true then
      (((s.withSeg i l).rowAim g i).map fun a => { l with
        window := applyRow a.window a.fade l.window, inner := applyRow a.inner a.fade l.inner }).getD l
      else l := by
  have same : (s.withSeg i l).inRun = s.inRun ∧ (s.withSeg i l).configured i = s.configured i := ⟨rfl, rfl⟩
  unfold State.rowsSet State.formRows
  rw [same.1, same.2]
  split
  · cases (s.withSeg i l).rowAim g i with
    | none => exact State.withSeg_get ..
    | some a => exact (State.mapLbuSeg_get ..).trans (by rw [State.withSeg_get]; rfl)
  · exact State.withSeg_get ..

theorem State.blindSet_eq (s : State) (i : Seg) (l : LbuSeg) :
    s.blindSet i l = if (s.inRun && s.configured i) = true then
      (((s.lbuGroupOf? i).bind ((s.withSeg i l).resolved i)).map fun a =>
        { l with blind := setTarget l.blind a }).getD l
      else l := by
  have same : (s.withSeg i l).inRun = s.inRun ∧ (s.withSeg i l).configured i = s.configured i ∧
      (s.withSeg i l).lbuGroupOf? i = s.lbuGroupOf? i := ⟨rfl, rfl, rfl⟩
  unfold State.blindSet State.resolveBlind
  rw [same.1, same.2.1, same.2.2]
  split
  · cases (s.lbuGroupOf? i).bind ((s.withSeg i l).resolved i) with
    | none => exact State.withSeg_get ..
    | some a => exact (State.mapLbuSeg_get ..).trans (by rw [State.withSeg_get]; rfl)
  · exact State.withSeg_get ..

/-- The rows alone are formed. -/
theorem State.rowsSet_rows (s : State) (g : LbuGroup) (i : Seg) (l : LbuSeg) :
    s.rowsSet g i l = { l with window := (s.rowsSet g i l).window, inner := (s.rowsSet g i l).inner } := by
  rw [State.rowsSet_eq]
  split
  · cases (s.withSeg i l).rowAim g i <;> rfl
  · rfl

/-- A blind alone is resolved. -/
theorem State.blindSet_blind (s : State) (i : Seg) (l : LbuSeg) :
    s.blindSet i l = { l with blind := (s.blindSet i l).blind } := by
  rw [State.blindSet_eq]
  split
  · cases (s.lbuGroupOf? i).bind ((s.withSeg i l).resolved i) <;> rfl
  · rfl

/-! ### What a target leaves in place -/

theorem applyRow_target (target fade : Nat) (r : LampRow) : (applyRow target fade r).target = target := by
  unfold applyRow
  split_ifs with h <;> first | exact h.symm | rfl

theorem applyRow_again (target fade : Nat) (r : LampRow) :
    applyRow target fade (applyRow target fade r) = applyRow target fade r := by
  generalize hr : applyRow target fade r = r'
  have same : target = r'.target := hr ▸ (applyRow_target target fade r).symm
  exact if_pos same

theorem handTarget_fields (b : Blind) (x : Nat) :
    (handTarget b x).target = x ∧ (handTarget b x).base = b.base ∧ (handTarget b x).keptBase = b.keptBase ∧
      (handTarget b x).override = b.override ∧ (handTarget b x).position = b.position := by
  simp only [handTarget, takeAtRest, takeMoving, startRun, startReversing]
  split
  · exact ⟨rfl, rfl, rfl, rfl, rfl⟩
  · cases b.motion with
    | reversing => exact ⟨rfl, rfl, rfl, rfl, rfl⟩
    | stopped | movingUp | movingDown | held =>
      dsimp only
      split_ifs <;> exact ⟨rfl, rfl, rfl, rfl, rfl⟩

theorem setTarget_fields (b : Blind) (a : Aim) :
    (setTarget b a).target = a.target ∧ (setTarget b a).base = a.base ∧ (setTarget b a).keptBase = a.kept ∧
      (setTarget b a).override = b.override ∧ (setTarget b a).position = b.position := by
  unfold setTarget
  split
  next same => exact ⟨same.symm, rfl, rfl, rfl, rfl⟩
  · exact handTarget_fields _ _

theorem setTarget_again (b : Blind) (a : Aim) : setTarget (setTarget b a) a = setTarget b a := by
  obtain ⟨target, base, kept, -, -⟩ := setTarget_fields b a
  rw [setTarget_same _ _ target.symm, ← base, ← kept]

/-! ### Twice is once -/

/-- The rows' aim reads of the segment's record the daylight alone. -/
theorem State.rowAim_daylight (s : State) (g : LbuGroup) (i : Seg) {l l' : LbuSeg} (h : l'.daylight = l.daylight) :
    (s.withSeg i l').rowAim g i = (s.withSeg i l).rowAim g i := by
  unfold State.rowAim
  rw [State.withSeg_get, State.withSeg_get, h]
  rfl

theorem State.rowsSet_again (s : State) (g : LbuGroup) (i : Seg) (l : LbuSeg) :
    s.rowsSet g i (s.rowsSet g i l) = s.rowsSet g i l := by
  have aim : (s.withSeg i (s.rowsSet g i l)).rowAim g i = (s.withSeg i l).rowAim g i :=
    s.rowAim_daylight g i (by rw [State.rowsSet_rows])
  rw [State.rowsSet_eq s g i (s.rowsSet g i l), aim]
  split
  next h =>
    rw [State.rowsSet_eq, if_pos h]
    cases (s.withSeg i l).rowAim g i with
    | none => rfl
    | some a => simp only [Option.map_some, Option.getD_some, applyRow_again]
  · rfl

/-- The resolution reads of the segment's record the glare and the blind alone. -/
theorem State.resolved_congr (s : State) (g : LbuGroup) (i : Seg) {l l' : LbuSeg}
    (hg : l'.glare.active = l.glare.active) (hb : l'.blind = l.blind) :
    (s.withSeg i l').resolved i g = (s.withSeg i l).resolved i g := by
  unfold State.resolved
  simp only [State.withSeg_get, hg, hb]
  rfl

/-- The base that a scene gives is given again: what LEAVE keeps is the base it has left. -/
theorem State.sceneBase_again (s : State) (n : Nat) {b b' : Blind} {k : Option Nat} (base : b'.base = s.sceneBase n b)
    (kept : b'.keptBase = k) (hk : ∀ x, k = some x → x = leftBase b) : s.sceneBase n b' = s.sceneBase n b := by
  unfold State.sceneBase at base ⊢
  cases hs : (s.comm.scene n).blind with
  | some x => rfl
  | none =>
    simp only [hs, Option.getD_none] at base ⊢
    cases k with
    | none => simp only [leftBase, kept, Option.getD_none, base]
    | some x => simp only [leftBase, kept, Option.getD_some, hk x rfl]

/-- A resolution once taken gives the same base and target again. -/
theorem State.resolved_again (s : State) (g : LbuGroup) (i : Seg) (l : LbuSeg) {a : Aim}
    (h : (s.withSeg i l).resolved i g = some a) :
    (s.withSeg i { l with blind := setTarget l.blind a }).resolved i g = some a := by
  obtain ⟨-, base, kept, override, -⟩ := setTarget_fields l.blind a
  generalize setTarget l.blind a = b' at base kept override
  have context (x : LbuSeg) : (s.withSeg i x).shownOf g = s.shownOf g ∧
      (s.withSeg i x).lbuPeople g.segs = s.lbuPeople g.segs ∧
      (s.withSeg i x).segRec i = s.segRec i ∧ (s.withSeg i x).sceneBase = s.sceneBase ∧
      (s.withSeg i x).sceneOfEntry = s.sceneOfEntry := ⟨rfl, rfl, rfl, rfl, rfl⟩
  simp only [State.resolved, State.withSeg_get, context, override] at h ⊢
  have left (hp : a.kept = if s.lbuPeople g.segs then some (leftBase l.blind) else none) :
      (if s.lbuPeople g.segs then some (leftBase b') else none) = a.kept := by
    rw [hp]
    split
    next people => simp only [leftBase, kept, hp, if_pos people, Option.getD_some]
    · rfl
  have passing (x : Nat) (hx : (if s.lbuPeople g.segs then some (leftBase l.blind) else none) = some x) :
      x = leftBase l.blind := by
    split at hx
    · exact (Option.some.inj hx).symm
    · exact absurd hx (by simp)
  split at h
  · exact h
  · split at h
    next n shown =>
      cases h
      rw [s.sceneBase_again n base kept (by simp)]
    · exact absurd h (by simp)
    next shown =>
      split at h
      next ref level governing =>
        split at h
        next n scene =>
          cases h
          rw [left rfl, s.sceneBase_again n base kept passing]
        · exact absurd h (by simp)
      next none' =>
        cases h
        rw [left rfl]

theorem State.blindSet_again (s : State) (i : Seg) (l : LbuSeg) :
    s.blindSet i (s.blindSet i l) = s.blindSet i l := by
  by_cases h : (s.inRun && s.configured i) = true
  · cases hg : s.lbuGroupOf? i with
    | none => simp only [State.blindSet_eq, if_pos h, hg, Option.bind_none, Option.map_none, Option.getD_none]
    | some g =>
      cases ha : (s.withSeg i l).resolved i g with
      | none =>
        have same : s.blindSet i l = l := by
          rw [State.blindSet_eq, if_pos h, hg, Option.bind_some, ha]
          rfl
        rw [same, same]
      | some a =>
        have once : s.blindSet i l = { l with blind := setTarget l.blind a } := by
          rw [State.blindSet_eq, if_pos h, hg, Option.bind_some, ha]
          rfl
        rw [once, State.blindSet_eq, if_pos h, hg, Option.bind_some, s.resolved_again g i l ha]
        simp only [Option.map_some, Option.getD_some, setTarget_again]
  · simp only [State.blindSet_eq, if_neg h]

/-- The rows do not enter a resolution. -/
theorem State.blindSet_of_rows (s : State) (i : Seg) {l l' : LbuSeg}
    (hg : l'.glare.active = l.glare.active) (hb : l'.blind = l.blind) :
    (s.blindSet i l').blind = (s.blindSet i l).blind := by
  have same : (s.withSeg i l').resolved i = (s.withSeg i l).resolved i :=
    funext fun g => s.resolved_congr g i hg hb
  rw [State.blindSet_eq, State.blindSet_eq, same, hb]
  split
  · cases (s.lbuGroupOf? i).bind ((s.withSeg i l).resolved i) with
    | none => exact hb
    | some a => rfl
  · exact hb

/-- A resolution leaves the override and the place. -/
theorem State.blindSet_keeps (s : State) (i : Seg) (l : LbuSeg) :
    (s.blindSet i l).blind.override = l.blind.override ∧ (s.blindSet i l).blind.position = l.blind.position := by
  rw [State.blindSet_eq]
  split
  · cases (s.lbuGroupOf? i).bind ((s.withSeg i l).resolved i) with
    | none => exact ⟨rfl, rfl⟩
    | some a =>
      obtain ⟨-, -, -, override, position⟩ := setTarget_fields l.blind a
      exact ⟨override, position⟩
  · exact ⟨rfl, rfl⟩

/-- The statements' word for a resolution, as a function of the segment's record. -/
theorem State.blindResolved_kept (s : State) (i : Seg) :
    s.blindResolved i false = (s.blindSet i (s.lbu.segs.get i)).blind := by
  show ((s.resolveBlind i).lbu.segs.get i).blind = _
  rw [State.blindSet, State.withSeg_self]

theorem State.blindResolved_cleared (s : State) (i : Seg) :
    s.blindResolved i true = (s.blindSet i (overridden (fun _ => none) (s.lbu.segs.get i))).blind := rfl

theorem State.rowsSet_self (s : State) (g : LbuGroup) (i : Seg) :
    s.rowsSet g i (s.lbu.segs.get i) = (s.formRows g i).lbu.segs.get i := by
  rw [State.rowsSet, State.withSeg_self]

/-! ### Acts of several segments -/

/-- The act t of s moves LBU's segments alone, and each record as φ says. -/
def State.Lit (s t : State) (φ : Seg → LbuSeg → LbuSeg) : Prop :=
  s.Relit t ∧ ∀ j, t.lbu.segs.get j = φ j (s.lbu.segs.get j)

/-- An act on the segments of a set. -/
def litIn (g : Segs) (f : Seg → LbuSeg → LbuSeg) (j : Seg) (l : LbuSeg) : LbuSeg :=
  if j ∈ segList g then f j l else l

theorem State.Lit.trans {s t u : State} {φ ψ : Seg → LbuSeg → LbuSeg} (h : s.Lit t φ) (k : t.Lit u ψ) :
    s.Lit u fun j l => ψ j (φ j l) :=
  ⟨h.1.trans k.1, fun j => (k.2 j).trans (congrArg (ψ j) (h.2 j))⟩

theorem State.Lit.refl (s : State) : s.Lit s fun _ l => l := ⟨.refl s, fun _ => rfl⟩

theorem State.Lit.congr {s t : State} {φ ψ : Seg → LbuSeg → LbuSeg} (h : s.Lit t φ) (e : ∀ j l, φ j l = ψ j l) :
    s.Lit t ψ := ⟨h.1, fun j => (h.2 j).trans (e j _)⟩

/-- Acts taken one after another, each one's function read off any state that differs in the segments alone. -/
theorem State.Lit.foldl {β : Type} {act : State → β → State} {φ : State → β → Seg → LbuSeg → LbuSeg}
    (h : ∀ (s : State) b, s.Lit (act s b) (φ s b)) (same : ∀ {s t : State}, s.Relit t → φ t = φ s) (l : List β) (s : State) :
    s.Lit (l.foldl act s) fun j x => l.foldl (fun x b => φ s b j x) x := by
  induction l generalizing s with
  | nil => exact .refl s
  | cons b l ih =>
    have rest := ih (act s b)
    rw [same (h s b).1] at rest
    exact (h s b).trans rest

/-- Each segment of a list without repeats is met once. -/
theorem foldl_once (f : Seg → LbuSeg → LbuSeg) (j : Seg) (l : List Seg) (nodup : l.Nodup) (x : LbuSeg) :
    l.foldl (fun x i => if j = i then f i x else x) x = if j ∈ l then f j x else x := by
  induction l generalizing x with
  | nil => rfl
  | cons i l ih =>
    obtain ⟨fresh, nodup⟩ := List.nodup_cons.1 nodup
    rw [List.foldl_cons, ih nodup]
    by_cases h : j = i
    · subst h
      rw [if_neg fresh, if_pos rfl, if_pos List.mem_cons_self]
    · simp only [h, List.mem_cons, false_or, if_false]

theorem segList_nodup (g : Segs) : (segList g).Nodup :=
  (segList_ascending g).imp fun h => ne_of_lt h

/-- One act on every segment of a set. -/
theorem State.Lit.segs {act : State → Seg → State} {φ : State → Seg → LbuSeg → LbuSeg}
    (relit : ∀ (s : State) i, s.Relit (act s i)) (at' : ∀ s i, (act s i).lbu.segs.get i = φ s i (s.lbu.segs.get i))
    (other : ∀ s i j, j ≠ i → (act s i).lbu.segs.get j = s.lbu.segs.get j)
    (same : ∀ {s t : State}, s.Relit t → φ t = φ s) (s : State) (g : Segs) :
    s.Lit ((segList g).foldl act s) (litIn g (φ s)) := by
  have one (s : State) (i : Seg) : s.Lit (act s i) fun j l => if j = i then φ s i l else l := by
    refine ⟨relit s i, fun j => ?_⟩
    by_cases h : j = i
    · subst h
      exact (at' s j).trans (if_pos rfl).symm
    · exact (other s i j h).trans (if_neg h).symm
  exact (State.Lit.foldl one (fun h => by simp only [same h]) (segList g) s).congr
    fun j l => foldl_once (φ s) j _ (segList_nodup g) l

/-- The two states give LBU's rows and blinds the same targets. -/
structure State.SameLights (s t : State) : Prop where
  cs : t.cs = s.cs
  table : t.bt.table = s.bt.table
  walkIns : t.ot.groups = s.ot.groups
  groups : t.lbu.groups = s.lbu.groups
  occ : t.lbu.occ = s.lbu.occ

theorem State.Relit.sameLights {s t : State} (h : s.Relit t) : s.SameLights t := by
  rw [h]
  exact ⟨rfl, rfl, rfl, rfl, rfl⟩

theorem State.SameLights.trans {s t u : State} (h : s.SameLights t) (k : t.SameLights u) : s.SameLights u :=
  ⟨k.cs.trans h.cs, k.table.trans h.table, k.walkIns.trans h.walkIns, k.groups.trans h.groups, k.occ.trans h.occ⟩

theorem State.SameLights.shownOf {s t : State} (h : s.SameLights t) (i : Seg) (l : LbuSeg) (g : LbuGroup) :
    (t.withSeg i l).shownOf g = (s.withSeg i l).shownOf g := by
  obtain ⟨-, ht, hw, -, ho⟩ := h
  have owner : (t.withSeg i l).ownerOf g = (s.withSeg i l).ownerOf g := by
    show (t.ownerOf g) = s.ownerOf g
    unfold State.ownerOf State.lbuWalkIn
    rw [ho]
  have entry : (t.withSeg i l).sceneOfEntry = (s.withSeg i l).sceneOfEntry := by
    funext ref
    show t.sceneOfEntry ref = s.sceneOfEntry ref
    unfold State.sceneOfEntry State.entry?
    rw [ht]
  have walkIn : (t.withSeg i l).walkIn? g.segs = (s.withSeg i l).walkIn? g.segs := by
    show t.walkIn? g.segs = s.walkIn? g.segs
    unfold State.walkIn? State.otGroup?
    rw [hw]
  unfold State.shownOf
  rw [owner, entry, walkIn]

theorem State.SameLights.rowsSet {s t : State} (h : s.SameLights t) : t.rowsSet = s.rowsSet := by
  funext g i l
  obtain ⟨hc, -, -, -, ho⟩ := id h
  have aim : (t.withSeg i l).rowAim g i = (s.withSeg i l).rowAim g i := by
    unfold State.rowAim
    rw [h.shownOf, State.withSeg_get, State.withSeg_get]
    show (if t.lbuOccupied g.segs then _ else _) = if s.lbuOccupied g.segs then _ else _
    unfold State.lbuOccupied State.comm State.suite
    rw [ho, show (t.withSeg i l).cs = (s.withSeg i l).cs from hc]
  have inRun : t.inRun = s.inRun := congrArg (fun c : Cs => c.mode == .run) hc
  have configured : t.configured i = s.configured i := congrFun (configured_congr hc) i
  rw [State.rowsSet_eq, State.rowsSet_eq, aim, inRun, configured]

theorem State.SameLights.blindSet {s t : State} (h : s.SameLights t) : t.blindSet = s.blindSet := by
  funext i l
  obtain ⟨hc, ht, -, hg, ho⟩ := id h
  have aim : (t.withSeg i l).resolved i = (s.withSeg i l).resolved i := by
    funext g
    have people : (t.withSeg i l).lbuPeople g.segs = (s.withSeg i l).lbuPeople g.segs := by
      show t.lbuPeople g.segs = s.lbuPeople g.segs
      unfold State.lbuPeople
      rw [ho]
    have base : (t.withSeg i l).sceneBase = (s.withSeg i l).sceneBase := by
      funext n b
      show t.sceneBase n b = s.sceneBase n b
      unfold State.sceneBase State.comm
      rw [hc]
    have entry : (t.withSeg i l).sceneOfEntry = (s.withSeg i l).sceneOfEntry := by
      funext ref
      show t.sceneOfEntry ref = s.sceneOfEntry ref
      unfold State.sceneOfEntry State.entry?
      rw [ht]
    have segRec : (t.withSeg i l).segRec i = (s.withSeg i l).segRec i := congrFun (segRec_congr hc) i
    unfold State.resolved
    rw [h.shownOf, people, base, entry, segRec, State.withSeg_get, State.withSeg_get]
  have inRun : t.inRun = s.inRun := congrArg (fun c : Cs => c.mode == .run) hc
  have configured : t.configured i = s.configured i := congrFun (configured_congr hc) i
  have group : t.lbuGroupOf? i = s.lbuGroupOf? i := by
    unfold State.lbuGroupOf?
    rw [hg]
  rw [State.blindSet_eq, State.blindSet_eq, aim, inRun, configured, group]

theorem State.rowsSet_relit {s t : State} (h : s.Relit t) : t.rowsSet = s.rowsSet := h.sameLights.rowsSet

theorem State.blindSet_relit {s t : State} (h : s.Relit t) : t.blindSet = s.blindSet := h.sameLights.blindSet

theorem State.formGroupRows_lit (s : State) (g : LbuGroup) :
    s.Lit (s.formGroupRows g) (litIn g.segs (s.rowsSet g)) :=
  .segs (act := fun s i => s.formRows g i) (φ := fun s => s.rowsSet g) (fun s i => s.formRows_relit g i)
    (fun s i => (s.rowsSet_self g i).symm) (fun s _ _ h => s.formRows_other g h)
    (fun h => by simp only [State.rowsSet_relit h]) s g.segs

theorem State.resolveBlinds_lit (s : State) (g : Segs) : s.Lit (s.resolveBlinds g) (litIn g s.blindSet) :=
  .segs (φ := State.blindSet) State.resolveBlind_relit
    (fun s i => by rw [State.blindSet, State.withSeg_self]) (fun s _ _ h => s.resolveBlind_other h)
    State.blindSet_relit s g

/-- Two acts on the segments of one set. -/
theorem State.Lit.both {s t u : State} {g : Segs} {f h : Seg → LbuSeg → LbuSeg} (a : s.Lit t (litIn g f))
    (b : t.Lit u (litIn g h)) : s.Lit u (litIn g fun j l => h j (f j l)) :=
  (a.trans b).congr fun j l => by
    unfold litIn
    split <;> rfl

theorem State.clearOverrides_lit (s : State) (g : Segs) :
    s.Lit (s.clearOverrides g) (litIn g fun j l => s.blindSet j (overridden (fun _ => none) l)) := by
  have bare := State.Lit.segs (act := fun s i => s.mapBlind i fun b => { b with override := none })
    (φ := fun _ _ => overridden fun _ => none) (fun s i => s.mapBlind_relit i _) (fun s i => s.mapLbuSeg_get i _)
    (fun s _ _ h => s.mapLbuSeg_other h _) (fun _ => rfl) s g
  have resolved := State.resolveBlinds_lit
    ((segList g).foldl (fun s i => s.mapBlind i fun b => { b with override := none }) s) g
  rw [State.blindSet_relit bare.1] at resolved
  exact bare.both resolved

theorem State.blindRequest_lit (s : State) (g : Segs) (o : Blind → Option Nat) :
    s.Lit (s.blindRequest g o)
      (litIn g fun j l => s.blindSet j (if s.configured j then overridden o l else l)) := by
  have set := State.Lit.segs
    (act := fun s i => if s.configured i then s.mapBlind i fun b => { b with override := o b } else s)
    (φ := fun s j l => if s.configured j then overridden o l else l)
    (fun s i => .ite (s.mapBlind_relit i _) (.refl s))
    (fun s i => by
      split
      · exact s.mapLbuSeg_get i _
      · rfl)
    (fun s i j h => by
      split
      · exact s.mapLbuSeg_other h _
      · rfl)
    (fun h => by
      rw [h]
      rfl) s g
  have resolved := State.resolveBlinds_lit
    ((segList g).foldl (fun s i =>
      if s.configured i then s.mapBlind i fun b => { b with override := o b } else s) s) g
  rw [State.blindSet_relit set.1] at resolved
  exact set.both resolved

/-! ### Acts of several groups -/

/-- A segment outside every set is left as it is. -/
theorem foldl_litIn_outside {β : Type} (segs : β → Segs) (f : β → Seg → LbuSeg → LbuSeg) {j : Seg} {l : List β}
    (out : ∀ b ∈ l, j ∉ segList (segs b)) (x : LbuSeg) : l.foldl (fun x b => litIn (segs b) (f b) j x) x = x := by
  induction l generalizing x with
  | nil => rfl
  | cons b l ih =>
    rw [List.foldl_cons, litIn, if_neg (out b List.mem_cons_self)]
    exact ih (fun b hb => out b (List.mem_cons_of_mem _ hb)) x

/-- A segment that one act alone reaches, however often, is met once by an act that taken twice is taken once. -/
theorem foldl_litIn_inside {β : Type} (segs : β → Segs) (f : β → Seg → LbuSeg → LbuSeg) {j : Seg} {r : β}
    (again : ∀ x, f r j (f r j x) = f r j x) {l : List β} (mem : r ∈ l) (hj : j ∈ segList (segs r))
    (only : ∀ b ∈ l, j ∈ segList (segs b) → f b j = f r j) (x : LbuSeg) :
    l.foldl (fun x b => litIn (segs b) (f b) j x) x = f r j x := by
  have settled (l : List β) (only : ∀ b ∈ l, j ∈ segList (segs b) → f b j = f r j) (y : LbuSeg)
      (hy : f r j y = y) : l.foldl (fun x b => litIn (segs b) (f b) j x) y = y :=
    List.foldlRecOn (motive := (· = y)) l _ rfl fun z hz b hb => by
      rw [hz, litIn]
      split
      next h => rw [only b hb h, hy]
      · rfl
  induction l generalizing x with
  | nil => cases mem
  | cons b l ih =>
    have tail : ∀ b ∈ l, j ∈ segList (segs b) → f b j = f r j :=
      fun b hb => only b (List.mem_cons_of_mem _ hb)
    rw [List.foldl_cons]
    by_cases h : j ∈ segList (segs b)
    · rw [litIn, if_pos h, only b List.mem_cons_self h]
      exact settled l tail _ (again x)
    · rw [litIn, if_neg h]
      refine ih ?_ tail x
      cases mem with
      | head => exact absurd hj h
      | tail _ mem => exact mem

/-! ### Rows and blind formed anew -/

/-- A record with its override removed where `clears` says so. -/
def bared (clears : Bool) (l : LbuSeg) : LbuSeg := if clears then overridden (fun _ => none) l else l

/-- Rows and blind of a segment formed anew, its override removed first where `clears` says so. -/
def State.relitSeg (s : State) (g : LbuGroup) (clears : Bool) (j : Seg) (l : LbuSeg) : LbuSeg :=
  s.blindSet j (bared clears (s.rowsSet g j l))

theorem bared_fields (clears : Bool) (l : LbuSeg) :
    bared clears l = { l with blind := (bared clears l).blind } := by
  cases clears <;> rfl

theorem State.relitSeg_fields (s : State) (g : LbuGroup) (clears : Bool) (j : Seg) (l : LbuSeg) :
    s.relitSeg g clears j l = { l with
      window := (s.rowsSet g j l).window, inner := (s.rowsSet g j l).inner
      blind := (s.blindSet j (bared clears l)).blind } := by
  have rows := s.rowsSet_rows g j l
  unfold State.relitSeg
  generalize s.rowsSet g j l = r at rows
  have blind : (s.blindSet j (bared clears r)).blind = (s.blindSet j (bared clears l)).blind :=
    s.blindSet_of_rows j (by rw [bared_fields, bared_fields clears l, rows]) (by rw [rows]; cases clears <;> rfl)
  rw [State.blindSet_blind, blind, bared_fields, rows]

/-- The rows formed depend on the daylight and the rows before. -/
theorem State.rowsSet_congr (s : State) (g : LbuGroup) (i : Seg) {l l' : LbuSeg} (hd : l'.daylight = l.daylight)
    (hw : l'.window = l.window) (hi : l'.inner = l.inner) :
    (s.rowsSet g i l').window = (s.rowsSet g i l).window ∧ (s.rowsSet g i l').inner = (s.rowsSet g i l).inner := by
  rw [State.rowsSet_eq, State.rowsSet_eq, s.rowAim_daylight g i hd, hw, hi]
  split
  · cases (s.withSeg i l).rowAim g i with
    | none => exact ⟨hw, hi⟩
    | some a => exact ⟨rfl, rfl⟩
  · exact ⟨hw, hi⟩

theorem State.relitSeg_again (s : State) (g : LbuGroup) (clears : Bool) (j : Seg) (l : LbuSeg) :
    s.relitSeg g clears j (s.relitSeg g clears j l) = s.relitSeg g clears j l := by
  have once := s.relitSeg_fields g clears j l
  have twice := s.relitSeg_fields g clears j (s.relitSeg g clears j l)
  generalize s.relitSeg g clears j l = r at once twice ⊢
  obtain ⟨window, inner⟩ := s.rowsSet_congr g j (l := s.rowsSet g j l) (l' := r)
    (by rw [once, State.rowsSet_rows]) (by rw [once]) (by rw [once])
  have override := (s.blindSet_keeps j (bared clears l)).1
  have blind : (s.blindSet j (bared clears r)).blind = (s.blindSet j (s.blindSet j (bared clears l))).blind := by
    refine s.blindSet_of_rows j (by rw [bared_fields, once, State.blindSet_blind, bared_fields clears l]) ?_
    cases clears with
    | false =>
      show r.blind = _
      rw [once]
    | true =>
      have bare : r.blind = (s.blindSet j (bared true l)).blind := by rw [once]
      show ({ r.blind with override := none } : Blind) = _
      rw [bare, show (none : Option Nat) = (s.blindSet j (bared true l)).blind.override from override.symm]
  rw [State.rowsSet_again] at window inner
  rw [State.blindSet_again] at blind
  rw [twice, window, inner, blind, once]

/-- A set's segments lit anew as the record that names the set has it. -/
theorem State.relitSeg_eq (s : State) (g : LbuGroup) (clears : Bool) (j : Seg) :
    s.relitSeg g clears j (s.lbu.segs.get j) = { s.lbu.segs.get j with
      window := ((s.formRows g j).lbu.segs.get j).window
      inner := ((s.formRows g j).lbu.segs.get j).inner
      blind := s.blindResolved j clears } := by
  rw [State.relitSeg_fields, State.rowsSet_self]
  cases clears with
  | false => rw [State.blindResolved_kept, bared, if_neg Bool.false_ne_true]
  | true => rw [State.blindResolved_cleared, bared, if_pos rfl]

theorem State.blindResolved_eq (s : State) (j : Seg) (clears : Bool) :
    s.blindResolved j clears = (s.blindSet j (bared clears (s.lbu.segs.get j))).blind := by
  cases clears with
  | false => exact s.blindResolved_kept j
  | true => rfl

/-- A scene changed: the groups that the test names have their rows and blinds formed anew. -/
theorem State.sceneChanged_lit (s : State) (owned : LbuGroup → Bool) :
    s.Lit (s.sceneChanged owned) fun j l =>
      (s.lbu.groups.filter owned).foldl (fun l g => litIn g.segs (s.relitSeg g true) j l) l :=
  State.Lit.foldl (φ := fun s (g : LbuGroup) => litIn g.segs (s.relitSeg g true))
    (fun s g => by
      have cleared := State.clearOverrides_lit (s.formGroupRows g) g.segs
      rw [State.blindSet_relit (s.formGroupRows_relit g)] at cleared
      exact (s.formGroupRows_lit g).both cleared)
    (fun h => by
      funext g
      unfold State.relitSeg
      rw [State.rowsSet_relit h, State.blindSet_relit h]) _ s

/-- Blinds of several sets resolved anew. -/
theorem State.resolveAll_lit (s : State) (groups : List LbuGroup) :
    s.Lit (groups.foldl (fun s g => s.resolveBlinds g.segs) s) fun j l =>
      groups.foldl (fun l g => litIn g.segs s.blindSet j l) l :=
  State.Lit.foldl (φ := fun s (g : LbuGroup) => litIn g.segs s.blindSet) (fun s g => s.resolveBlinds_lit g.segs)
    (fun h => by rw [State.blindSet_relit h]) groups s

/-- The overrides of several sets removed. -/
theorem State.clearAll_lit {β : Type} (segs : β → Segs) (s : State) (groups : List β) :
    s.Lit (groups.foldl (fun s b => s.clearOverrides (segs b)) s) fun j l =>
      groups.foldl (fun l b => litIn (segs b) (fun j l => s.blindSet j (bared true l)) j l) l :=
  State.Lit.foldl (φ := fun s b => litIn (segs b) fun j l => s.blindSet j (bared true l))
    (fun s b => s.clearOverrides_lit (segs b)) (fun h => by rw [State.blindSet_relit h]) groups s

theorem bared_of_none {clears : Bool} {l : LbuSeg} (h : l.blind.override = none) : bared clears l = l := by
  cases clears with
  | false => rfl
  | true =>
    obtain ⟨_, _, _, _, blind⟩ := l
    cases blind
    cases h
    rfl

/-- Cleared and resolved already, a segment stays as it is. -/
theorem State.blindSet_relitSeg (s : State) (g : LbuGroup) (clears : Bool) (j : Seg) (l : LbuSeg) :
    s.blindSet j (bared clears (s.relitSeg g true j l)) = s.relitSeg g true j l := by
  have override : (s.relitSeg g true j l).blind.override = none := (s.blindSet_keeps j _).1
  rw [bared_of_none override, State.relitSeg, State.blindSet_again]

theorem State.blindSet_cleared_again (s : State) (clears : Bool) (j : Seg) (l : LbuSeg) :
    s.blindSet j (bared clears (s.blindSet j (bared clears l))) = s.blindSet j (bared clears l) := by
  cases clears with
  | false => exact s.blindSet_again j l
  | true =>
    have override : (s.blindSet j (bared true l)).blind.override = none := (s.blindSet_keeps j _).1
    rw [bared_of_none override, State.blindSet_again]

/-- An override that is gone stays gone through acts that keep or remove it. -/
theorem foldl_litIn_gone {β : Type} (segs : β → Segs) (f : β → Seg → LbuSeg → LbuSeg)
    (keeps : ∀ b j l, l.blind.override = none → (f b j l).blind.override = none) (j : Seg) (l : List β) (x : LbuSeg)
    (gone : x.blind.override = none) :
    (l.foldl (fun x b => litIn (segs b) (f b) j x) x).blind.override = none :=
  List.foldlRecOn (motive := fun y : LbuSeg => y.blind.override = none) l _ gone fun y hy b _ => by
    unfold litIn
    split
    · exact keeps b j y hy
    · exact hy

/-- An override is gone once one of the acts that remove it has reached the segment. -/
theorem foldl_litIn_removed {β : Type} (segs : β → Segs) (f : β → Seg → LbuSeg → LbuSeg)
    (removes : ∀ b j l, (f b j l).blind.override = none) {j : Seg} {l : List β} {r : β} (mem : r ∈ l)
    (hj : j ∈ segList (segs r)) (x : LbuSeg) :
    (l.foldl (fun x b => litIn (segs b) (f b) j x) x).blind.override = none := by
  obtain ⟨before, after, rfl⟩ := List.append_of_mem mem
  rw [List.foldl_append, List.foldl_cons]
  refine foldl_litIn_gone segs f (fun b j l _ => removes b j l) j after _ ?_
  rw [litIn, if_pos hj]
  exact removes r j _

theorem State.relitSeg_override (s : State) (g : LbuGroup) (j : Seg) (l : LbuSeg) :
    (s.relitSeg g true j l).blind.override = none := (s.blindSet_keeps j _).1

/-! ### The statements' words -/

theorem State.GroupLit.of_relit {u t : State} {r : LbuGroup} {clears : Bool}
    (h : ∀ j ∈ segList r.segs, (∀ x ∈ u.lbu.groups, j ∈ segList x.segs → x = r) →
      t.lbu.segs.get j = u.relitSeg r clears j (u.lbu.segs.get j)) : u.GroupLit t r true clears :=
  fun j hj _ only =>
    (h j hj fun x hx hjx => only x hx (mem_segList.1 hjx)).trans (u.relitSeg_eq r clears j)

theorem State.GroupLit.of_resolved {u t : State} {r : LbuGroup} {clears : Bool}
    (h : ∀ j ∈ segList r.segs, (∀ x ∈ u.lbu.groups, j ∈ segList x.segs → x = r) →
      t.lbu.segs.get j = u.blindSet j (bared clears (u.lbu.segs.get j))) : u.GroupLit t r false clears :=
  fun j hj _ only => by
    rw [h j hj fun x hx hjx => only x hx (mem_segList.1 hjx), State.blindSet_blind, State.blindResolved_eq,
      bared_fields]
    rfl

theorem State.ownerOf_entry (s : State) (g : LbuGroup) (ref : Nat) :
    s.ownerOf g = .entry ref ↔ g.level = .session ∧ g.governing = some ref := by
  unfold State.ownerOf
  cases g.level with
  | session => cases g.governing <;> simp
  | none | prepare =>
    dsimp only
    split <;> simp

theorem State.ownerOf_beq (s : State) (g : LbuGroup) (ref : Nat) :
    (s.ownerOf g == .entry ref) = (g.level == .session && g.governing == some ref) := by
  rw [Bool.eq_iff_iff, beq_iff_eq, s.ownerOf_entry, Bool.and_eq_true, beq_iff_eq, beq_iff_eq]

/-- Driven outputs are those a further drive gives. -/
theorem State.drive_drive_os (s : State) : s.drive.os = s.drive.drive.os :=
  (State.drive_os_congr (s := s) (t := s.drive) rfl rfl rfl rfl).symm

end Sys2Proof.Machine

/-! The lights as arrivals move them: blinds by hand, scene changes, daylight and glare, OT's reports, fades and
the blind's own motion. -/

namespace Sys2Proof.Machine

/-! ### Arrivals that move LBU's segments alone -/

theorem State.take_sameLights (s : State) (c : Instr) : s.SameLights (s.take c) := ⟨rfl, rfl, rfl, rfl, rfl⟩

/-- An event that moves LBU's segments alone. -/
theorem State.event_relit {s : State} (ha : s.alive = true) (c : Instr) {act : State → State}
    (relit : (s.take c).Relit (act (s.take c))) :
    ∃ t, s.event c act = t ∧ t.lbu.segs = (act (s.take c)).lbu.segs ∧
      (t = { s.take c with lbu := { s.lbu with segs := t.lbu.segs }, os := t.os } ∧ t.os = t.drive.os) := by
  refine ⟨_, State.event_taken ha c act, rfl, ?_, State.drive_drive_os _⟩
  generalize act (s.take c) = w at relit ⊢
  rw [relit]
  rfl

/-- A panel command in RUN that moves BT's entries, OT's records and LBU's segments. -/
theorem State.panel_relit {s : State} {i : Seg} (hs : s.TakesPanel i) (hr : s.inRun = true)
    {act : State → Answered} {bytes : List Byte} {w : State} {r : Reason} {payload : List Byte}
    (answer : act ((s.presence i).echoFrame bytes) = (w, r, payload))
    (relit : w = { (s.presence i).echoFrame bytes with bt := w.bt, ot := w.ot, lbu := w.lbu }) :
    ∃ t, s.panel i bytes (inRunOnly act) = t ∧ t.bt = w.bt ∧ t.ot = w.ot ∧ t.lbu = w.lbu ∧ t.os = t.drive.os ∧
      t = { s.presence i with
        bt := w.bt, ot := w.ot, lbu := w.lbu, os := t.os, rl := (s.panelReplied bytes r payload).rl } := by
  have run : ((s.presence i).echoFrame bytes).inRun = true := (s.presence_inRun i).trans hr
  have rl : (s.presence i).rl = s.rl := by rw [s.presence_frame i]
  let u : State := { s.presence i with bt := w.bt, ot := w.ot, lbu := w.lbu }
  have back : w = u.echoFrame bytes := relit
  refine ⟨_, State.panel_answered (u := u) hs ((inRunOnly_run run act).trans (by rw [answer, back])), rfl, rfl, rfl,
    State.drive_drive_os _, ?_⟩
  show (({ u.panelReplied bytes r payload with os := _ } : State)) = _
  have same : (u.panelReplied bytes r payload).rl = (s.panelReplied bytes r payload).rl := by
    show ({ (s.presence i).rl with state := _, frame := _, reply := _, echo := _, breakEcho := _ } : Rl) = _
    rw [rl]
    rfl
  rw [← same]
  rfl

/-! ### BLIND (R158) -/

/-- What a request for the blinds of a group leaves. -/
theorem State.blindRequest_taken {s : State} {i : Seg} (hs : s.TakesPanel i) (hr : s.inRun = true)
    {act : State → Answered} {bytes : List Byte} {o : Blind → Option Nat}
    (answer : act ((s.presence i).echoFrame bytes) =
      answerOk (((s.presence i).echoFrame bytes).blindRequest (s.panelGroup i).segs o)) :
    ∃ t, s.panel i bytes (inRunOnly act) = t ∧
      (∀ j ∈ segList (s.panelGroup i).segs, s.configured j = true →
        (t.blind j).override = o (s.blind j) ∧ (t.blind j).position = (s.blind j).position ∧
        t.lbu.segs.get j = { s.lbu.segs.get j with blind :=
          ((s.presence i).mapBlind j fun b => { b with override := o b }).blindResolved j false }) ∧
      (∀ j, j ∉ segList (s.panelGroup i).segs → t.lbu.segs.get j = s.lbu.segs.get j) ∧
      t = { s.presence i with lbu := t.lbu, os := t.os, rl := (s.panelReplied bytes .ok []).rl } ∧
      t.lbu = { s.lbu with segs := t.lbu.segs } ∧ t.os = t.drive.os := by
  let p := s.presence i
  have lit := State.blindRequest_lit (p.echoFrame bytes) (s.panelGroup i).segs o
  have echoed : p.SameLights (p.echoFrame bytes) := ⟨rfl, rfl, rfl, rfl, rfl⟩
  have lbu : p.lbu = s.lbu := by
    show (s.presence i).lbu = _
    rw [s.presence_frame i]
  have cs : p.cs = s.cs := by
    show (s.presence i).cs = _
    rw [s.presence_frame i]
  have segs : (p.echoFrame bytes).lbu.segs = s.lbu.segs := congrArg Lbu.segs lbu
  rw [echoed.blindSet] at lit
  generalize (p.echoFrame bytes).blindRequest (s.panelGroup i).segs o = w at lit answer
  obtain ⟨relit, at'⟩ := lit
  rw [segs] at at'
  have frame : w = { p.echoFrame bytes with bt := w.bt, ot := w.ot, lbu := w.lbu } := by
    rw [relit]
  obtain ⟨t, taken, bt, ot, tlbu, os, rest⟩ := State.panel_relit hs hr answer frame
  refine ⟨t, taken, fun j hj hc => ?_, fun j hj => ?_, ?_, ?_, os⟩
  · have configured : (p.echoFrame bytes).configured j = true := (congrFun (configured_congr cs) j).trans hc
    have got := at' j
    rw [← tlbu, litIn, if_pos hj, if_pos configured] at got
    obtain ⟨override, position⟩ := p.blindSet_keeps j (overridden o (s.lbu.segs.get j))
    have blind : ((p.mapBlind j fun b => { b with override := o b }).blindResolved j false) =
        (p.blindSet j (overridden o (s.lbu.segs.get j))).blind := by
      have moved := (p.mapBlind_relit j fun b => { b with override := o b }).sameLights.blindSet
      rw [State.blindResolved_kept, moved, ← lbu]
      exact congrArg (fun l => (p.blindSet j l).blind) (p.mapLbuSeg_get j _)
    refine ⟨?_, ?_, ?_⟩
    · exact (congrArg (fun l : LbuSeg => l.blind.override) got).trans override
    · exact (congrArg (fun l : LbuSeg => l.blind.position) got).trans position
    · rw [got, blind, State.blindSet_blind]
      rfl
  · have got := at' j
    rwa [← tlbu, litIn, if_neg hj] at got
  · have bt' : w.bt = p.bt := by rw [relit]; rfl
    have ot' : w.ot = p.ot := by rw [relit]; rfl
    rw [bt', ot', ← tlbu] at rest
    exact rest
  · rw [tlbu, relit, ← lbu]
    rfl

/-- Settles O42: each request is BLIND's walk over the group (State.blindRequest_taken). -/
theorem blindRequestsSetTheOverrides : Obligations.BlindRequestsSetTheOverrides := by
  intro s i x hs ho hr
  have group (bytes : List Byte) : ((s.presence i).echoFrame bytes).panelGroup i = s.panelGroup i := by
    show (((s.presence i).groupOf? i).getD _) = _
    rw [State.groupOf?, s.presence_frame i]
    rfl
  have sets {act : State → Answered} {bytes : List Byte} {o : Blind → Option Nat}
      (answer : act ((s.presence i).echoFrame bytes) =
        answerOk (((s.presence i).echoFrame bytes).blindRequest
          (((s.presence i).echoFrame bytes).panelGroup i).segs o)) :=
    State.blindRequest_taken hs hr (answer.trans (by rw [group]))
  refine ⟨?_, ?_, ?_, fun r h => ?_⟩
  · obtain ⟨t, taken, rest⟩ := sets (act := State.blindTo i 0 x) rfl
    exact ⟨t, congrArg Host.Outcome.next taken, rest⟩
  · obtain ⟨t, taken, rest⟩ := sets (act := State.blindHalt i) rfl
    exact ⟨t, congrArg Host.Outcome.next taken, rest⟩
  · obtain ⟨t, taken, rest⟩ := sets (act := State.blindFree i) rfl
    exact ⟨t, congrArg Host.Outcome.next taken, rest⟩
  · obtain ⟨table, ot, reports, hp, -, -, reply⟩ := State.panel_pressed hs ho hr
    rw [hp]
    refine congrArg Host.Outcome.next (reply (act := State.blindTo i r x) (if_pos ?_) rfl rfl)
    omega

/-! ### The blind's own events -/

/-- An event that changes one blind. -/
theorem State.blind_event {s : State} (ha : s.alive = true) {c : Instr} {i : Seg} {f : Blind → Blind} {x : Blind}
    {act : State → State} (hact : act (s.take c) = (s.take c).mapBlind i f) (hx : f (s.blind i) = x) :
    ∃ t, s.event c act = t ∧
      t.lbu = { s.lbu with segs := s.lbu.segs.set i { s.lbu.segs.get i with blind := x } } ∧
      t = { s.take c with lbu := t.lbu, os := t.os } ∧ t.os = t.drive.os := by
  refine ⟨_, (State.event_taken ha c act).trans (congrArg State.drive hact), ?_, rfl, State.drive_drive_os _⟩
  rw [← hx]
  rfl

theorem isMoving_eq (b : Blind) : isMoving b = true ↔ b.motion = .movingUp ∨ b.motion = .movingDown := by
  unfold isMoving
  cases b.motion <;> simp

theorem stepBlind_moving {full : Nat} {b : Blind} (hd : b.driveUp = none) (hm : isMoving b = true) :
    stepBlind full b = { b with
      runSteps := b.runSteps + 1
      position := runPlace b.runStart b.target (b.runSteps + 1) full
      uncharged := b.uncharged + 1
      motion := if runPlace b.runStart b.target (b.runSteps + 1) full = b.target then .stopped else b.motion } := by
  unfold stepBlind
  simp only [hd, Option.isSome_none, Bool.false_eq_true, if_false]
  obtain motion | motion := (isMoving_eq b).1 hm
  all_goals simp only [motion]

theorem chargeBlind_moving {b : Blind} (hd : b.driveUp = none) (hm : isMoving b = true) :
    chargeBlind b = { b with
      budget := b.budget - 1, uncharged := b.uncharged - 10
      motion := if b.budget ≤ 1 then .held else b.motion } := by
  have zero : (b.budget - 1 == 0) = decide (b.budget ≤ 1) := by
    rw [Bool.eq_iff_iff, beq_iff_eq, decide_eq_true_iff]
    omega
  unfold chargeBlind
  simp only [hd, hm, Option.isNone_none, Bool.true_or, Bool.true_and, if_true, zero, decide_eq_true_eq]

theorem refillBlind_rest {full : Nat} {b : Blind} (hd : b.driveUp = none) (hm : isMoving b = false) :
    refillBlind full b = leaveHeld full { b with budget := min (3 * full) (b.budget + 1), rest := b.rest - 40 } := by
  unfold refillBlind
  simp only [hd, hm, Option.isNone_none, Bool.not_false, Bool.and_self, if_true]

theorem leaveHeld_other {full : Nat} {b : Blind} (h : b.motion ≠ .held) : leaveHeld full b = b :=
  if_neg (by simp [h])

theorem leaveHeld_held {full : Nat} {b : Blind} (h : b.motion = .held) :
    leaveHeld full b = if b.budget < full / 2 then b
      else if b.target = b.position then { b with motion := .stopped }
      else if b.target < b.position ↔ b.lastDir = .up then startRun b b.target
      else startReversing b b.target := by
  unfold leaveHeld
  by_cases low : b.budget < full / 2
  · rw [if_pos low, if_neg (by simp [h, low])]
  · rw [if_neg low, if_pos (by simp [h]; omega)]
    simp only [eq_iff_iff]

/-- A blind at rest takes a target (R160). -/
theorem handTarget_stopped {b : Blind} (hd : b.driveUp = none) (hm : b.motion = .stopped) (x : Nat) :
    handTarget b x = takeAtRest b x := by
  unfold handTarget
  simp only [hd, Option.isSome_none, Bool.false_eq_true, if_false, hm]

theorem startRun_eq (b : Blind) (x : Nat) : startRun b x = { b with
    target := x
    motion := if x < b.position then .movingUp else .movingDown
    lastDir := if x < b.position then .up else .down
    rest := 0, runStart := b.position, runSteps := 0, reversing := none } := by
  unfold startRun
  simp only

theorem takeAtRest_eq (b : Blind) (x : Nat) : takeAtRest b x =
    if x = b.position then { b with target := x, motion := .stopped, reversing := none }
    else if 1 ≤ b.budget then startRun b x
    else { b with target := x, motion := .held, reversing := none } := rfl

theorem endDriveUp_handed {full : Nat} (h : 1 ≤ full) (b : Blind) (x : Nat) :
    handTarget (endDriveUp full b) x = { endDriveUp full b with
      target := x, reversing := none
      motion := if x = 0 then .stopped else .movingDown
      lastDir := if x = 0 then .up else .down } := by
  rw [handTarget_stopped rfl rfl, takeAtRest_eq]
  by_cases zero : x = 0
  · rw [if_pos (show x = (endDriveUp full b).position from zero), if_pos zero, if_pos zero]
    rfl
  · rw [if_neg (show ¬x = (endDriveUp full b).position from zero),
      if_pos (show 1 ≤ (endDriveUp full b).budget from Nat.le_trans h (by show full ≤ 3 * full; omega)), startRun_eq,
      if_neg (show ¬x < (endDriveUp full b).position from Nat.not_lt_zero x),
      if_neg (show ¬x < (endDriveUp full b).position from Nat.not_lt_zero x), if_neg zero, if_neg zero]
    rfl

/-- A target that reaches a moving blind (R160). -/
theorem handTarget_moving {b : Blind} (hd : b.driveUp = none) (hm : isMoving b = true) (x : Nat) :
    handTarget b x =
      if x = b.position then { b with target := x, motion := .stopped }
      else if (b.motion = .movingUp ∧ x < b.position) ∨ (b.motion = .movingDown ∧ b.position < x) then
        { b with target := x, runStart := b.position, runSteps := 0 }
      else startReversing b x := by
  have taken : handTarget b x = takeMoving b x
      (decide ((b.motion = .movingUp ∧ x < b.position) ∨ (b.motion = .movingDown ∧ b.position < x))) := by
    unfold handTarget
    simp only [hd, Option.isSome_none, Bool.false_eq_true, if_false]
    obtain motion | motion := (isMoving_eq b).1 hm <;> simp [motion]
  rw [taken, takeMoving]
  simp only [decide_eq_true_eq]

theorem handTarget_reversing {b : Blind} (hd : b.driveUp = none) (hm : b.motion = .reversing) (x : Nat) :
    handTarget b x = { b with target := x } := by
  cases b
  cases hd
  cases hm
  rfl

theorem handTarget_held {b : Blind} (hd : b.driveUp = none) (hm : b.motion = .held) (x : Nat) :
    handTarget b x =
      if x = b.position then { b with target := x, motion := .stopped } else { b with target := x } := by
  cases b
  cases hd
  cases hm
  rfl

/-! ### A target resolved (R157) -/

theorem State.resolveBlind_of {s : State} {i : Seg} (hr : s.inRun = true) (hc : s.configured i = true) {g : LbuGroup}
    (hg : s.lbuGroupOf? i = some g) :
    (s.resolveBlind i).blind i = ((s.resolved i g).map (setTarget (s.blind i))).getD (s.blind i) := by
  unfold State.resolveBlind
  rw [if_pos (by rw [hr, hc]; rfl), hg, Option.bind_some]
  cases s.resolved i g with
  | none => rfl
  | some a => exact congrArg LbuSeg.blind (s.mapLbuSeg_get i _)

/-- A resolution that gives a base and a target. -/
theorem State.resolveBlind_aimed {s : State} {i : Seg} (hr : s.inRun = true) (hc : s.configured i = true)
    {g : LbuGroup} (hg : s.lbuGroupOf? i = some g) {base target : Nat} {kept : Option Nat}
    (h : s.resolved i g = some ⟨base, target, kept⟩) :
    (s.resolveBlind i).blind i = (
      let b1 : Blind := { s.blind i with base := base, keptBase := kept }
      if target = (s.blind i).target then b1 else handTarget b1 target) := by
  rw [State.resolveBlind_of hr hc hg, h]
  rfl

theorem State.resolved_override {s : State} {i : Seg} (g : LbuGroup) {o : Nat} (h : (s.blind i).override = some o) :
    s.resolved i g = some ⟨o, o, none⟩ := by
  unfold State.resolved
  simp only [show (s.lbu.segs.get i).blind.override = some o from h]

theorem State.resolved_shown {s : State} {i : Seg} {g : LbuGroup} {n : Nat} (h : (s.blind i).override = none)
    (hs : s.shownOf g = .scene n) :
    s.resolved i g = some ⟨s.sceneBase n (s.blind i),
      if (s.lbu.segs.get i).glare.active = true then max (s.sceneBase n (s.blind i)) (s.segRec i).glarePosition
        else s.sceneBase n (s.blind i), none⟩ := by
  unfold State.resolved
  simp only [show (s.lbu.segs.get i).blind.override = none from h, hs]
  rfl

theorem State.resolved_unread {s : State} {i : Seg} {g : LbuGroup} (h : (s.blind i).override = none)
    (hs : s.shownOf g = .unread) : s.resolved i g = none := by
  unfold State.resolved
  simp only [show (s.lbu.segs.get i).blind.override = none from h, hs]

theorem State.resolved_prepared {s : State} {i : Seg} {g : LbuGroup} {ref n : Nat} (h : (s.blind i).override = none)
    (hs : s.shownOf g = .nothing) (hl : g.level = .prepare) (hg : g.governing = some ref)
    (hn : s.sceneOfEntry ref = .scene n) :
    s.resolved i g = some ⟨s.sceneBase n (s.blind i),
      if (s.lbu.segs.get i).glare.active = true then max (s.sceneBase n (s.blind i)) (s.segRec i).glarePosition
        else s.sceneBase n (s.blind i),
      if s.lbuPeople g.segs then some (leftBase (s.blind i)) else none⟩ := by
  unfold State.resolved
  simp only [show (s.lbu.segs.get i).blind.override = none from h, hs, hl, hg, hn]
  rfl

theorem State.resolved_vacant {s : State} {i : Seg} {g : LbuGroup} (h : (s.blind i).override = none)
    (hs : s.shownOf g = .nothing) (hl : g.level ≠ .prepare ∨ g.governing = none) :
    s.resolved i g = some ⟨(s.segRec i).vacantPosition, (s.segRec i).vacantPosition,
      if s.lbuPeople g.segs then some (leftBase (s.blind i)) else none⟩ := by
  unfold State.resolved
  simp only [show (s.lbu.segs.get i).blind.override = none from h, hs]
  split
  next ref level governing => exact absurd hl (by simp [level, governing])
  · rfl

theorem State.sceneOfEntry_of {s : State} {ref n : Nat} (h : (s.entry? ref).bind (·.vol.currentScene) = some n) :
    s.sceneOfEntry ref = .scene n := by
  unfold State.sceneOfEntry
  rw [h]

/-- Settles O58: the steps by the blind's routine, a fresh target by the cases of State.resolved, its arrival by
those of handTarget. -/
theorem blindMotionAndBudgetFollowTheirRules : Obligations.BlindMotionAndBudgetFollowTheirRules := by
  refine ⟨?_, ?_, ?_⟩
  · intro s i ha b full becomes run far place
    have becomes' {c : Instr} {f : Blind → Blind} {x : Blind} {act : State → State}
        (hc : exec c s = .next (s.event c act)) (hact : act (s.take c) = (s.take c).mapBlind i f)
        (hx : f b = x) : becomes c x := by
      obtain ⟨t, taken, rest⟩ := State.blind_event ha hact hx
      exact ⟨t, hc.trans (congrArg Host.Outcome.next taken), rest⟩
    refine ⟨fun hd hm => ?_, fun hd => ?_, fun hm => ?_, fun hd hm => ?_, fun hc hd hm hh => ?_, fun hc hd hm => ?_,
      fun hd hf => ⟨fun hr => ?_, fun hr hz => ?_, fun hr hz => ?_⟩⟩
    · exact becomes' (f := stepBlind full) rfl rfl (stepBlind_moving hd hm)
    · refine becomes' (f := stepBlind full) rfl rfl ?_
      have up : runPlace b.runStart 0 (b.runSteps + 1) full = b.runStart - far := by
        unfold runPlace
        rw [if_pos (Nat.zero_le _)]
        exact Nat.max_eq_right (Nat.zero_le _)
      rw [← up]
      exact if_pos hd
    · refine becomes' (f := endReversing) rfl rfl ?_
      unfold endReversing
      simp only [hm, takeAtRest_eq, startRun_eq]
      rfl
    · exact becomes' (f := chargeBlind) rfl rfl (chargeBlind_moving hd hm)
    · refine becomes' (f := refillBlind full) rfl (if_pos hc) ?_
      exact (refillBlind_rest hd hm).trans (leaveHeld_other hh)
    · refine becomes' (f := refillBlind full) rfl (if_pos hc) ?_
      refine (refillBlind_rest hd (by simp [isMoving, hm])).trans ((leaveHeld_held
        (b := { b with budget := min (3 * full) (b.budget + 1), rest := b.rest - 40 }) hm).trans ?_)
      rw [startRun_eq]
      rfl
    · refine becomes' (f := fun b => if s.inRun then handTarget (endDriveUp full b) b.target
        else { endDriveUp full b with target := 0 }) rfl (if_pos hd) ?_
      simp only [hr, Bool.false_eq_true, if_false]
      rfl
    · refine becomes' (f := fun b => if s.inRun then handTarget (endDriveUp full b) b.target
        else { endDriveUp full b with target := 0 }) rfl (if_pos hd) ?_
      simp only [hr, if_true, endDriveUp_handed hf, if_pos hz]
      rfl
    · refine becomes' (f := fun b => if s.inRun then handTarget (endDriveUp full b) b.target
        else { endDriveUp full b with target := 0 }) rfl (if_pos hd) ?_
      simp only [hr, if_true, endDriveUp_handed hf, if_neg (Nat.pos_iff_ne_zero.1 hz)]
      rfl
  · intro s i g hr hc hg b left passing raised vacant shows prepared becomes
    have passing_eq : (if s.lbuPeople g.segs then some (leftBase (s.blind i)) else none) = passing := by
      show _ = (match standingOf s.lbu.occ g.segs with
        | some o => if o.occupied = true ∨ o.inherited = true then some left else none
        | none => none)
      unfold State.lbuPeople
      cases standingOf s.lbu.occ g.segs with
      | none => rfl
      | some o => simp only [Option.any_some, Bool.or_eq_true]; rfl
    refine ⟨fun o ho => ?_, fun n ho hs => ?_, fun ho hs => ?_, fun n ho hs hp => ?_, fun ho hs hl => ?_⟩
    · exact State.resolveBlind_aimed hr hc hg (State.resolved_override g ho)
    · exact State.resolveBlind_aimed hr hc hg (State.resolved_shown ho hs)
    · rw [State.resolveBlind_of hr hc hg, State.resolved_unread ho hs]
      rfl
    · by_cases level : g.level = .prepare
      · cases governing : g.governing with
        | none => simp [prepared, level, governing] at hp
        | some ref =>
          have scene : s.sceneOfEntry ref = .scene n :=
            State.sceneOfEntry_of (by simpa [prepared, level, governing] using hp)
          have aim := State.resolved_prepared ho hs level governing scene
          rw [passing_eq] at aim
          exact State.resolveBlind_aimed hr hc hg aim
      · simp [prepared, level] at hp
    · have aim := State.resolved_vacant ho hs hl
      rw [passing_eq] at aim
      exact State.resolveBlind_aimed hr hc hg aim
  · intro b x aimed run ahead
    refine ⟨fun hd => ?_, fun hd hm => ?_, fun hd hm => handTarget_moving hd hm x, fun hd hm => ?_, fun hd hm => ?_⟩
    · exact if_pos hd
    · rw [handTarget_stopped hd hm, takeAtRest_eq, startRun_eq]
      rw [← hm]
    · exact handTarget_reversing hd hm x
    · exact handTarget_held hd hm x

end Sys2Proof.Machine

/-! Fades, scene changes, daylight and glare, and OT's reports at AL and LBU. -/

namespace Sys2Proof.Machine

/-! ### Fades (R152, R153) -/

theorem State.formRows_made {s : State} {g : LbuGroup} {i : Seg} (hr : s.inRun = true) (hc : s.configured i = true) :
    (s.formRows g i).lbu.segs.get i = ((s.rowAim g i).map fun a => { s.lbu.segs.get i with
      window := applyRow a.window a.fade (s.lbu.segs.get i).window
      inner := applyRow a.inner a.fade (s.lbu.segs.get i).inner }).getD (s.lbu.segs.get i) := by
  rw [← State.rowsSet_self, State.rowsSet_eq, if_pos (by rw [hr, hc]; rfl), State.withSeg_self]

/-- What the group shows to people: nothing where it is vacant. -/
def State.shownLit (s : State) (g : LbuGroup) : Shown := if s.lbuOccupied g.segs = true then s.shownOf g else .nothing

theorem State.rowAim_scene {s : State} {g : LbuGroup} {n : Nat} (i : Seg) (h : s.shownLit g = .scene n) :
    s.rowAim g i = some ⟨windowTarget s.suite (s.comm.scene n) (s.lbu.segs.get i).daylight,
      (s.comm.scene n).inner, (s.comm.scene n).fade, false⟩ := by
  unfold State.shownLit at h
  unfold State.rowAim
  split at h
  next people => rw [if_pos people, h]
  · cases h

theorem State.rowAim_nothing {s : State} {g : LbuGroup} (i : Seg) (h : s.shownLit g = .nothing) :
    s.rowAim g i = some darkAim := by
  unfold State.shownLit at h
  unfold State.rowAim
  split at h
  next people => rw [if_pos people, h]
  next vacant => rw [if_neg vacant]

theorem State.rowAim_unread {s : State} {g : LbuGroup} (i : Seg) (h : s.shownLit g = .unread) :
    s.rowAim g i = none := by
  unfold State.shownLit at h
  unfold State.rowAim
  split at h
  next people => rw [if_pos people, h]
  · cases h

theorem windowTarget_eq (c : SuiteRec) (r : SceneRec) (daylight : Option Nat) :
    windowTarget c r daylight = if r.harvesting = true then
      (daylight.map fun lux => max (r.window - lux * c.harvestGain / 256) (min r.window c.minimumLevel)).getD r.window
      else r.window := by
  unfold windowTarget
  cases daylight <;> rfl

theorem State.shownOf_session {s : State} {g : LbuGroup} {ref : Nat} (hl : g.level = .session)
    (hg : g.governing = some ref) : s.shownOf g = s.sceneOfEntry ref := by
  unfold State.shownOf State.ownerOf
  simp only [hl, hg]

theorem State.shownOf_ungoverned {s : State} {g : LbuGroup} (hl : g.level = .session) (hg : g.governing = none) :
    s.shownOf g = .nothing := by
  unfold State.shownOf State.ownerOf
  simp only [hl, hg]

theorem State.ownerOf_walkIn {s : State} {g : LbuGroup} (hl : g.level ≠ .session) :
    s.ownerOf g = if s.lbuWalkIn g.segs then .walkIn else .nobody := by
  unfold State.ownerOf
  cases h : g.level with
  | session => exact absurd h hl
  | none | prepare => rfl

theorem applyRow_new {T : Nat} {r : LampRow} (F : Nat) (h : T ≠ r.target) : applyRow T F r =
    if T = r.level then ⟨r.level, T, none⟩ else if F = 0 then ⟨T, T, none⟩ else ⟨r.level, T, some ⟨r.level, F, 0⟩⟩ :=
  if_neg h

/-- A fade under way, as it stands after k tenths. -/
theorem stepRow_iterate {r : LampRow} {F : Nat} (hf : r.fade = some ⟨r.level, F, 0⟩) {k : Nat} (hk : k < 10 * F) :
    stepRow^[k] r = ⟨fadeLevel r.level r.target F k, r.target, some ⟨r.level, F, k⟩⟩ := by
  induction k with
  | zero =>
    rw [← hf]
    unfold fadeLevel
    simp only [Nat.mul_zero, Nat.zero_div, Nat.sub_zero, Nat.add_zero, ite_self]
    rfl
  | succ k ih =>
    rw [Function.iterate_succ_apply', ih (by omega)]
    exact if_neg (show ¬10 * F ≤ k + 1 by omega)

/-- A fade ends at its target after its whole length. -/
theorem stepRow_iterate_end {r : LampRow} {F : Nat} (hf : r.fade = some ⟨r.level, F, 0⟩) (hF : 1 ≤ F) :
    stepRow^[10 * F] r = ⟨r.target, r.target, none⟩ := by
  obtain ⟨k, hk⟩ : ∃ k, 10 * F = k + 1 := ⟨10 * F - 1, by omega⟩
  rw [hk, Function.iterate_succ_apply', stepRow_iterate hf (by omega)]
  exact if_pos (show 10 * F ≤ k + 1 by omega)

theorem fadeLevel_end {F : Nat} (hF : 1 ≤ F) (start target : Nat) : fadeLevel start target F (10 * F) = target := by
  unfold fadeLevel
  rw [Nat.mul_div_cancel _ (by omega), Nat.mul_div_cancel _ (by omega)]
  split <;> omega

/-- Settles O57: the targets by the group's shown scene, a fade by the closed form of its steps. -/
theorem fadesReachTheirTargetOnTime : Obligations.FadesReachTheirTargetOnTime := by
  refine ⟨fun s g => ⟨fun ref hl hg => ?_, fun hl hg => State.shownOf_ungoverned hl hg, fun hl => ?_,
    fun i hr hc => ?_⟩, fun T F r h => applyRow_new F h, fun r F k hf hF hk => ?_, fun s i ha => ⟨?_, ?_⟩⟩
  · rw [State.shownOf_session hl hg]
    rfl
  · unfold State.shownOf
    rw [State.ownerOf_walkIn hl]
    cases s.lbuWalkIn g.segs <;> rfl
  · intro l made shown
    refine ⟨fun n hs => ?_, fun hs => ?_, fun hs => ?_, fun j h => s.formRows_other g h⟩
    · dsimp only [l, made]
      rw [State.formRows_made hr hc, State.rowAim_scene i hs, Option.map_some, Option.getD_some, windowTarget_eq]
      cases hh : (s.comm.scene n).harvesting with
      | false => rfl
      | true =>
        obtain ⟨_, _, daylight, _, _⟩ := s.lbu.segs.get i
        cases daylight <;> rfl
    · show (s.formRows g i).lbu.segs.get i = _
      rw [State.formRows_made hr hc, State.rowAim_nothing i hs]
      rfl
    · show (s.formRows g i).lbu.segs.get i = _
      rw [State.formRows_made hr hc, State.rowAim_unread i hs]
      rfl
  · intro after
    obtain below | full := Nat.lt_or_eq_of_le hk
    · have row : after = _ := stepRow_iterate hf below
      rw [row]
      exact ⟨rfl, rfl, ⟨(nomatch ·), fun h => absurd h (Nat.ne_of_lt below)⟩,
        fun h => absurd h (Nat.ne_of_lt below)⟩
    · have row : after = ⟨r.target, r.target, none⟩ := by
        show stepRow^[k] r = _
        rw [full]
        exact stepRow_iterate_end hf hF
      rw [row, full]
      exact ⟨(fadeLevel_end hF r.level r.target).symm, rfl, ⟨fun _ => rfl, fun _ => rfl⟩, fun _ => rfl⟩
  all_goals exact ⟨_, congrArg Host.Outcome.next (State.event_taken ha _ _), rfl, rfl, State.drive_drive_os _⟩

/-! ### The window row (R151) -/

/-- The window row that a daylight arrival leaves, its reading given. -/
def State.windowFormed (s : State) (i : Seg) (reading : Option Nat) (judged : Bool) : LampRow :=
  let row := (s.lbu.segs.get i).window
  let moves (target fade : Nat) : LampRow :=
    if judged = true ∧ target < row.target + 20 ∧ row.target < target + 20 then row else applyRow target fade row
  match s.inRun, s.lbuGroupOf? i with
  | true, some g =>
    match s.shownLit g with
    | .scene n => moves (windowTarget s.suite (s.comm.scene n) reading) 20
    | .nothing => moves 0 10
    | .unread => row
  | _, _ => row

theorem State.formWindow_other (s : State) {i j : Seg} (h : j ≠ i) (judged : Bool) :
    (s.formWindow i judged).lbu.segs.get j = s.lbu.segs.get j := by
  unfold State.formWindow
  split
  · split
    · split
      · dsimp only
        split
        · rfl
        · exact s.mapLbuSeg_other h _
      · rfl
    · rfl
  · rfl

theorem State.formWindow_aimed {s : State} {i : Seg} (hr : s.inRun = true) (hc : s.configured i = true) {g : LbuGroup}
    (hg : s.lbuGroupOf? i = some g) (judged : Bool) {a : RowAim} (ha : s.rowAim g i = some a) :
    (s.formWindow i judged).lbu.segs.get i = { s.lbu.segs.get i with
      window := if judged = true ∧ a.window < (s.lbu.segs.get i).window.target + 20 ∧
          (s.lbu.segs.get i).window.target < a.window + 20 then (s.lbu.segs.get i).window
        else applyRow a.window (if a.dark then 10 else 20) (s.lbu.segs.get i).window } := by
  unfold State.formWindow
  rw [if_pos (by rw [hr, hc]; rfl), hg]
  dsimp only
  rw [ha]
  dsimp only
  by_cases h : judged = true ∧ a.window < (s.lbu.segs.get i).window.target + 20 ∧
      (s.lbu.segs.get i).window.target < a.window + 20
  · obtain ⟨exact_, below, above⟩ := id h
    rw [if_pos h, if_pos (by rw [exact_, Bool.true_and, decide_eq_true_eq]; omega)]
  · rw [if_neg h, if_neg (by
      rw [Bool.and_eq_true, decide_eq_true_eq]
      intro drift
      exact h ⟨drift.1, by omega, by omega⟩)]
    exact s.mapLbuSeg_get i _

/-- The window row formed once a segment's reading and glare have been noted. -/
theorem State.formWindow_noted {s v : State} {i : Seg} {reading : Option Nat} {glare : Glare}
    (hc : s.configured i = true) (relit : s.Relit v)
    (noted : v.lbu.segs.get i = { s.lbu.segs.get i with daylight := reading, glare := glare }) (judged : Bool) :
    (v.formWindow i judged).lbu.segs.get i = { s.lbu.segs.get i with
      daylight := reading, glare := glare, window := s.windowFormed i reading judged } := by
  have still (h : v.formWindow i judged = v) (hw : s.windowFormed i reading judged = (s.lbu.segs.get i).window) :
      (v.formWindow i judged).lbu.segs.get i = { s.lbu.segs.get i with
        daylight := reading, glare := glare, window := s.windowFormed i reading judged } := by
    rw [h, hw, noted]
  have inRun : v.inRun = s.inRun := by rw [relit]; rfl
  have configured : v.configured i = true := by rw [relit]; exact hc
  have group : v.lbuGroupOf? i = s.lbuGroupOf? i := by rw [relit]; rfl
  cases hr : s.inRun with
  | false =>
    exact still (if_neg (by rw [inRun, hr]; exact Bool.false_ne_true)) (by unfold State.windowFormed; rw [hr])
  | true =>
    cases hg : s.lbuGroupOf? i with
    | none =>
      refine still ?_ (by unfold State.windowFormed; rw [hr, hg])
      unfold State.formWindow
      rw [group, hg]
      exact ite_self _
    | some g =>
      have shown : v.shownLit g = s.shownLit g := by rw [relit]; rfl
      have comm : v.suite = s.suite ∧ v.comm = s.comm := by rw [relit]; exact ⟨rfl, rfl⟩
      cases hs : s.shownLit g with
      | unread =>
        refine still ?_ (by unfold State.windowFormed; rw [hr, hg]; dsimp only; rw [hs])
        unfold State.formWindow
        rw [group, hg]
        dsimp only
        rw [State.rowAim_unread i (shown.trans hs)]
        exact ite_self _
      | nothing =>
        have aimed := State.formWindow_aimed (inRun.trans hr) configured (group.trans hg) judged
          (State.rowAim_nothing i (shown.trans hs))
        rw [aimed, noted]
        unfold State.windowFormed
        rw [hr, hg]
        dsimp only
        rw [hs]
        rfl
      | scene n =>
        have aimed := State.formWindow_aimed (inRun.trans hr) configured (group.trans hg) judged
          (State.rowAim_scene i (shown.trans hs))
        rw [aimed, noted, comm.1, comm.2]
        unfold State.windowFormed
        rw [hr, hg]
        dsimp only
        rw [hs]
        rfl

/-! ### Scene changes, daylight and glare (R148, R151, R154, R155, R159) -/

theorem State.mapLbuSeg_sameLights (s : State) (c : Instr) (i : Seg) (f : LbuSeg → LbuSeg) :
    s.SameLights ((s.take c).mapLbuSeg i f) := ⟨rfl, rfl, rfl, rfl, rfl⟩

/-- A segment whose blind is resolved once its record stands as v has it, but for the rows. -/
theorem State.resolveBlind_noted {s v : State} (h : s.SameLights v) {i : Seg} {l x : LbuSeg}
    (hv : v.lbu.segs.get i = l) (hg : l.glare.active = x.glare.active) (hb : l.blind = x.blind) :
    (v.resolveBlind i).lbu.segs.get i = { l with blind := (s.blindSet i x).blind } := by
  have set : (v.resolveBlind i).lbu.segs.get i = s.blindSet i l := by
    rw [← h.blindSet, State.blindSet, ← hv, State.withSeg_self]
  rw [set, State.blindSet_blind, s.blindSet_of_rows i hg hb]

theorem State.blindResolved_glare (s : State) (i : Seg) (f : Glare → Glare) :
    (s.mapGlare i f).blindResolved i false =
      (s.blindSet i { s.lbu.segs.get i with glare := f (s.lbu.segs.get i).glare }).blind := by
  have same : s.SameLights (s.mapGlare i f) := ⟨rfl, rfl, rfl, rfl, rfl⟩
  rw [State.blindResolved_kept, same.blindSet]
  exact congrArg (fun l => (s.blindSet i l).blind) (s.mapLbuSeg_get i _)

theorem judgeGlare_active (c : SuiteRec) (lux : Nat) (g : Glare) : (judgeGlare c lux g).active = g.active := by
  unfold judgeGlare
  split
  next h => exact rfl
  next h => exact rfl

/-- A glare timer's expiry. -/
theorem State.glare_event {s : State} (ha : s.alive = true) {c : Instr} {i : Seg} {f : Glare → Glare} {x : Glare}
    {act : State → State} (hact : act (s.take c) = ((s.take c).mapGlare i f).resolveBlind i)
    (hx : f (s.lbu.segs.get i).glare = x) :
    ∃ t, s.event c act = t ∧
      (t = { s.take c with lbu := { s.lbu with segs := t.lbu.segs }, os := t.os } ∧ t.os = t.drive.os) ∧
      t.lbu.segs.get i = { s.lbu.segs.get i with
        glare := x, blind := (s.mapGlare i fun _ => x).blindResolved i false } ∧
      ∀ j, j ≠ i → t.lbu.segs.get j = s.lbu.segs.get j := by
  obtain ⟨t, taken, segs, only⟩ := State.event_relit ha c (act := act) (by
    rw [hact]
    exact (State.mapLbuSeg_relit _ i _).trans (State.resolveBlind_relit _ i))
  refine ⟨t, taken, only, ?_, fun j h => ?_⟩
  · have noted : ((s.take c).mapGlare i f).lbu.segs.get i = { s.lbu.segs.get i with glare := x } := by
      rw [← hx]
      exact (s.take c).mapLbuSeg_get i _
    rw [segs, hact, State.blindResolved_glare]
    exact State.resolveBlind_noted (s.mapLbuSeg_sameLights c i _) noted
      (x := { s.lbu.segs.get i with glare := x }) rfl rfl
  · rw [segs, hact, State.resolveBlind_other _ h]
    exact (s.take c).mapLbuSeg_other h _

/-- The records that entries of a reference govern, for a booked scene set anew. -/
theorem State.bookedSceneChanged_lit (s : State) (ref : Nat) :
    s.Lit (s.bookedSceneChanged ref) fun j l =>
      (s.lbu.groups.filter fun g => g.governing == some ref).foldl
        (fun l g => litIn g.segs (fun j l => s.blindSet j (bared true l)) j l)
        ((s.lbu.groups.filter fun g => g.level == .session && g.governing == some ref).foldl
          (fun l g => litIn g.segs (s.relitSeg g true) j l) l) := by
  have changed := s.sceneChanged_lit fun g => s.ownerOf g == .entry ref
  have cleared := State.clearAll_lit LbuGroup.segs (s.sceneChanged fun g => s.ownerOf g == .entry ref)
    ((s.sceneChanged fun g => s.ownerOf g == .entry ref).lbu.groups.filter fun g => g.governing == some ref)
  rw [State.blindSet_relit changed.1, changed.1.sameLights.groups] at cleared
  simp only [State.ownerOf_beq] at changed cleared
  have both := changed.trans cleared
  unfold State.bookedSceneChanged
  simp only [State.ownerOf_beq]
  rw [changed.1.sameLights.groups]
  exact both

/-- Settles O56. -/
theorem sceneDaylightAndGlareArrivals : Obligations.SceneDaylightAndGlareArrivals := by
  intro s ha only others window judgedGlare
  refine ⟨fun ref => ?_, fun ref groups => ?_, fun i lux hc => ?_, fun i hc => ?_, fun i j hc => ?_, fun i h => ?_,
    fun i h => ?_⟩
  · let c := Instr.sceneChange ref
    have lit := (s.take c).bookedSceneChanged_lit ref
    have same : (s.take c).relitSeg = s.relitSeg := by
      unfold State.relitSeg
      rw [(s.take_sameLights c).rowsSet, (s.take_sameLights c).blindSet]
    rw [same, (s.take_sameLights c).blindSet] at lit
    obtain ⟨relit, at'⟩ := lit
    obtain ⟨t, taken, segs, rest, os⟩ := State.event_relit ha c (act := fun s => s.bookedSceneChanged ref) relit
    have got (j : Seg) : t.lbu.segs.get j =
        (s.lbu.groups.filter fun g => g.governing == some ref).foldl
          (fun l g => litIn g.segs (fun j l => s.blindSet j (bared true l)) j l)
          ((s.lbu.groups.filter fun g => g.level == .session && g.governing == some ref).foldl
            (fun l g => litIn g.segs (s.relitSeg g true) j l) (s.lbu.segs.get j)) := by
      rw [segs]
      exact at' j
    have reach (r : LbuGroup) (hr : r ∈ s.lbu.groups) (hg : r.governing = some ref) :
        r ∈ s.lbu.groups.filter fun g => g.governing == some ref := by
      simp [hr, hg]
    refine ⟨t, congrArg Host.Outcome.next taken, ⟨rest, os⟩, ⟨fun j out => ?_, ?_, os⟩, fun r hr hg => ⟨?_, ?_⟩⟩
    · have far (b : LbuGroup) (hb : b ∈ s.lbu.groups.filter fun g => g.governing == some ref) :
          j ∉ segList b.segs := out _ (List.mem_map_of_mem hb)
      rw [got, foldl_litIn_outside LbuGroup.segs _ far]
      refine foldl_litIn_outside LbuGroup.segs _ (fun b hb => far b ?_) _
      rw [List.mem_filter, Bool.and_eq_true] at hb
      exact List.mem_filter.2 ⟨hb.1, hb.2.2⟩
    · rw [rest]
    · have inside (j : Seg) (hj : j ∈ segList r.segs) := foldl_litIn_inside LbuGroup.segs
        (fun _ j l => s.blindSet j (bared true l)) (fun x => s.blindSet_cleared_again true j x) (reach r hr hg) hj
        (fun _ _ _ => rfl)
      by_cases session : r.level = .session
      · rw [show (r.level == .session) = true by rw [session]; rfl]
        refine State.GroupLit.of_relit fun j hj alone => ?_
        rw [got, inside j hj, foldl_litIn_inside LbuGroup.segs (fun g => s.relitSeg g true) (r := r)
          (fun x => s.relitSeg_again r true j x) (by simp [hr, hg, session]) hj
          (fun b hb hbj => by rw [alone b (List.mem_of_mem_filter hb) hbj])]
        exact s.blindSet_relitSeg r true j _
      · rw [show (r.level == .session) = false by simp [session]]
        refine State.GroupLit.of_resolved fun j hj alone => ?_
        rw [got, inside j hj, foldl_litIn_outside LbuGroup.segs]
        intro b hb hbj
        rw [List.mem_filter, Bool.and_eq_true, beq_iff_eq] at hb
        exact session (alone b hb.1 hbj ▸ hb.2.1)
    · intro j hj
      exact (congrArg (fun l : LbuSeg => l.blind.override) (got j)).trans
        (foldl_litIn_removed LbuGroup.segs (fun _ j l => s.blindSet j (bared true l))
          (fun _ j l => (s.blindSet_keeps j _).1) (reach r hr hg) hj _)
  · let c := Instr.sessionEndOverrides ref groups
    have lit := State.clearAll_lit id (s.take c) groups
    rw [(s.take_sameLights c).blindSet] at lit
    obtain ⟨relit, at'⟩ := lit
    obtain ⟨t, taken, segs, rest, os⟩ := State.event_relit ha c (act := fun s => groups.foldl State.clearOverrides s)
      relit
    refine ⟨t, congrArg Host.Outcome.next taken, ⟨rest, os⟩, ⟨fun j out => ?_, by rw [rest], os⟩, fun g hg j hj => ?_⟩
    · rw [segs]
      exact (at' j).trans (foldl_litIn_outside id _ out _)
    · have got : t.lbu.segs.get j = s.blindSet j (bared true (s.lbu.segs.get j)) := by
        rw [segs]
        exact (at' j).trans (foldl_litIn_inside id (fun _ j l => s.blindSet j (bared true l))
          (fun x => s.blindSet_cleared_again true j x) hg hj (fun _ _ _ => rfl) _)
      refine ⟨(congrArg (fun l : LbuSeg => l.blind.override) got).trans (s.blindSet_keeps j _).1, ?_⟩
      rw [got, State.blindSet_blind, ← State.blindResolved_eq]
      rfl
  · let c := Instr.daylightValue i lux
    obtain ⟨t, taken, segs, only'⟩ := State.event_relit ha c (act := fun s => s.takeDaylight i lux)
      (State.takeDaylight_relit _ i lux)
    rw [State.takeDaylight, if_pos (show (s.take c).configured i = true from hc)] at segs
    refine ⟨t, congrArg Host.Outcome.next taken, only', ?_, fun j h => ?_⟩
    · rw [segs]
      exact State.formWindow_noted (s := s.take c) (reading := some lux)
        (glare := judgeGlare s.suite lux (s.lbu.segs.get i).glare) hc (State.mapLbuSeg_relit _ i _)
        (State.mapLbuSeg_get _ i _) true
    · rw [segs, State.formWindow_other _ h]
      exact (s.take c).mapLbuSeg_other h _
  · let c := Instr.daylightSourceReport i none
    obtain ⟨t, taken, segs, only'⟩ := State.event_relit ha c (act := fun s => s.takeDaylightSource i none)
      (State.takeDaylightSource_relit _ i none)
    rw [State.takeDaylightSource, if_pos (show (s.take c).configured i = true from hc)] at segs
    refine ⟨t, congrArg Host.Outcome.next taken, only', ?_, fun j h => ?_⟩
    · have noted := State.formWindow_noted (s := s.take c) (reading := none) (glare := Glare.initial)
        (v := (s.take c).mapLbuSeg i fun l => { l with daylight := none, glare := Glare.initial }) hc
        (State.mapLbuSeg_relit _ i _) (State.mapLbuSeg_get _ i _) false
      rw [segs, State.blindResolved_glare]
      refine (State.resolveBlind_noted ?_ noted
        (x := { s.lbu.segs.get i with glare := ⟨false, none, none⟩ }) rfl rfl).trans rfl
      exact ((s.mapLbuSeg_sameLights c i _).trans (State.formWindow_relit _ i false).sameLights)
    · rw [segs, State.resolveBlind_other _ h, State.formWindow_other _ h]
      exact (s.take c).mapLbuSeg_other h _
  · intro c
    refine ⟨fun lux hok hlast => ?_, fun hno => ?_⟩
    · have read : (s.take c).daylightOf j = some lux.toNat := by
        show (if s.sensorOk j .daylight then (s.sensor j .daylight).last.map Int.toNat else none) = _
        rw [if_pos hok, hlast]
        rfl
      obtain ⟨t, taken, segs, only'⟩ := State.event_relit ha c (act := fun s => s.takeDaylightSource i (some j))
        (State.takeDaylightSource_relit _ i (some j))
      rw [State.takeDaylightSource, if_pos (show (s.take c).configured i = true from hc)] at segs
      simp only [read] at segs
      rw [State.takeDaylight, if_pos (show (s.take c).configured i = true from hc)] at segs
      refine ⟨t, congrArg Host.Outcome.next taken, only', fun k h => ?_, ?_⟩
      · rw [segs, State.resolveBlind_other _ h, State.formWindow_other _ h]
        exact (s.take c).mapLbuSeg_other h _
      · have noted := State.formWindow_noted (s := s.take c) (reading := some lux.toNat)
          (glare := judgeGlare s.suite lux.toNat (s.lbu.segs.get i).glare)
          (v := (s.take c).mapLbuSeg i fun l =>
            { l with daylight := some lux.toNat, glare := judgeGlare s.suite lux.toNat l.glare }) hc
          (State.mapLbuSeg_relit _ i _) (State.mapLbuSeg_get _ i _) true
        rw [segs, State.blindResolved_kept]
        refine (State.resolveBlind_noted ?_ noted (x := s.lbu.segs.get i) (judgeGlare_active ..) rfl).trans rfl
        exact ((s.mapLbuSeg_sameLights c i _).trans (State.formWindow_relit _ i true).sameLights)
    · have read : (s.take c).daylightOf j = none := by
        show (if s.sensorOk j .daylight then (s.sensor j .daylight).last.map Int.toNat else none) = _
        obtain off | none' := hno
        · rw [off]
          rfl
        · rw [none']
          exact ite_self _
      refine congrArg Host.Outcome.next ((State.event_taken ha c _).trans (congrArg State.drive ?_))
      show (s.take c).takeDaylightSource i (some j) = _
      rw [State.takeDaylightSource, if_pos (show (s.take c).configured i = true from hc)]
      simp only [read]
  · obtain ⟨t, taken, rest⟩ := State.glare_event ha (c := .glareOnExpiry i) (f := glareOn)
      (act := fun s => (s.mapGlare i glareOn).resolveBlind i) rfl (if_pos h)
    exact ⟨t, congrArg Host.Outcome.next taken, rest⟩
  · obtain ⟨t, taken, rest⟩ := State.glare_event ha (c := .glareOffExpiry i) (f := glareOff)
      (act := fun s => (s.mapGlare i glareOff).resolveBlind i) rfl (if_pos h)
    exact ⟨t, congrArg Host.Outcome.next taken, rest⟩

end Sys2Proof.Machine

/-! SCENE and RESTORE on a panel, and OT's reports at AL and LBU. -/

namespace Sys2Proof.Machine

/-! ### SCENE and RESTORE (R146 to R148) -/

/-- What a scene change of an entry makes of a segment: rows and blinds of the groups it owns or that are named,
then the blinds of those it governs at PREPARE. -/
theorem State.entrySceneChanged_lit (s : State) (ref : Nat) (also : Segs → Bool) :
    s.Lit (s.entrySceneChanged ref also) fun j l =>
      (s.lbu.groups.filter fun g => g.governing == some ref && g.level == .prepare).foldl
        (fun l g => litIn g.segs s.blindSet j l)
        ((s.lbu.groups.filter fun g => (g.level == .session && g.governing == some ref) || also g.segs).foldl
          (fun l g => litIn g.segs (s.relitSeg g true) j l) l) := by
  have changed := s.sceneChanged_lit fun g => s.ownerOf g == .entry ref || also g.segs
  have resolved := State.resolveAll_lit (s.sceneChanged fun g => s.ownerOf g == .entry ref || also g.segs)
    ((s.sceneChanged fun g => s.ownerOf g == .entry ref || also g.segs).lbu.groups.filter fun g =>
      g.governing == some ref && g.level == .prepare)
  rw [State.blindSet_relit changed.1, changed.1.sameLights.groups] at resolved
  simp only [State.ownerOf_beq] at changed resolved
  unfold State.entrySceneChanged
  simp only [State.ownerOf_beq]
  rw [changed.1.sameLights.groups]
  exact changed.trans resolved

/-- The groups that a panel's scene change lights anew, the owning entry given where there is one. -/
def scenesOwned (g : Segs) (ref : Option Nat) (r : LbuGroup) : Bool :=
  r.segs == g || (r.level == .session && ref.isSome && r.governing == ref)

/-- The groups whose blinds it resolves. -/
def scenesPrepared (ref : Option Nat) (r : LbuGroup) : Bool :=
  r.level == .prepare && ref.isSome && r.governing == ref

/-- What a panel's scene change makes of LBU: every owned group lit anew, every other one it governs at PREPARE
resolved. -/
def State.ScenesCleared (u t : State) (g : Segs) (ref : Option Nat) : Prop :=
  u.LitOnlyIn t ((u.lbu.groups.filter fun r => scenesOwned g ref r || scenesPrepared ref r).map (·.segs)) ∧
  (∀ r ∈ u.lbu.groups, scenesOwned g ref r = true → u.GroupLit t r true true ∧
    ∀ j ∈ segList r.segs, (t.blind j).override = none) ∧
  ∀ r ∈ u.lbu.groups, scenesPrepared ref r = true → scenesOwned g ref r = false → u.GroupLit t r false false

/-- What a panel's scene change makes of a segment's record. -/
def State.scenesLit (u : State) (g : Segs) (ref : Option Nat) (j : Seg) (l : LbuSeg) : LbuSeg :=
  (u.lbu.groups.filter fun r => scenesPrepared ref r).foldl (fun l r => litIn r.segs u.blindSet j l)
    ((u.lbu.groups.filter fun r => scenesOwned g ref r).foldl (fun l r => litIn r.segs (u.relitSeg r true) j l) l)

theorem State.SameLights.scenesLit {u v : State} (h : u.SameLights v) : v.scenesLit = u.scenesLit := by
  unfold State.scenesLit State.relitSeg
  rw [h.blindSet, h.rowsSet, h.groups]

theorem State.scenesCleared_of_lit {u t : State} {g : Segs} {ref : Option Nat}
    (lit : ∀ j, t.lbu.segs.get j = u.scenesLit g ref j (u.lbu.segs.get j))
    (frame : t.lbu = { u.lbu with segs := t.lbu.segs }) (os : t.os = t.drive.os) : u.ScenesCleared t g ref := by
  have again (j : Seg) (x : LbuSeg) : u.blindSet j (u.blindSet j x) = u.blindSet j x := u.blindSet_again j x
  refine ⟨⟨fun j out => ?_, frame, os⟩, fun r hr owned => ⟨.of_relit fun j hj alone => ?_, fun j hj => ?_⟩,
    fun r hr prepared foreign => .of_resolved fun j hj alone => ?_⟩
  · have far (b : LbuGroup) (hb : b ∈ u.lbu.groups) (h : (scenesOwned g ref b || scenesPrepared ref b) = true) :
        j ∉ segList b.segs := out _ (List.mem_map_of_mem (List.mem_filter.2 ⟨hb, h⟩))
    rw [lit, State.scenesLit, foldl_litIn_outside LbuGroup.segs (fun _ => u.blindSet), foldl_litIn_outside LbuGroup.segs]
    · exact fun b hb => far b (List.mem_of_mem_filter hb) (by rw [(List.mem_filter.1 hb).2, Bool.true_or])
    · exact fun b hb => far b (List.mem_of_mem_filter hb) (by rw [(List.mem_filter.1 hb).2, Bool.or_true])
  · have first : (u.lbu.groups.filter fun r => scenesOwned g ref r).foldl
        (fun l r => litIn r.segs (u.relitSeg r true) j l) (u.lbu.segs.get j) = u.relitSeg r true j (u.lbu.segs.get j) :=
      foldl_litIn_inside LbuGroup.segs (fun r => u.relitSeg r true) (r := r) (fun x => u.relitSeg_again r true j x)
        (List.mem_filter.2 ⟨hr, owned⟩) hj (fun b hb hbj => by rw [alone b (List.mem_of_mem_filter hb) hbj]) _
    rw [lit, State.scenesLit, first]
    refine List.foldlRecOn (motive := (· = u.relitSeg r true j (u.lbu.segs.get j))) _ _ rfl fun y hy b _ => ?_
    rw [hy, litIn]
    split
    · exact u.blindSet_relitSeg r false j _
    · rfl
  · show (t.lbu.segs.get j).blind.override = none
    rw [lit, State.scenesLit]
    refine foldl_litIn_gone LbuGroup.segs (fun _ => u.blindSet) (fun _ j l h => (u.blindSet_keeps j l).1.trans h) j _ _ ?_
    exact foldl_litIn_removed LbuGroup.segs (fun r => u.relitSeg r true) (fun b j l => u.relitSeg_override b j l)
      (List.mem_filter.2 ⟨hr, owned⟩) hj _
  · have first : (u.lbu.groups.filter fun r => scenesOwned g ref r).foldl
        (fun l r => litIn r.segs (u.relitSeg r true) j l) (u.lbu.segs.get j) = u.lbu.segs.get j := by
      refine foldl_litIn_outside LbuGroup.segs _ (fun b hb hbj => ?_) _
      have owned := (List.mem_filter.1 hb).2
      rw [alone b (List.mem_of_mem_filter hb) hbj, foreign] at owned
      cases owned
    rw [lit, State.scenesLit, first]
    exact foldl_litIn_inside LbuGroup.segs (fun _ => u.blindSet) (again j) (List.mem_filter.2 ⟨hr, prepared⟩) hj
      (fun _ _ _ => rfl) _

theorem State.entrySceneChanged_scenesLit (s : State) (ref : Nat) (g : Segs) :
    s.Lit (s.entrySceneChanged ref fun x => x == g) (s.scenesLit g (some ref)) := by
  refine (s.entrySceneChanged_lit ref _).congr fun j l => ?_
  have owned : (fun r : LbuGroup => (r.level == .session && r.governing == some ref) || r.segs == g) =
      scenesOwned g (some ref) := by
    funext r
    simp [scenesOwned, Bool.or_comm]
  have prepared : (fun r : LbuGroup => r.governing == some ref && r.level == .prepare) = scenesPrepared (some ref) := by
    funext r
    simp [scenesPrepared, Bool.and_comm]
  rw [owned, prepared]
  rfl

theorem State.sceneChanged_scenesLit (s : State) (g : Segs) :
    s.Lit (s.sceneChanged fun x => x.segs == g) (s.scenesLit g none) := by
  refine (s.sceneChanged_lit _).congr fun j l => ?_
  have owned : (fun r : LbuGroup => r.segs == g) = scenesOwned g none := by
    funext r
    simp [scenesOwned]
  have prepared : (s.lbu.groups.filter fun r => scenesPrepared none r) = [] := by
    simp [scenesPrepared]
  rw [State.scenesLit, prepared, owned]
  rfl

/-- A scene change of a panel, the owner's scenes as bt and ot have them. -/
theorem State.panel_scene {s : State} {i : Seg} (hs : s.TakesPanel i) (hr : s.inRun = true) {act : State → Answered}
    {bytes payload : List Byte} {w : State} {bt : Bt} {ot : Ot} {g : Segs} {ref : Option Nat}
    (answer : act ((s.presence i).echoFrame bytes) = (w, .ok, payload))
    (lit : State.Lit { (s.presence i).echoFrame bytes with bt := bt, ot := ot } w
      (State.scenesLit { (s.presence i).echoFrame bytes with bt := bt, ot := ot } g ref)) :
    ∃ t, s.panel i bytes (inRunOnly act) = t ∧ t.bt = bt ∧ t.ot = ot ∧
      t = { s.presence i with bt := bt, ot := ot, lbu := t.lbu, os := t.os
                              rl := (s.panelReplied bytes .ok payload).rl } ∧
      State.ScenesCleared { s.presence i with bt := t.bt, ot := t.ot } t g ref := by
  obtain ⟨relit, at'⟩ := lit
  have hbt : w.bt = bt := by rw [relit]
  have hot : w.ot = ot := by rw [relit]
  have hlbu : w.lbu = { (s.presence i).lbu with segs := w.lbu.segs } := by
    rw [relit]
    rfl
  obtain ⟨t, taken, tbt, tot, tlbu, os, rest⟩ := State.panel_relit hs hr answer (by rw [relit])
  rw [hbt] at tbt rest
  rw [hot] at tot rest
  refine ⟨t, taken, tbt, tot, tlbu ▸ rest, State.scenesCleared_of_lit (fun j => ?_) ?_ os⟩
  · rw [tbt, tot, tlbu]
    have same : State.SameLights { s.presence i with bt := bt, ot := ot }
        { (s.presence i).echoFrame bytes with bt := bt, ot := ot } := ⟨rfl, rfl, rfl, rfl, rfl⟩
    rw [← same.scenesLit]
    exact at' j
  · rw [tlbu]
    exact hlbu

theorem State.panelScene_entry {s : State} {g : GroupRec} {e : Entry} {current : Nat}
    (act : Nat → Option Nat → Nat → Nat × Option Nat) (hl : g.level = .session) (he : g.governing.bind s.entry? = some e)
    (hc : e.vol.currentScene = some current) :
    s.panelScene g act = ((s.mapVolatile e.fix.ref fun v => { v with
      currentScene := some (act current e.vol.savedScene (bookedScene s.comm e.fix)).1
      savedScene := (act current e.vol.savedScene (bookedScene s.comm e.fix)).2 }).entrySceneChanged e.fix.ref
        (fun x => x == g.segs), some (act current e.vol.savedScene (bookedScene s.comm e.fix)).1) := by
  unfold State.panelScene
  simp only [hl, he, hc]

theorem State.panelScene_walkIn {s : State} {g : GroupRec} {w : WalkIn}
    (act : Nat → Option Nat → Nat → Nat × Option Nat) (hl : g.level ≠ .session) (hw : s.walkIn? g.segs = some w) :
    s.panelScene g act = ((s.mapWalkIn g.segs fun x => { x with
      scene := (act w.scene w.saved 0).1, saved := (act w.scene w.saved 0).2 }).sceneChanged
        (fun x => x.segs == g.segs), some (act w.scene w.saved 0).1) := by
  unfold State.panelScene
  cases h : g.level with
  | session => exact absurd h hl
  | none | prepare => simp only [hw]

theorem State.panelScene_none {s : State} {g : GroupRec} (act : Nat → Option Nat → Nat → Nat × Option Nat)
    (hl : g.level ≠ .session) (hw : s.walkIn? g.segs = none) : s.panelScene g act = (s, none) := by
  unfold State.panelScene
  cases h : g.level with
  | session => exact absurd h hl
  | none | prepare => simp only [hw]

/-- SCENE past its two checks. -/
theorem State.sceneCommand_ok {s : State} {i : Seg} {n : Nat} {g : GroupRec} (hg : s.panelGroup i = g) (hn : n ≤ 15)
    (hx : (s.examRuns g && !(s.comm.scene n).examAllowed) = false) :
    s.sceneCommand i n =
      sceneReply (s.panelScene g fun current saved _ => chooseScene s.comm n current saved) := by
  unfold State.sceneCommand
  rw [hg, judged_cons (by decide), if_neg (by rw [decide_eq_true_eq]; omega), judged_cons (by decide), hx]
  rfl

theorem State.restore_entry {s : State} {i : Seg} {g : GroupRec} {e : Entry} {current : Nat} {c : Commission}
    (hg : s.panelGroup i = g) (hcomm : s.comm = c) (hl : g.level = .session) (he : g.governing.bind s.entry? = some e)
    (hc : e.vol.currentScene = some current) :
    s.restore i = ((s.mapVolatile e.fix.ref fun v => { v with
      currentScene := some (e.vol.savedScene.getD (bookedScene c e.fix)), savedScene := none }).entrySceneChanged
        e.fix.ref (fun x => x == g.segs), .ok, be 1 (e.vol.savedScene.getD (bookedScene c e.fix))) := by
  unfold State.restore
  rw [hg, State.panelScene_entry _ hl he hc, hcomm]
  rfl

theorem State.restore_walkIn {s : State} {i : Seg} {g : GroupRec} {w : WalkIn} (hg : s.panelGroup i = g)
    (hl : g.level ≠ .session) (hw : s.walkIn? g.segs = some w) :
    s.restore i = ((s.mapWalkIn g.segs fun x => { x with
      scene := w.saved.getD 0, saved := none }).sceneChanged (fun x => x.segs == g.segs), .ok,
        be 1 (w.saved.getD 0)) := by
  unfold State.restore
  rw [hg, State.panelScene_walkIn _ hl hw]
  rfl

/-- Settles O41: a panel's scene change is State.entrySceneChanged or State.sceneChanged on the owner's new scenes
(State.panel_scene). -/
theorem sceneAndRestoreChangeTheOwnersScenes : Obligations.SceneAndRestoreChangeTheOwnersScenes := by
  intro s i n hs ho hr p g sb rb temp saves withScenes walkScenes cleared
  have group (bytes : List Byte) : (p.echoFrame bytes).panelGroup i = g := by
    show (((s.presence i).groupOf? i).getD _) = _
    rw [State.groupOf?, s.presence_frame i]
    rfl
  have comm : p.comm = s.comm := by
    show (s.presence i).comm = _
    rw [s.presence_frame i]
    rfl
  have lbu : p.lbu.groups = s.lbu.groups := by
    show (s.presence i).lbu.groups = _
    rw [s.presence_frame i]
  have choose (cur : Nat) (saved : Option Nat) : chooseScene p.comm n cur saved = (n, saves cur saved) := by
    rw [comm]
    unfold chooseScene
    by_cases h : temp n = true
    · rw [if_pos h]
      simp only [saves, h, if_true, temp]
    · rw [if_neg h]
      simp only [saves, if_neg h]
  have clear {t : State} {ref : Option Nat}
      (h : State.ScenesCleared { p with bt := t.bt, ot := t.ot } t g.segs ref) : cleared t ref := by
    unfold State.ScenesCleared at h
    rw [show ({ p with bt := t.bt, ot := t.ot } : State).lbu.groups = s.lbu.groups from lbu] at h
    exact h
  have inRun (bytes : List Byte) : (p.echoFrame bytes).inRun = true := (s.presence_inRun i).trans hr
  have refused {act : State → Answered} {bytes : List Byte} {r : Reason}
      (answer : act (p.echoFrame bytes) = (p.echoFrame bytes, r, [])) :
      s.panel i bytes (inRunOnly act) = p.panelReplied bytes r [] :=
    State.panel_replied hs ho ((inRunOnly_run (inRun bytes) act).trans answer) (s.presence_os i) (s.presence_drive_os i)
  have examined (bytes : List Byte) (h : (p.examRuns g && !(s.comm.scene n).examAllowed) = false) :
      ((p.echoFrame bytes).examRuns g && !((p.echoFrame bytes).comm.scene n).examAllowed) = false := by
    rw [← comm] at h
    exact h
  refine ⟨fun hn => ?_, fun hn hx ha => ?_, fun e cur hl he hc => ⟨fun hn hx => ?_, ?_⟩,
    fun w hl hw => ⟨fun hn hx => ?_, ?_⟩, fun hl hw => ⟨fun hn hx => ?_, ?_⟩⟩
  · refine congrArg Host.Outcome.next (refused ?_)
    rw [State.sceneCommand, judged_cons (by decide), if_pos (by rw [decide_eq_true_eq]; exact hn)]
    rfl
  · refine congrArg Host.Outcome.next (refused ?_)
    have exam : ((p.echoFrame sb).examRuns ((p.echoFrame sb).panelGroup i) &&
        !((p.echoFrame sb).comm.scene n).examAllowed) = true := by
      rw [group]
      show (p.examRuns g && !(p.comm.scene n).examAllowed) = true
      rw [hx, comm, ha]
      rfl
    rw [State.sceneCommand, judged_cons (by decide), if_neg (by rw [decide_eq_true_eq]; omega),
      judged_cons (by decide), if_pos exam]
    rfl
  · have answer := (State.sceneCommand_ok (group sb) hn (examined sb hx)).trans
      (congrArg sceneReply (State.panelScene_entry _ hl he hc))
    rw [show (chooseScene (p.echoFrame sb).comm n cur e.vol.savedScene) = _ from choose cur e.vol.savedScene] at answer
    obtain ⟨t, taken, tbt, tot, rest, lit⟩ := State.panel_scene hs hr answer
      (State.entrySceneChanged_scenesLit _ e.fix.ref g.segs)
    exact ⟨t, congrArg Host.Outcome.next taken, tbt, by rw [tbt]; exact rest, clear lit⟩
  · obtain ⟨t, taken, tbt, tot, rest, lit⟩ := State.panel_scene hs hr
      (State.restore_entry (group rb) (show (p.echoFrame rb).comm = s.comm from comm) hl he hc)
      (State.entrySceneChanged_scenesLit _ e.fix.ref g.segs)
    exact ⟨t, congrArg Host.Outcome.next taken, tbt, by rw [tbt]; exact rest, clear lit⟩
  · have answer := (State.sceneCommand_ok (group sb) hn (examined sb hx)).trans
      (congrArg sceneReply (State.panelScene_walkIn _ hl hw))
    rw [show (chooseScene (p.echoFrame sb).comm n w.scene w.saved) = _ from choose w.scene w.saved] at answer
    obtain ⟨t, taken, tbt, tot, rest, lit⟩ := State.panel_scene hs hr answer
      (State.sceneChanged_scenesLit _ g.segs)
    exact ⟨t, congrArg Host.Outcome.next taken, tot, by rw [tot]; exact rest, clear lit⟩
  · obtain ⟨t, taken, tbt, tot, rest, lit⟩ := State.panel_scene hs hr (State.restore_walkIn (group rb) hl hw)
      (State.sceneChanged_scenesLit _ g.segs)
    exact ⟨t, congrArg Host.Outcome.next taken, tot, by rw [tot]; exact rest, clear lit⟩
  · refine congrArg Host.Outcome.next (refused ?_)
    rw [State.sceneCommand_ok (group sb) hn (examined sb hx), State.panelScene_none (s := p.echoFrame sb) _ hl hw]
    rfl
  · refine congrArg Host.Outcome.next (refused ?_)
    rw [State.restore, group, State.panelScene_none (s := p.echoFrame rb) _ hl hw]
    rfl

/-! ### OT's reports (R110, R152, R165, R166) -/

theorem standingOf_noteStanding (l : List OccStanding) (o : OccStanding) :
    standingOf (noteStanding l o) o.segs = some o := by
  unfold standingOf noteStanding
  rw [List.find?_cons_of_pos (by simp)]

theorem standingOf_noteStanding_other (l : List OccStanding) {o : OccStanding} {h : Segs} (hne : h ≠ o.segs) :
    standingOf (noteStanding l o) h = standingOf l h := by
  unfold standingOf noteStanding
  rw [List.find?_cons_of_neg (by simpa using fun e => hne e.symm), List.find?_filter]
  congr 1
  funext x
  by_cases e : x.segs = h
  · simp [e, hne]
  · simp [e]

/-- A group at NONE without a walk-in record is parked between minutes. -/
theorem State.loopFollowing_parks {s : State} {l : Loop} (hr : s.inRun = true) (hx : s.al.awaitsExit = false)
    (hl : l.level = .none) (hw : s.alWalkIn l.segs = false) : (s.loopFollowing l).mode = .parked := by
  unfold State.loopFollowing
  rw [if_neg (by simp [hr, hx]), if_pos ⟨hl, hw⟩]
  split
  · assumption
  · exact s.evaluate_mode _

/-- A group at NONE with a walk-in record that can be read leaves PARKED. -/
theorem State.loopFollowing_runs {s : State} {l : Loop} (hr : s.inRun = true) (hx : s.al.awaitsExit = false)
    (hl : l.level = .none) (hw : s.alWalkIn l.segs = true) (hread : (s.walkIn? l.segs).isSome = true) :
    (s.loopFollowing l).mode ≠ .parked := by
  obtain ⟨w, hw'⟩ := Option.isSome_iff_exists.1 hread
  have setpoint : s.setpointFor l = some w.setpoint := by
    unfold State.setpointFor
    rw [if_pos hl, if_pos hw, hw']
    rfl
  unfold State.loopFollowing
  rw [if_neg (by simp [hr, hx]), if_neg (by simp [hl, hw]), setpoint]
  dsimp only
  split
  · rw [State.evaluate_mode]
    exact LoopMode.noConfusion
  next still => exact fun parked => still (.inl parked)

theorem State.loopFollowing_still {s : State} (h : s.inRun = false ∨ s.al.awaitsExit = true) (l : Loop) :
    s.loopFollowing l = l := by
  unfold State.loopFollowing
  rw [if_pos h]

theorem State.evaluate_level (s : State) (l : Loop) : (s.evaluate l).level = l.level := by
  unfold State.evaluate
  split
  · split <;> rfl
  · rfl

theorem State.loopFollowing_level (s : State) (l : Loop) : (s.loopFollowing l).level = l.level := by
  unfold State.loopFollowing
  split
  · rfl
  · split
    · split
      · rfl
      · exact s.evaluate_level _
    · split
      · rfl
      · split
        · exact s.evaluate_level _
        · rfl

/-- A loop record that has not moved is followed by no report. -/
theorem loopReports_self (l : List Loop) : loopReports l l = [] := by
  have lost : ((l.zip l).filter fun p => p.1.settled && !p.2.settled) = [] := by
    rw [List.filter_eq_nil_iff]
    intro p hp
    rw [List.zip_eq_zipWith, List.zipWith_self, List.mem_map] at hp
    obtain ⟨x, -, rfl⟩ := hp
    simp
  unfold loopReports
  rw [if_pos rfl, lost]
  rfl

/-- OT's report at AL. -/
theorem State.alTakeOcc_eq (s : State) (o : OccStanding) :
    let u : State := { s with al := { s.al with occ := noteStanding s.al.occ o } }
    let loops := s.al.loops.map fun l => if l.segs = o.segs then u.loopFollowing l else l
    s.alTakeOcc o = { s with
      al := { s.al with occ := noteStanding s.al.occ o, loops := loops }
      reports := s.reports ++ loopReports s.al.loops loops } := by
  intro u loops
  have hit : (fun l : Loop => if (l.segs == o.segs) = true then u.loopFollowing l else l) =
      fun l => if l.segs = o.segs then u.loopFollowing l else l := by
    funext l
    simp only [beq_iff_eq]
  unfold State.alTakeOcc
  rw [State.alReconcile_eq, hit]

/-- What OT's report makes of a segment at LBU, the group of the set given. -/
theorem State.lbuTakeOcc_held {s : State} {o : OccStanding} {g : LbuGroup} (h : s.lbuGroup? o.segs = some g) :
    let u : State := { s with lbu := { s.lbu with occ := noteStanding s.lbu.occ o } }
    u.Lit (s.lbuTakeOcc o) (litIn o.segs (u.relitSeg g (becameVacant (standingOf s.lbu.occ o.segs) o))) := by
  intro u
  have held : u.lbuGroup? o.segs = some g := h
  have segs : g.segs = o.segs := by simpa using List.find?_some held
  have act : s.lbuTakeOcc o = if becameVacant (standingOf s.lbu.occ o.segs) o
      then (u.formGroupRows g).clearOverrides g.segs else (u.formGroupRows g).resolveBlinds g.segs := by
    unfold State.lbuTakeOcc
    dsimp only
    rw [held]
  have cleared := State.clearOverrides_lit (u.formGroupRows g) g.segs
  have resolved := State.resolveBlinds_lit (u.formGroupRows g) g.segs
  rw [State.blindSet_relit (u.formGroupRows_relit g)] at cleared resolved
  rw [act, ← segs]
  cases becameVacant (standingOf s.lbu.occ g.segs) o with
  | true => exact (u.formGroupRows_lit g).both cleared
  | false => exact (u.formGroupRows_lit g).both resolved

theorem State.lbuTakeOcc_foreign {s : State} {o : OccStanding} (h : s.lbuGroup? o.segs = none) :
    s.lbuTakeOcc o = { s with lbu := { s.lbu with occ := noteStanding s.lbu.occ o } } := by
  have held : State.lbuGroup? { s with lbu := { s.lbu with occ := noteStanding s.lbu.occ o } } o.segs = none := h
  unfold State.lbuTakeOcc
  dsimp only
  rw [held]

theorem becameVacant_eq (before : Option OccStanding) (o : OccStanding) :
    becameVacant before o = before.any fun b => !b.inherited && b.occupied && !o.occupied := by
  cases before <;> rfl

/-- A group that LBU holds vacant has its rows on their way into the dark. -/
theorem State.rowsSet_vacant {s : State} {g : LbuGroup} (hr : s.inRun = true) (hv : s.lbuOccupied g.segs = false)
    {i : Seg} (hc : s.configured i = true) (l : LbuSeg) :
    (s.rowsSet g i l).window.target = 0 ∧ (s.rowsSet g i l).inner.target = 0 := by
  have dark : (s.withSeg i l).rowAim g i = some darkAim := by
    unfold State.rowAim
    exact if_neg (by rw [show (s.withSeg i l).lbuOccupied g.segs = s.lbuOccupied g.segs from rfl, hv]; simp)
  rw [State.rowsSet_eq, if_pos (by rw [hr, hc]; rfl), dark]
  exact ⟨applyRow_target 0 10 l.window, applyRow_target 0 10 l.inner⟩

theorem State.relitSeg_service {s : State} (hr : s.inRun = false) (g : LbuGroup) (clears : Bool) (j : Seg)
    (l : LbuSeg) : s.relitSeg g clears j l = bared clears l := by
  have off : ¬(s.inRun && s.configured j) = true := by simp [hr]
  rw [State.relitSeg, State.blindSet_eq, if_neg off, State.rowsSet_eq, if_neg off]

/-- OT's report at AL, on its way out. -/
theorem occupancyReport_al (s : State) (g : Segs) (occ : Bool) (w : Option WalkIn) (ha : s.alive = true) :
    let c := Instr.occupancyReport .al g occ w
    ∃ t, exec c s = .next t ∧
      standingOf t.al.occ g = some ⟨g, occ, w.isSome, false⟩ ∧
      (s.inRun = true → s.al.awaitsExit = false →
        ∀ l ∈ t.al.loops, l.segs = g → l.level = .none → w = none → l.mode = .parked) ∧
      (s.inRun = true → s.al.awaitsExit = false →
        ∀ l ∈ t.al.loops, l.segs = g → l.level = .none → w.isSome = true →
          (s.walkIn? g).isSome = true → l.mode ≠ .parked) ∧
      (s.inRun = false ∨ s.al.awaitsExit = true →
        t.al.loops = s.al.loops ∧ t.reports = s.reports.erase c) ∧
      t.al.loops.map (·.segs) = s.al.loops.map (·.segs) ∧
      t.al = { s.al with
        occ := t.al.occ
        loops := s.al.loops.map fun l => if l.segs = g then t.loopFollowing l else l } ∧
      (∀ h, h ≠ g → standingOf t.al.occ h = standingOf s.al.occ h) ∧
      t.reports = s.reports.erase c ++ loopReports s.al.loops t.al.loops ∧
      t = { s.take c with al := t.al, reports := t.reports, os := t.os } ∧ t.os = t.drive.os := by
  intro c
  let o : OccStanding := ⟨g, occ, w.isSome, false⟩
  let u : State := { s.take c with al := { s.al with occ := noteStanding s.al.occ o } }
  let loops := s.al.loops.map fun l => if l.segs = g then u.loopFollowing l else l
  have taken : exec c s = .next (State.drive { s.take c with
      al := { s.al with occ := noteStanding s.al.occ o, loops := loops }
      reports := s.reports.erase c ++ loopReports s.al.loops loops }) :=
    congrArg Host.Outcome.next ((State.event_taken ha c _).trans
      (congrArg State.drive ((s.take c).alTakeOcc_eq o)))
  have standing : standingOf (noteStanding s.al.occ o) g = some o := standingOf_noteStanding s.al.occ o
  have walk : u.alWalkIn g = w.isSome := by
    show (standingOf (noteStanding s.al.occ o) g).any (·.walkIn) = _
    rw [standing]
    rfl
  have moved (l : Loop) (hl : l ∈ loops) (hg : l.segs = g) :
      ∃ x ∈ s.al.loops, x.segs = g ∧ x.level = l.level ∧ l = u.loopFollowing x := by
    obtain ⟨x, hx, rfl⟩ := List.mem_map.1 hl
    by_cases h : x.segs = g
    · rw [if_pos h]
      exact ⟨x, hx, h, (u.loopFollowing_level x).symm, rfl⟩
    · rw [if_neg h] at hg
      exact absurd hg h
  refine ⟨_, taken, standing, fun hr hx l hl hg level none' => ?_, fun hr hx l hl hg level some' read => ?_,
    fun still => ?_, ?_, rfl, fun h hne => standingOf_noteStanding_other _ hne, rfl, rfl, State.drive_drive_os _⟩
  · obtain ⟨x, -, xg, xl, rfl⟩ := moved l hl hg
    exact State.loopFollowing_parks hr hx (xl.trans level) (by rw [xg, walk, none']; rfl)
  · obtain ⟨x, -, xg, xl, rfl⟩ := moved l hl hg
    exact State.loopFollowing_runs hr hx (xl.trans level) (by rw [xg, walk, some']) (by rw [xg]; exact read)
  · have same : loops = s.al.loops := by
      have one (l : Loop) : (if l.segs = g then u.loopFollowing l else l) = l := by
        rw [State.loopFollowing_still (s := u) still, ite_self]
      show s.al.loops.map (fun l => if l.segs = g then u.loopFollowing l else l) = _
      simp only [one, List.map_id']
    refine ⟨same, ?_⟩
    show s.reports.erase c ++ loopReports s.al.loops loops = _
    rw [same, loopReports_self, List.append_nil]
  · show (s.al.loops.map _).map _ = _
    rw [List.map_map]
    refine List.map_congr_left fun l _ => ?_
    show (if l.segs = g then u.loopFollowing l else l).segs = l.segs
    split
    · exact u.loopFollowing_segs l
    · rfl

/-- Settles O55: at AL the loops of the set follow OT's standing (State.alTakeOcc_eq), at LBU the group's segments
are lit anew (State.lbuTakeOcc_held). -/
theorem occupancyReportMovesLoopAndLights : Obligations.OccupancyReportMovesLoopAndLights := by
  intro s g occ w ha ho c
  refine ⟨occupancyReport_al s g occ w ha, ?_, fun b hb => ?_⟩
  · let o : OccStanding := ⟨g, occ, w.isSome, false⟩
    have taken : exec (c .lbu) s = .next ((s.take (c .lbu)).lbuTakeOcc o).drive :=
      congrArg Host.Outcome.next (State.event_taken ha (c .lbu) _)
    let v : State := { s.take (c .lbu) with lbu := { s.lbu with occ := noteStanding s.lbu.occ o } }
    let u : State := { s with lbu := { s.lbu with occ := noteStanding s.lbu.occ o } }
    have same : v.SameLights u := ⟨rfl, rfl, rfl, rfl, rfl⟩
    let vacated : Bool := (standingOf s.lbu.occ g).any fun before =>
      !before.inherited && before.occupied && !occ
    have vacates : becameVacant (standingOf s.lbu.occ o.segs) o = vacated := becameVacant_eq _ _
    have standing : standingOf (noteStanding s.lbu.occ o) g = some o := standingOf_noteStanding s.lbu.occ o
    cases held : s.lbuGroup? g with
    | none =>
      have none' : s.lbu.groups.any (fun r => r.segs == g) = false := by
        rw [List.any_eq_false]
        exact List.find?_eq_none.1 held
      have act : (s.take (c .lbu)).lbuTakeOcc o = v := State.lbuTakeOcc_foreign (s := s.take (c .lbu)) held
      rw [act] at taken
      refine ⟨_, taken, standing, rfl, ⟨⟨fun _ _ => rfl, rfl, State.drive_drive_os _⟩, fun _ => rfl, fun r hr => ?_,
        fun hr j => ?_⟩, fun h hne => standingOf_noteStanding_other _ hne, fun before hr hb hi hoc hz hany => ?_, rfl,
        State.drive_drive_os _⟩
      · cases held.symm.trans hr
      · rw [if_neg (fun h => by rw [none'] at h; exact Bool.noConfusion h.2.1)]
        rfl
      · rw [none'] at hany
        cases hany
    | some r =>
      have any : s.lbu.groups.any (fun r => r.segs == g) = true :=
        List.any_eq_true.2 ⟨r, List.mem_of_find?_eq_some held,
          List.find?_some (p := fun x : LbuGroup => x.segs == g) held⟩
      have segs : r.segs = g :=
        eq_of_beq (List.find?_some (p := fun x : LbuGroup => x.segs == g) held)
      have lit := State.lbuTakeOcc_held (s := s.take (c .lbu)) (o := o) held
      have relit' : u.relitSeg = State.relitSeg v := by
        unfold State.relitSeg
        rw [same.rowsSet, same.blindSet]
      rw [show becameVacant (standingOf (s.take (c .lbu)).lbu.occ o.segs) o = vacated from vacates] at lit
      generalize (s.take (c .lbu)).lbuTakeOcc o = t at taken lit
      obtain ⟨relit, at'⟩ := lit
      have got (j : Seg) : t.lbu.segs.get j = litIn g (u.relitSeg r vacated) j (s.lbu.segs.get j) := by
        rw [relit']
        exact at' j
      have frame : t.lbu = { s.lbu with occ := noteStanding s.lbu.occ o, segs := t.lbu.segs } := by
        rw [relit]
        rfl
      have noted : t.lbu.occ = noteStanding s.lbu.occ o := by rw [frame]
      have groups : t.lbu.groups = s.lbu.groups := by rw [frame]
      refine ⟨_, taken, (congrArg (standingOf · g) noted).trans standing, groups, ⟨⟨fun j out => ?_, ?_, State.drive_drive_os _⟩,
        fun hz => ?_, fun x hx => .of_relit fun j hj alone => ?_, fun hr j => ?_⟩,
        fun h hne => ?_, fun before hr hb hi hoc hz hany j hj hc => ?_, ?_, State.drive_drive_os _⟩
      · exact (got j).trans (if_neg (out g (List.mem_singleton.2 rfl)))
      · show t.lbu = { s.lbu with occ := t.lbu.occ, segs := t.lbu.segs }
        rw [noted]
        exact frame
      · rw [any] at hz
        cases hz
      · have xr : x = r := Option.some.inj (hx.symm.trans held)
        rw [xr, segs] at hj
        rw [xr]
        show t.lbu.segs.get j = State.relitSeg { s with lbu := { s.lbu with occ := t.lbu.occ } } r vacated j _
        rw [noted, got, litIn, if_pos hj]
      · rw [show t.drive.lbu.segs.get j = t.lbu.segs.get j from rfl, got, litIn]
        have service (l : LbuSeg) : u.relitSeg r vacated j l = bared vacated l := State.relitSeg_service (s := u) hr r vacated j l
        rw [service]
        show _ = ({ s.lbu.segs.get j with blind :=
          if vacated = true ∧ s.lbu.groups.any (fun r => r.segs == g) = true ∧ j ∈ segList g
            then { s.blind j with override := none } else s.blind j } : LbuSeg)
        rw [any]
        by_cases hj : j ∈ segList g
        · cases hv : vacated with
          | false => simp [hj, bared]; rfl
          | true => simp [hj, bared]; rfl
        · simp [hj]; rfl
      · show standingOf t.lbu.occ h = _
        rw [noted]
        exact standingOf_noteStanding_other _ hne
      · have gone : vacated = true := by
          show ((standingOf s.lbu.occ g).any fun before => !before.inherited && before.occupied && !occ) = true
          rw [hb]
          simp [hi, hoc, hz]
        have empty : u.lbuOccupied r.segs = false := by
          show (standingOf (noteStanding s.lbu.occ o) r.segs).any (·.occupied) = false
          rw [segs, standing]
          exact hz
        have lit := got j
        rw [litIn, if_pos hj, gone, State.relitSeg_fields] at lit
        obtain ⟨window, inner⟩ := State.rowsSet_vacant (s := u) hr empty hc (s.lbu.segs.get j)
        show (t.lbu.segs.get j).window.target = 0 ∧ (t.lbu.segs.get j).inner.target = 0 ∧
          (t.lbu.segs.get j).blind.override = none
        rw [lit]
        exact ⟨window, inner, (u.blindSet_keeps j _).1⟩
      · rw [relit]
        rfl
  · simp only [List.mem_cons, List.not_mem_nil, or_false] at hb
    obtain rfl | rfl | rfl := hb
    all_goals exact congrArg Host.Outcome.next ((State.event_taken ha _ _).trans
      (State.drive_eq_self ha ho rfl rfl))

end Sys2Proof.Machine

/-! The room link line: RL's byte table over the bytes of a row, and the ends of frames and replies. -/

namespace Sys2Proof.Machine

/-! ### A panel command leaves RL's own state -/

theorem judged_rl {s : State} {checks : List (Bool × Reason)} {act : State → Answered} (h : (act s).1.rl = s.rl) :
    (judged s checks act).1.rl = s.rl := by
  rw [judged_eq]
  split
  · exact h
  · rfl

theorem State.createAdhoc_rl (s : State) (g : Segs) : (s.createAdhoc g).1.rl = s.rl := judged_rl rfl

theorem State.begin_rl (i : Seg) (s : State) : (s.begin_ i).1.rl = s.rl := by
  unfold State.begin_
  dsimp only
  split
  · rfl
  · split
    · rfl
    · split
      · split <;> rfl
      · exact s.createAdhoc_rl _

theorem State.end_rl (i : Seg) (s : State) : (s.end_ i).1.rl = s.rl := by
  unfold State.end_
  dsimp only
  split
  · split <;> rfl
  · rfl

theorem State.extend_rl (i : Seg) (minutes : Nat) (s : State) : (s.extend i minutes).1.rl = s.rl := by
  unfold State.extend
  split
  · rfl
  · exact judged_rl rfl

theorem State.headcount_rl (i : Seg) (n : Nat) (s : State) : (s.headcount i n).1.rl = s.rl := by
  unfold State.headcount
  split <;> rfl

theorem State.adjust_rl (s : State) (g : GroupRec) (d : Int) : (s.adjust g d).1.rl = s.rl := by
  unfold State.adjust
  split
  · split
    · split
      · dsimp only
        rw [State.alSetpointMoved, State.alReconcile_eq]
        rfl
      · rfl
    · rfl
  · split
    · dsimp only
      rw [State.alReconcile_eq]
      rfl
    · rfl

theorem State.panelAdjust_rl (i : Seg) (d : Int) (s : State) : (s.panelAdjust i d).1.rl = s.rl := by
  have moved := s.adjust_rl (s.panelGroup i) d
  unfold State.panelAdjust
  generalize s.adjust (s.panelGroup i) d = r at moved ⊢
  obtain ⟨u, p⟩ := r
  cases p <;> exact moved

theorem State.Relit.rl {s t : State} (h : s.Relit t) : t.rl = s.rl := by
  rw [h]

theorem State.panelScene_rl (s : State) (g : GroupRec) (act : Nat → Option Nat → Nat → Nat × Option Nat) :
    (s.panelScene g act).1.rl = s.rl := by
  unfold State.panelScene
  split
  · split
    · split
      · exact (State.entrySceneChanged_relit _ _ _).rl
      · rfl
    · rfl
  · split
    · exact (State.sceneChanged_relit _ _).rl
    · rfl

theorem sceneReply_rl (r : State × Option Nat) : (sceneReply r).1.rl = r.1.rl := by
  obtain ⟨u, n⟩ := r
  cases n <;> rfl

theorem State.blindFrame_rl (i : Seg) (payload : List Byte) (s : State) : (s.blindFrame i payload).1.rl = s.rl := by
  have request (o : Blind → Option Nat) := (s.blindRequest_relit (s.panelGroup i).segs o).rl
  unfold State.blindFrame
  split
  · exact request _
  · exact request _
  · unfold State.blindTo
    split
    · rfl
    · exact request _

theorem inRunOnly_rl {s : State} {act : State → Answered} (h : (act s).1.rl = s.rl) :
    (inRunOnly act s).1.rl = s.rl := by
  unfold inRunOnly
  split
  · exact h
  · rfl

theorem State.returnUpcoming_state (s : State) (i : Seg) (found : Option Entry) :
    (s.returnUpcoming i found).1.rl.state = s.rl.state := by
  cases found <;> rfl

theorem frameAnswer_state (i : Seg) (code : Nat) (payload : List Byte) (s : State) :
    (frameAnswer i code payload s).1.rl.state = s.rl.state := by
  unfold frameAnswer
  split
  · rfl
  · split
    · unfold routed
      split
      case h_9 => rfl
      case h_10 => exact s.returnUpcoming_state i _
      case h_11 =>
        unfold State.upcomingNext
        split
        · rfl
        · exact s.returnUpcoming_state i _
      all_goals refine congrArg Rl.state (inRunOnly_rl ?_)
      · exact s.begin_rl i
      · exact s.end_rl i
      · exact s.extend_rl i _
      · exact s.headcount_rl i _
      · exact s.panelAdjust_rl i _
      · exact judged_rl ((sceneReply_rl _).trans (s.panelScene_rl _ _))
      · exact (sceneReply_rl _).trans (s.panelScene_rl _ _)
      · exact s.blindFrame_rl i payload
    · rfl

/-! ### A complete frame (R183, R184) -/

theorem State.presence_rl (s : State) (i : Seg) : (s.presence i).rl = s.rl := by
  rw [s.presence_frame i]

/-- A frame taken leaves RL in REPLY. -/
theorem State.takePanelFrame_reply {s : State} (ha : s.alive = true) (hr : s.rl.state ≠ .reply) (i : Seg) (code : Nat)
    (payload : List Byte) : (s.takePanelFrame i code payload).rl.state = .reply := by
  unfold State.takePanelFrame State.panel
  rw [if_pos (by simp [ha, hr])]
  dsimp only
  split
  · show (frameAnswer i code payload _).1.rl.state = _
    rw [frameAnswer_state, State.presence_rl]
    rfl
  · rfl

/-- A frame is taken alike wherever RL stood in receiving it. -/
theorem State.panel_received {s : State} (hr : s.rl.state ≠ .reply) {state : RlState} (hs : state ≠ .reply)
    (frame echo : List Byte) (i : Seg) (bytes : List Byte) (act : State → Answered) (ha : s.alive = true) :
    State.panel { s with rl := { s.rl with state := state, frame := frame, echo := echo } } i bytes act =
      s.panel i bytes act := by
  have taken : (s.alive && s.rl.state != .reply) = true := by simp [ha, hr]
  have taken' : (s.alive && state != .reply) = true := by simp [ha, hs]
  unfold State.panel
  rw [if_pos taken]
  exact if_pos taken'

theorem State.drive_again (s : State) : s.drive.drive = s.drive := by
  show ({ s.drive with os := s.drive.drive.os } : State) = _
  rw [← s.drive_drive_os]

theorem State.panel_drive {s : State} (ha : s.alive = true) (ho : s.OutputsFollow) (i : Seg) (bytes : List Byte)
    (act : State → Answered) : (s.panel i bytes act).drive = s.panel i bytes act := by
  unfold State.panel
  split
  · dsimp only
    split
    · exact State.drive_again _
    · exact State.drive_eq_self (s := s) (u := linkReply (refuse (s.echoFrame bytes) .noSegment)) ha ho rfl rfl
  · exact State.drive_of_follow ha ho

/-! ### The byte table (R181) -/

theorem State.hears_iff (s : State) : s.hears = true ↔ s.rl.state ≠ .reply ∧ s.rl.breakEcho = false := by
  unfold State.hears
  rw [Bool.and_eq_true, bne_iff_ne, Bool.not_eq_true']

theorem State.hears_false {s : State} (h : s.rl.state = .reply ∨ s.rl.breakEcho = true) : s.hears = false := by
  unfold State.hears
  obtain h | h := h <;> simp [h]

theorem State.linkByte_address {s : State} (h : s.hears = true) (hi : s.rl.state = .idle) {b : Byte}
    (hb : 0xA0 ≤ b.toNat ∧ b.toNat ≤ 0xA3) : s.linkByte b = s.linkStore b .receive [b] := by
  rw [State.linkByte_idle h hi, if_pos (by unfold isPanelAddress; rw [Bool.and_eq_true, decide_eq_true_eq, decide_eq_true_eq]; exact hb)]

theorem State.linkByte_stray {s : State} (h : s.hears = true) (hi : s.rl.state = .idle) {b : Byte}
    (hb : b.toNat < 0xA0 ∨ 0xA3 < b.toNat) : s.linkByte b = s.linkStore b .idle [] := by
  rw [State.linkByte_idle h hi, if_neg]
  unfold isPanelAddress
  rw [Bool.and_eq_true, decide_eq_true_eq, decide_eq_true_eq]
  omega

theorem State.linkJoin_second {s : State} {a : Byte} (hf : s.rl.frame = [a]) (b : Byte) :
    s.linkJoin b = s.linkStore b .receive [a, b] := by
  unfold State.linkJoin
  rw [hf]
  rfl

theorem State.linkJoin_third {s : State} {a code : Byte} (hf : s.rl.frame = [a, code]) (b : Byte) :
    s.linkJoin b = if 6 < b.toNat then s.linkStore b .idle []
      else if b.toNat = 0 then s.takePanelFrame (panelSeg a) code.toNat []
      else s.linkStore b .receive [a, code, b] := by
  unfold State.linkJoin
  rw [hf]
  rfl

theorem State.linkJoin_payload {s : State} {a code len : Byte} {payload : List Byte}
    (hf : s.rl.frame = a :: code :: len :: payload) (b : Byte) :
    s.linkJoin b = if len.toNat ≤ payload.length + 1 then s.takePanelFrame (panelSeg a) code.toNat (payload ++ [b])
      else s.linkStore b .receive (a :: code :: len :: (payload ++ [b])) := by
  unfold State.linkJoin
  rw [hf]
  cases payload with
  | nil => rfl
  | cons p rest =>
    show (if len.toNat ≤ (p :: (rest ++ [b])).length then _ else _) = _
    rw [show (p :: (rest ++ [b])).length = (p :: rest).length + 1 by simp]
    rfl

/-- A byte completes a frame, or joins the echo and moves nothing else but the frame in progress. -/
theorem State.linkByte_cases {s : State} (ha : s.alive = true) (h : s.hears = true) (b : Byte) :
    (s.linkByte b).rl.state = .reply ∨
      ∃ state frame, state ≠ .reply ∧ s.linkByte b = s.linkStore b state frame := by
  have hr := ((s.hears_iff).1 h).1
  have stored {state : RlState} {frame : List Byte} (hs : state ≠ .reply) (e : s.linkByte b = s.linkStore b state frame) :
      (s.linkByte b).rl.state = .reply ∨
        ∃ state frame, state ≠ .reply ∧ s.linkByte b = s.linkStore b state frame := .inr ⟨_, _, hs, e⟩
  cases hs : s.rl.state with
  | reply => exact absurd hs hr
  | idle =>
    by_cases hb : 0xA0 ≤ b.toNat ∧ b.toNat ≤ 0xA3
    · exact stored (by decide) (State.linkByte_address h hs hb)
    · exact stored (by decide) (State.linkByte_stray h hs (by omega))
  | receive =>
    have join := State.linkByte_receive h hs b
    have taken {i : Seg} {code : Nat} {payload : List Byte} (e : s.linkJoin b = s.takePanelFrame i code payload) :
        (s.linkByte b).rl.state = .reply := by
      rw [join, e]
      exact State.takePanelFrame_reply ha hr i code payload
    match hf : s.rl.frame with
    | [] =>
      refine stored (state := .receive) (frame := [b]) (by decide) (join.trans ?_)
      unfold State.linkJoin
      rw [hf]
      rfl
    | [a] => exact stored (by decide) (join.trans (State.linkJoin_second hf b))
    | [a, code] =>
      have third := State.linkJoin_third hf b
      split at third
      · exact stored (by decide) (join.trans third)
      · split at third
        · exact .inl (taken third)
        · exact stored (by decide) (join.trans third)
    | a :: code :: len :: payload =>
      have more := State.linkJoin_payload hf b
      split at more
      · exact .inl (taken more)
      · exact stored (by decide) (join.trans more)

/-! ### The bytes of a row -/

theorem State.foldl_linkByte_deaf (bytes : List Byte) {s : State} (h : s.hears = false) :
    bytes.foldl State.linkByte s = s := by
  induction bytes with
  | nil => rfl
  | cons b bytes ih => rw [List.foldl_cons, State.linkByte_deaf h, ih]

/-- RL with another frame in progress. -/
def State.linkAt (s : State) (state : RlState) (frame echo : List Byte) : State :=
  { s with rl := { s.rl with state := state, frame := frame, echo := echo } }

/-- The bytes of a row complete a frame, or join the echo and move nothing else but the frame in progress. -/
theorem State.foldl_linkByte_cases (bytes : List Byte) {s : State} (ha : s.alive = true) (h : s.hears = true) :
    (bytes.foldl State.linkByte s).rl.state = .reply ∨
      ∃ state frame, state ≠ .reply ∧
        bytes.foldl State.linkByte s = s.linkAt state frame (s.rl.echo ++ bytes) := by
  have hr := (s.hears_iff).1 h
  induction bytes generalizing s with
  | nil => exact .inr ⟨s.rl.state, s.rl.frame, hr.1, by rw [List.append_nil]; rfl⟩
  | cons b bytes ih =>
    rw [List.foldl_cons]
    obtain reply | ⟨state, frame, hs, e⟩ := State.linkByte_cases ha h b
    · rw [State.foldl_linkByte_deaf bytes (State.hears_false (.inl reply))]
      exact .inl reply
    · have hears : (s.linkStore b state frame).hears = true := (State.hears_iff _).2 ⟨hs, hr.2⟩
      obtain reply | ⟨state', frame', hs', e'⟩ := ih (s := s.linkStore b state frame) ha hears ⟨hs, hr.2⟩
      · exact .inl (by rw [e]; exact reply)
      · refine .inr ⟨state', frame', hs', ?_⟩
        rw [e, e', State.linkAt, State.linkAt,
          show (s.linkStore b state frame).rl.echo ++ bytes = s.rl.echo ++ b :: bytes by
            show (s.rl.echo ++ [b]) ++ bytes = _
            rw [List.append_assoc]
            rfl]
        rfl

theorem receive_ne_reply : RlState.receive ≠ .reply := by decide

/-- The bytes of a frame from its fourth on complete it. -/
theorem State.foldl_linkByte_payload (rest : List Byte) {s : State} {a code len : Byte} {payload : List Byte}
    (h : s.hears = true) (hs : s.rl.state = .receive)
    (hf : s.rl.frame = a :: code :: len :: payload) (hne : rest ≠ [])
    (hl : payload.length + rest.length = len.toNat) :
    ∃ frame echo, rest.foldl State.linkByte s =
      (s.linkAt .receive frame echo).takePanelFrame (panelSeg a) code.toNat (payload ++ rest) := by
  induction rest generalizing s payload with
  | nil => exact absurd rfl hne
  | cons b rest ih =>
    rw [List.foldl_cons, State.linkByte_receive h hs, State.linkJoin_payload hf]
    rw [List.length_cons] at hl
    cases rest with
    | nil =>
      rw [if_pos (by simp only [List.length_nil] at hl; omega)]
      refine ⟨s.rl.frame, s.rl.echo, ?_⟩
      rw [List.foldl_nil, State.linkAt, ← hs]
    | cons c rest =>
      rw [if_neg (by simp only [List.length_cons] at hl; omega)]
      have hears := (s.hears_iff).1 h
      obtain ⟨frame, echo, e⟩ := ih (s := s.linkStore b .receive (a :: code :: len :: (payload ++ [b])))
        (payload := payload ++ [b]) ((State.hears_iff _).2 ⟨receive_ne_reply, hears.2⟩) rfl rfl (by simp)
        (by rw [List.length_append, List.length_singleton]; omega)
      refine ⟨frame, echo, e.trans ?_⟩
      rw [List.append_assoc]
      rfl

theorem panelSeg_address (i : Seg) : panelSeg (byteOf (0xA0 + i)) = i := by
  refine Fin.ext ?_
  show (byteOf (0xA0 + i)).toNat % 4 = i
  rw [byteOf_toNat]
  omega

/-- A frame whose bytes arrive in one row while RL is in IDLE is taken whole. -/
theorem State.foldl_linkByte_frame {s : State} (ha : s.alive = true) (h : s.hears = true) (hi : s.rl.state = .idle)
    (i : Seg) {code : Nat} {payload : List Byte} (hc : code < 256) (hl : payload.length ≤ 6) :
    (frameBytes i code payload).foldl State.linkByte s = s.takePanelFrame i code payload := by
  have hears := (s.hears_iff).1 h
  let a := byteOf (0xA0 + i)
  let c := byteOf code
  let n := byteOf payload.length
  have hn : n.toNat = payload.length := by
    rw [byteOf_toNat]
    omega
  have bytes : frameBytes i code payload = a :: c :: n :: payload := by
    simp [frameBytes, be, a, c, n]
  have seg : panelSeg a = i := panelSeg_address i
  have name : c.toNat = code := by
    rw [byteOf_toNat]
    omega
  have received (frame echo : List Byte) :
      (s.linkAt .receive frame echo).takePanelFrame i code payload = s.takePanelFrame i code payload :=
    State.panel_received hears.1 (by decide) frame echo i _ _ ha
  have open_ (f : List Byte) (e : List Byte) : (s.linkAt .receive f e).hears = true :=
    (State.hears_iff _).2 ⟨receive_ne_reply, hears.2⟩
  have first : s.linkByte a = s.linkAt .receive [a] (s.rl.echo ++ [a]) :=
    State.linkByte_address h hi (by rw [byteOf_toNat]; omega)
  have second : (s.linkAt .receive [a] (s.rl.echo ++ [a])).linkByte c =
      s.linkAt .receive [a, c] (s.rl.echo ++ [a] ++ [c]) :=
    (State.linkByte_receive (open_ _ _) rfl c).trans (State.linkJoin_second rfl c)
  have third : (s.linkAt .receive [a, c] (s.rl.echo ++ [a] ++ [c])).linkByte n =
      if payload.length = 0 then s.takePanelFrame i code []
      else s.linkAt .receive [a, c, n] (s.rl.echo ++ [a] ++ [c] ++ [n]) := by
    rw [State.linkByte_receive (open_ _ _) rfl n, State.linkJoin_third rfl n, if_neg (by omega), hn, seg, name]
    split
    next empty =>
      rw [List.eq_nil_of_length_eq_zero empty] at received
      exact received _ _
    · rfl
  rw [bytes, List.foldl_cons, List.foldl_cons, List.foldl_cons, first, second, third]
  cases hp : payload with
  | nil => rw [List.length_nil, if_pos rfl, List.foldl_nil]
  | cons p rest =>
    rw [if_neg (by simp), ← hp]
    obtain ⟨frame, echo, e⟩ := State.foldl_linkByte_payload payload (payload := []) (open_ [a, c, n] _) rfl rfl
      (by rw [hp]; exact List.cons_ne_nil _ _) (by rw [hn, List.length_nil, Nat.zero_add])
    rw [e, seg, name]
    exact received frame echo

/-! ### The rows of the line -/

/-- RL after the bytes of a row, what it drives for them noted from here on. -/
def State.afterBytes (s : State) (c : Instr) (bytes : List Byte) : State :=
  if s.rl.state = .reply ∨ s.rl.breakEcho = true then s.take c
  else bytes.foldl State.linkByte { s.take c with rl := { s.rl with echo := [] } }

theorem State.linkBytes_take (s : State) (c : Instr) (bytes : List Byte) :
    (s.take c).linkBytes bytes = s.afterBytes c bytes := by
  unfold State.linkBytes State.afterBytes
  by_cases h : s.rl.state = .reply ∨ s.rl.breakEcho = true
  · rw [if_neg (by rw [show (s.take c).hears = false from State.hears_false (s := s.take c) h]; decide), if_pos h]
  · rw [if_neg h]
    rw [not_or, Bool.not_eq_true] at h
    exact if_pos ((State.hears_iff (s.take c)).2 h)

/-- Bytes that complete no frame move nothing that is driven. -/
theorem State.afterBytes_undriven {s : State} (ha : s.alive = true) (c : Instr) (bytes : List Byte)
    (h : (s.afterBytes c bytes).rl.state ≠ .reply) :
    (s.afterBytes c bytes).os = s.os ∧ (s.afterBytes c bytes).drive.os = s.drive.os ∧
      (s.rl.breakEcho = false → (s.afterBytes c bytes).rl.echo = bytes) := by
  unfold State.afterBytes at h ⊢
  split at h
  next deaf =>
    rw [if_pos deaf]
    refine ⟨rfl, rfl, fun hb => ?_⟩
    rw [hb] at deaf
    exact absurd (deaf.resolve_right Bool.false_ne_true) h
  next hears =>
    rw [if_neg hears]
    rw [not_or, Bool.not_eq_true] at hears
    obtain reply | ⟨state, frame, -, e⟩ := State.foldl_linkByte_cases bytes
      (s := { s.take c with rl := { s.rl with echo := [] } }) ha ((State.hears_iff _).2 hears)
    · exact absurd reply h
    · rw [e]
      exact ⟨rfl, rfl, fun _ => rfl⟩

/-- RL once the frame in progress has been lost. -/
def State.lostFrame (v : State) : State :=
  match v.rl.state with
  | .reply => v.drive
  | .idle => v
  | .receive => { v with rl := { v.rl with state := .idle, frame := [], reply := none } }

/-- The bytes of a row whose last frame is lost. -/
theorem State.event_lost {s : State} (ha : s.alive = true) (ho : s.OutputsFollow) (c : Instr) (bytes : List Byte) :
    s.event c (fun s => s.loseFrame bytes) = (s.afterBytes c bytes).lostFrame := by
  rw [State.event_taken ha]
  show ((s.take c).linkBytes bytes).dropLinkFrame.drive = _
  rw [State.linkBytes_take]
  unfold State.lostFrame State.dropLinkFrame
  have still := State.afterBytes_undriven ha c bytes
  cases h : (s.afterBytes c bytes).rl.state with
  | reply => rfl
  | idle =>
    obtain ⟨os, driven, -⟩ := still (by rw [h]; decide)
    exact State.drive_eq_self ha ho os driven
  | receive =>
    obtain ⟨os, driven, -⟩ := still (by rw [h]; decide)
    exact State.drive_eq_self (s := s) ha ho os driven

/-- The bytes of a row whose last byte discards the frame. -/
theorem State.event_discarded {s : State} (ha : s.alive = true) (ho : s.OutputsFollow) (bytes : List Byte) (b : Byte) :
    let c := Instr.linkFrameDiscarded (bytes ++ [b])
    s.event c (fun s => s.discardFrame (bytes ++ [b])) =
      if s.rl.state = .reply ∨ s.rl.breakEcho = true then s.take c
      else if (s.afterBytes c bytes).rl.state = .reply then (s.afterBytes c bytes).drive
      else { s.afterBytes c bytes with rl := { (s.afterBytes c bytes).rl with
        state := .idle, frame := [], echo := (s.afterBytes c bytes).rl.echo ++ [b] } } := by
  intro c
  rw [State.event_taken ha, State.discardFrame_append, State.linkBytes_take]
  by_cases deaf : s.rl.state = .reply ∨ s.rl.breakEcho = true
  · rw [if_pos deaf, State.afterBytes, if_pos deaf,
      State.spoiltByte_deaf (show (s.take c).hears = false from State.hears_false (s := s.take c) deaf)]
    exact State.drive_eq_self ha ho rfl rfl
  · rw [if_neg deaf]
    by_cases reply : (s.afterBytes c bytes).rl.state = .reply
    · rw [if_pos reply, State.spoiltByte_deaf (State.hears_false (.inl reply))]
    · obtain ⟨os, driven, -⟩ := State.afterBytes_undriven ha c bytes reply
      have quiet : (s.afterBytes c bytes).rl.breakEcho = false := by
        rw [not_or, Bool.not_eq_true] at deaf
        unfold State.afterBytes at reply ⊢
        rw [if_neg (by rw [not_or, Bool.not_eq_true]; exact deaf)] at reply ⊢
        obtain taken | ⟨state, frame, -, e⟩ := State.foldl_linkByte_cases bytes
          (s := { s.take c with rl := { s.rl with echo := [] } }) ha ((State.hears_iff _).2 deaf)
        · exact absurd taken reply
        · rw [e]
          exact deaf.2
      rw [if_neg reply, State.spoiltByte, if_pos ((State.hears_iff _).2 ⟨reply, quiet⟩)]
      exact State.drive_eq_self (s := s) ha ho os driven

theorem State.event_break {s : State} (ha : s.alive = true) (bytes : List Byte) :
    let c := Instr.lineBreak bytes
    let v := s.afterBytes c bytes
    s.event c (fun s => s.takeBreak bytes) = ({ v with rl := { v.rl with
      state := .idle, frame := [], reply := none, breakEcho := true
      echo := if v.rl.state = .reply then [] else v.rl.echo } } : State).drive := by
  intro c v
  rw [State.event_taken ha]
  refine congrArg State.drive ?_
  unfold State.takeBreak State.loseFrame
  rw [State.linkBytes_take]
  show (match v.dropLinkFrame.rl.state with
    | .reply => v.dropLinkFrame.linkIdle [] true
    | _ => v.dropLinkFrame.linkIdle v.dropLinkFrame.rl.echo true) = _
  unfold State.dropLinkFrame
  cases h : v.rl.state with
  | reply =>
    simp only [h]
    rfl
  | idle =>
    simp only [h]
    rfl
  | receive => rfl

/-- Settles O44: the byte table by its cases, a row's bytes by State.foldl_linkByte_cases, a whole frame by
State.foldl_linkByte_frame. -/
theorem linkLineEventsLeaveRlIdle : Obligations.LinkLineEventsLeaveRlIdle := by
  refine ⟨fun s b ha => ?_, fun s bytes ha ho => ?_⟩
  · intro joins
    refine ⟨fun h => State.linkByte_deaf (State.hears_false h) b, fun hq hi => ?_, fun hq hr => ?_⟩
    · have h : s.hears = true := (s.hears_iff).2 ⟨by rw [hi]; decide, hq⟩
      exact ⟨fun low high => State.linkByte_address h hi ⟨low, high⟩, fun hb => State.linkByte_stray h hi hb⟩
    · have h : s.hears = true := (s.hears_iff).2 ⟨by rw [hr]; decide, hq⟩
      have join := State.linkByte_receive h hr b
      refine ⟨fun a hf => join.trans (State.linkJoin_second hf b), fun a code hf => ?_, fun a code len payload hf => ?_⟩
      · have third := join.trans (State.linkJoin_third hf b)
        exact ⟨fun big => third.trans (if_pos big),
          fun zero => third.trans ((if_neg (by omega)).trans (if_pos zero)),
          fun some' fits => third.trans ((if_neg (by omega)).trans (if_neg (by omega)))⟩
      · have more := join.trans (State.linkJoin_payload hf b)
        exact ⟨fun short => more.trans (if_neg (by omega)), fun full => more.trans (if_pos full)⟩
  · intro after lost
    have quiet {c : Instr} : (s.afterBytes c bytes).rl.state ≠ .reply →
        s.rl.breakEcho = false → (s.afterBytes c bytes).rl.echo = bytes := fun h =>
      (State.afterBytes_undriven ha c bytes h).2.2
    refine ⟨congrArg Host.Outcome.next (State.event_lost ha ho _ bytes), fun empty => ?_, fun b => ?_, ?_,
      fun hq c hr => quiet hr hq, fun i code payload hq hi hc hl hb => ?_, ?_, ?_⟩
    · refine congrArg Host.Outcome.next ?_
      subst empty
      exact (State.event_lost ha ho (.linkFrameDiscarded []) [] :)
    · exact congrArg Host.Outcome.next (State.event_discarded ha ho bytes b)
    · exact congrArg Host.Outcome.next (State.event_break ha bytes)
    · let c := Instr.linkGapTimeout bytes
      have idle : s.rl.state ≠ .reply := by rw [hi]; decide
      have taken : s.afterBytes c bytes = (s.take c).takePanelFrame i code payload := by
        rw [State.afterBytes, if_neg (by rw [not_or, Bool.not_eq_true]; exact ⟨idle, hq⟩), hb]
        refine (State.foldl_linkByte_frame (s := (s.take c).linkAt s.rl.state s.rl.frame []) ha
          ((State.hears_iff _).2 ⟨idle, hq⟩) hi i hc hl).trans ?_
        exact State.panel_received (s := s.take c) idle idle s.rl.frame [] i _ _ ha
      refine congrArg Host.Outcome.next ((State.event_lost ha ho c bytes).trans ?_)
      rw [taken, State.lostFrame, State.takePanelFrame_reply (s := s.take c) ha idle]
      exact State.panel_drive (s := s.take c) ha ho i _ _
    · refine congrArg Host.Outcome.next ((State.event_taken ha .replyCollision _).trans ?_)
      have still : (s.take .replyCollision).drive = s.take .replyCollision := State.drive_eq_self ha ho rfl rfl
      by_cases reply : s.rl.state = .reply
      · rw [if_pos reply]
        simp only [show (s.take .replyCollision).rl.state = .reply from reply]
        exact State.drive_eq_self (s := s) ha ho rfl rfl
      · rw [if_neg reply]
        cases hr : s.rl.state with
        | reply => exact absurd hr reply
        | idle | receive =>
          simp only [show (s.take .replyCollision).rl.state = _ from hr]
          exact still
    · refine congrArg Host.Outcome.next ((State.event_taken ha .linkReplyEnd _).trans ?_)
      cases hr : s.rl.reply with
      | none =>
        simp only [show (s.take .linkReplyEnd).rl.reply = _ from hr]
        exact State.drive_eq_self ha ho rfl rfl
      | some r =>
        simp only [show (s.take .linkReplyEnd).rl.reply = _ from hr]
        exact State.drive_eq_self (s := s) ha ho rfl rfl

end Sys2Proof.Machine

/-! A tick of 50 ms, and what falls due. -/

namespace Sys2Proof.Machine

/-! ### What is due -/

theorem mem_whenDue {timer : Option Nat} {c d : Instr} : c ∈ whenDue timer d ↔ timer = some 0 ∧ c = d := by
  unfold whenDue
  split <;> simp_all

theorem mem_whenTrue {b : Bool} {c d : Instr} : c ∈ whenTrue b d ↔ b = true ∧ c = d := by
  unfold whenTrue
  cases b <;> simp

theorem mem_duePart {s : State} {p : Part} {c : Instr} : c ∈ duePart s p ↔
    ((s.lm.parts.get p).pending.isSome = true ∧ (s.lm.parts.get p).settle = some 0 ∧ c = .settleTimerExpiry p) ∨
      (s.lm.parts.get p).between = some 0 ∧ c = .betweenTimerExpiry p := by
  unfold duePart
  dsimp only
  rw [List.mem_append, mem_whenDue]
  split
  next h => simp only [h, mem_whenDue, true_and]
  next h => simp only [h, List.not_mem_nil, Bool.false_eq_true, false_and]

theorem mem_dueSensors {s : State} {i : Seg} {c : Instr} : c ∈ dueSensors s i ↔
    (∃ k, (s.sensor i k).stale = some 0 ∧ c = .staleTimerExpiry i k) ∨
      (s.configured i = true ∧ (s.si.polls.get i).waiting = true ∧ s.si.outstanding = none) ∧ c = .sensorPoll i := by
  unfold dueSensors
  rw [List.mem_append, List.mem_flatMap, mem_whenTrue, Bool.and_eq_true, Bool.and_eq_true, Option.isNone_iff_eq_none]
  refine or_congr ⟨fun ⟨k, _, h⟩ => ⟨k, mem_whenDue.1 h⟩, fun ⟨k, h⟩ => ⟨k, ?_, mem_whenDue.2 h⟩⟩
    (and_congr and_assoc Iff.rfl)
  cases k <;> decide

theorem mem_dueWindow {s : State} {c : Instr} :
    c ∈ dueWindow s ↔ ∃ i, s.si.outstanding = some (i, 0) ∧ c = .answerWindowExpiry i := by
  unfold dueWindow
  cases h : s.si.outstanding with
  | none => simp
  | some o =>
    obtain ⟨i, n⟩ := o
    simp only [mem_whenTrue, beq_iff_eq, Option.some.injEq, Prod.mk.injEq]
    exact ⟨fun ⟨zero, hc⟩ => ⟨i, ⟨rfl, zero⟩, hc⟩, fun ⟨_, ⟨hi, zero⟩, hc⟩ => ⟨zero, hi ▸ hc⟩⟩

theorem mem_dueVacancy {s : State} {i : Seg} {c : Instr} : c ∈ dueVacancy s i ↔
    (∃ v, (s.ot.segs.get i).vacancy = some v ∧ v.left = 0) ∧ c = .vacancyTimerExpiry i := by
  unfold dueVacancy
  rw [mem_whenDue, Option.map_eq_some_iff]

theorem not_isMoving_iff (b : Blind) : isMoving b = false ↔ ¬(b.motion = .movingUp ∨ b.motion = .movingDown) := by
  rw [← isMoving_eq, Bool.not_eq_true]

theorem mem_dueBlind {s : State} {i : Seg} {c : Instr} : c ∈ dueBlind s i ↔
    ((s.lbu.segs.get i).glare.onTimer = some 0 ∧ c = .glareOnExpiry i) ∨
    ((s.lbu.segs.get i).glare.offTimer = some 0 ∧ c = .glareOffExpiry i) ∨
    ((s.blind i).driveUp = some 0 ∧ c = .driveUpEnd i) ∨
    (((s.blind i).motion = .reversing ∧ (s.blind i).reversing = some 0) ∧ c = .reversingEnd i) ∨
    (((s.blind i).driveUp = none ∧ 10 ≤ (s.blind i).uncharged) ∧ c = .budgetCharge i) ∨
    (s.configured i = true ∧ (s.blind i).driveUp = none ∧
      ¬((s.blind i).motion = .movingUp ∨ (s.blind i).motion = .movingDown) ∧ 40 ≤ (s.blind i).rest) ∧
      c = .budgetRefill i := by
  have reversing : c ∈ (if (s.blind i).motion = .reversing then whenDue (s.blind i).reversing (.reversingEnd i) else []) ↔
      ((s.blind i).motion = .reversing ∧ (s.blind i).reversing = some 0) ∧ c = .reversingEnd i := by
    split
    next h => simp only [h, mem_whenDue, true_and]
    next h => simp only [h, List.not_mem_nil, false_and]
  unfold dueBlind
  dsimp only
  simp only [List.mem_append, or_assoc]
  simp only [mem_whenDue, mem_whenTrue, Bool.and_eq_true, Option.isNone_iff_eq_none, decide_eq_true_eq,
    Bool.not_eq_true', not_isMoving_iff, and_assoc] at reversing ⊢
  rw [← reversing]
  rfl

theorem exists_mem_allSegs {P : Seg → Prop} : (∃ i ∈ allSegs, P i) ↔ ∃ i, P i :=
  ⟨fun ⟨i, _, h⟩ => ⟨i, h⟩, fun ⟨i, h⟩ => ⟨i, by fin_cases i <;> decide, h⟩⟩

theorem exists_mem_allParts {P : Part → Prop} : (∃ p ∈ allParts, P p) ↔ ∃ p, P p :=
  ⟨fun ⟨p, _, h⟩ => ⟨p, h⟩, fun ⟨p, h⟩ => ⟨p, by fin_cases p <;> decide, h⟩⟩

theorem State.mem_due {s : State} {c : Instr} : c ∈ s.due ↔
    ((s.tb.valid = true ∧ s.tb.rolloverDue = true) ∧ c = .minuteEvent) ∨
    (s.al.loopTimer = some 0 ∧ c = .loopTimerExpiry) ∨
    ((∃ l, s.load = some l ∧ l.idle = 0) ∧ c = .loadIdleTimeout) ∨
    (s.ad.age = some 0 ∧ c = .grantAgeExpiry) ∨
    (∃ p, c ∈ duePart s p) ∨ c ∈ dueWindow s ∨ (∃ i, c ∈ dueSensors s i) ∨ (∃ i, c ∈ dueVacancy s i) ∨
    ∃ i, c ∈ dueBlind s i := by
  unfold State.due
  simp only [List.mem_append, List.mem_flatMap, exists_mem_allSegs, exists_mem_allParts, mem_whenTrue, mem_whenDue,
    Bool.and_eq_true, Option.map_eq_some_iff, or_assoc]

/-! ### The tick -/

theorem step_tick {s : State} (hp : s.pending = []) (hr : s.reports = []) (hd : s.due = []) (ha : s.alive = true) :
    step s = .next s.ticked := by
  simp only [step, hp, State.nextInternal, State.tick, ha, if_true, hr, hd]
  rfl

theorem tickClock_eq (t : Tb) : tickClock t =
    if t.valid = false then t
    else if t.ticks < 19 then { t with ticks := t.ticks + 1 }
    else if t.seconds < 59 then { t with ticks := 0, seconds := t.seconds + 1 }
    else { t with ticks := 0, rolloverDue := true } := by
  unfold tickClock
  rw [show Config.ticksPerSecond = 20 from rfl]
  cases t.valid with
  | false => rfl
  | true =>
    have full : (t.ticks + 1 < 20) = (t.ticks < 19) := propext ⟨fun _ => by omega, fun _ => by omega⟩
    simp only [Bool.not_true, Bool.false_eq_true, if_false, full, reduceCtorEq]

/-- The minute event is the first of those that fall due together. -/
theorem State.due_head_minute {s : State} (hv : s.tb.valid = true) (hd : s.tb.rolloverDue = true) :
    s.due.head? = some .minuteEvent := by
  unfold State.due whenTrue
  rw [hv, hd]
  rfl

theorem tenthSteps_eq (s : State) (i : Seg) : tenthSteps s i =
    (if (s.lbu.segs.get i).window.fade.isSome = true then [.fadeStep i .window] else []) ++
      (if (s.lbu.segs.get i).inner.fade.isSome = true then [.fadeStep i .inner] else []) ++
      if (s.lbu.segs.get i).blind.motion = .movingUp ∨ (s.lbu.segs.get i).blind.motion = .movingDown
        then [.blindStep i] else [] := by
  unfold tenthSteps whenTrue
  simp only [isMoving_eq]

theorem tickBlind_rest (tenth : Bool) (b : Blind) : (tickBlind tenth b).rest =
    if tenth = true ∧ b.driveUp = none ∧ ¬(b.motion = .movingUp ∨ b.motion = .movingDown) then b.rest + 1
    else b.rest := by
  unfold tickBlind
  simp only [Bool.and_eq_true, Bool.not_eq_true', not_isMoving_iff, Option.isNone_iff_eq_none, and_assoc]

theorem tickSensors_get (v : SegSensors) (k : SensorKind) : getSensor (tickSensors v) k = tickSensor (getSensor v k) := by
  cases k <;> rfl

/-- Settles O3: the tick's fields one by one, and what is due by the lists that State.due joins. -/
theorem tickCountsClockAndTimers : Obligations.TickCountsClockAndTimers := by
  refine ⟨fun s hp hr hd ha => ?_, fun s c => ?_⟩
  · intro less steps
    refine ⟨_, step_tick hp hr hd ha, tickClock_eq s.tb, State.due_head_minute, ?_, fun p => ?_, fun i k => ?_,
      fun i => ⟨fun h => ?_, fun n h => ?_⟩, fun i => Four.get_mapIdx _ _ i, fun i => ?_⟩
    · have queued : (if s.tenth then s.reports ++ allSegs.flatMap (tenthSteps s) else s.reports) =
          if s.tenth = true then [0, 1, 2, 3].flatMap steps else [] := by
        rw [hr, funext (tenthSteps_eq s)]
        rfl
      rw [← queued]
      rfl
    · fin_cases p <;> rfl
    · show getSensor (Four.get (s.si.sensors.mapIdx fun _ v => tickSensors v) i) k = _
      rw [Four.get_mapIdx, tickSensors_get]
      rfl
    · show Four.get (s.si.polls.mapIdx fun _ p => tickPoll p) i = _
      rw [Four.get_mapIdx, tickPoll, h]
    · show Four.get (s.si.polls.mapIdx fun _ p => tickPoll p) i = _
      rw [Four.get_mapIdx, tickPoll, h]
      rfl
    · show Four.get (s.lbu.segs.mapIdx fun i l => tickLbuSeg (s.tenth && s.configured i) l) i = _
      rw [Four.get_mapIdx, tickLbuSeg]
      have rest := tickBlind_rest (s.tenth && s.configured i) (s.lbu.segs.get i).blind
      simp only [Bool.and_eq_true, and_assoc] at rest
      rw [← rest]
      rfl
  · rw [State.mem_due]
    simp only [mem_duePart, mem_dueWindow, mem_dueSensors, mem_dueVacancy, mem_dueBlind]
    cases c with
    | minuteEvent | loopTimerExpiry | loadIdleTimeout | grantAgeExpiry | settleTimerExpiry p | betweenTimerExpiry p
    | answerWindowExpiry i | staleTimerExpiry i k | sensorPoll i | vacancyTimerExpiry i | glareOnExpiry i
    | glareOffExpiry i | driveUpEnd i | reversingEnd i | budgetCharge i | budgetRefill i => simp [and_assoc]
    | _ => simp

end Sys2Proof.Machine

/-! LM's groups (R75), the governing entry (R78, R79) and the shares of a headcount (R83). -/

namespace Sys2Proof.Machine

/-! ### Groups (R75) -/

theorem segHas_iff {g : Segs} {i : Nat} : segHas g i = true ↔ g.first ≤ i ∧ i < g.first + g.span := by
  unfold segHas
  rw [Bool.and_eq_true, decide_eq_true_eq, decide_eq_true_eq]

/-- The runs tile what lies from their first segment on. -/
theorem groupsFrom_count (bs : List Bool) (first i : Nat) {span : Nat} (h : 1 ≤ span) :
    ((groupsFrom first span bs).filter fun g => segHas g i).length =
      if first ≤ i ∧ i < first + span + bs.length then 1 else 0 := by
  induction bs generalizing first span with
  | nil =>
    rw [groupsFrom, List.filter_cons, List.filter_nil, List.length_nil]
    by_cases hi : segHas ⟨first, span⟩ i = true
    · rw [if_pos hi, if_pos (by have := segHas_iff.1 hi; simpa using this), List.length_singleton]
    · rw [if_neg hi, if_neg (by rw [segHas_iff] at hi; simpa using hi), List.length_nil]
  | cons b bs ih =>
    cases b with
    | true =>
      rw [groupsFrom, ih first (span := span + 1) (by omega), List.length_cons,
        show first + (span + 1) + bs.length = first + span + (bs.length + 1) by omega]
    | false =>
      rw [groupsFrom, List.filter_cons, List.length_cons]
      have rest := ih (first + span) (span := 1) (by omega)
      by_cases hi : segHas ⟨first, span⟩ i = true
      · have inside := segHas_iff.1 hi
        rw [if_pos hi, List.length_cons, rest, if_neg (by simp only at inside; omega),
          if_pos (by simp only at inside; omega)]
      · rw [if_neg hi, rest]
        rw [segHas_iff] at hi
        by_cases behind : first + span ≤ i ∧ i < first + span + 1 + bs.length
        · rw [if_pos behind, if_pos (by omega)]
        · rw [if_neg behind, if_neg (by simp only at hi; omega)]

theorem groupsFrom_within (bs : List Bool) (first : Nat) {span : Nat} (h : 1 ≤ span) :
    ∀ g ∈ groupsFrom first span bs, 1 ≤ g.span ∧ first ≤ g.first ∧ g.first + g.span ≤ first + span + bs.length := by
  induction bs generalizing first span with
  | nil =>
    intro g hg
    obtain rfl := List.mem_singleton.1 hg
    exact ⟨h, Nat.le_refl _, Nat.le_refl _⟩
  | cons b bs ih =>
    intro g hg
    rw [List.length_cons]
    cases b with
    | true =>
      obtain ⟨span', low, high⟩ := ih first (span := span + 1) (by omega) g hg
      exact ⟨span', low, by omega⟩
    | false =>
      obtain rfl | hg := List.mem_cons.1 hg
      · exact ⟨h, Nat.le_refl _, by simp only; omega⟩
      · obtain ⟨span', low, high⟩ := ih (first + span) (span := 1) (by omega) g hg
        exact ⟨span', by omega, by omega⟩

/-- The first run reaches at least as far as it has come. -/
theorem groupsFrom_first (bs : List Bool) (first span : Nat) :
    ∃ g ∈ groupsFrom first span bs, g.first = first ∧ span ≤ g.span := by
  induction bs generalizing span with
  | nil => exact ⟨_, List.mem_singleton.2 rfl, rfl, Nat.le_refl _⟩
  | cons b bs ih =>
    cases b with
    | true =>
      obtain ⟨g, hg, first', span'⟩ := ih (span + 1)
      exact ⟨g, hg, first', by omega⟩
    | false => exact ⟨_, List.mem_cons_self, rfl, Nat.le_refl _⟩

/-- Two neighbours behind the first span share a run exactly where the partition between them joins. -/
theorem groupsFrom_joined (bs : List Bool) (first : Nat) {span : Nat} (h : 1 ≤ span) (k : Nat) (hk : k < bs.length) :
    (∃ g ∈ groupsFrom first span bs, segHas g (first + span - 1 + k) = true ∧ segHas g (first + span + k) = true) ↔
      bs[k] = true := by
  induction bs generalizing first span k with
  | nil => exact absurd hk (Nat.not_lt_zero k)
  | cons b bs ih =>
    rw [List.length_cons] at hk
    cases b with
    | true =>
      cases k with
      | zero =>
        obtain ⟨g, hg, first', span'⟩ := groupsFrom_first bs first (span + 1)
        exact ⟨fun _ => rfl, fun _ => ⟨g, hg, segHas_iff.2 (by omega), segHas_iff.2 (by omega)⟩⟩
      | succ k =>
        have rest := ih first (span := span + 1) (by omega) k (by omega)
        rw [show first + (span + 1) - 1 + k = first + span - 1 + (k + 1) by omega,
          show first + (span + 1) + k = first + span + (k + 1) by omega] at rest
        exact rest
    | false =>
      have head (i : Nat) (hi : segHas ⟨first, span⟩ i = true) : i < first + span := (segHas_iff.1 hi).2
      cases k with
      | zero =>
        refine ⟨fun ⟨g, hg, low, high⟩ => ?_, fun h => Bool.noConfusion h⟩
        obtain rfl | hg := List.mem_cons.1 hg
        · have := head _ high
          omega
        · have := (groupsFrom_within bs (first + span) (span := 1) (by omega) g hg).2.1
          have := (segHas_iff.1 low).1
          omega
      | succ k =>
        have rest := ih (first + span) (span := 1) (by omega) k (by omega)
        rw [show first + span + 1 - 1 + k = first + span - 1 + (k + 1) by omega,
          show first + span + 1 + k = first + span + (k + 1) by omega] at rest
        rw [List.getElem_cons_succ, ← rest]
        refine ⟨fun ⟨g, hg, low, high⟩ => ⟨g, ?_, low, high⟩, fun ⟨g, hg, both⟩ => ⟨g, List.mem_cons_of_mem _ hg, both⟩⟩
        obtain rfl | hg := List.mem_cons.1 hg
        · have := head _ high
          omega
        · exact hg

/-- The configured partitions in a suite of its permitted size. -/
theorem State.configuredParts {s : State} (low : 1 ≤ s.segCount) (high : s.segCount ≤ 4) :
    (allParts.filter s.partConfigured).length = s.segCount - 1 ∧
      ∀ (k : Nat) (hk : k < (allParts.filter s.partConfigured).length),
        ((allParts.filter s.partConfigured)[k]).val = k := by
  have configured : s.partConfigured = fun p => decide (p.val + 1 < s.segCount) := rfl
  rw [configured]
  obtain h | h | h | h : s.segCount = 1 ∨ s.segCount = 2 ∨ s.segCount = 3 ∨ s.segCount = 4 := by omega
  all_goals
    rw [h]
    decide

theorem State.formGroups_count {s : State} (low : 1 ≤ s.segCount) (high : s.segCount ≤ 4) {i : Nat}
    (hi : i < s.segCount) : (s.formGroups.filter fun g => segHas g i).length = 1 := by
  unfold State.formGroups
  rw [groupsFrom_count _ 0 i (Nat.le_refl 1), List.length_map, (State.configuredParts low high).1,
    if_pos ⟨Nat.zero_le _, by omega⟩]

theorem State.formGroups_within {s : State} (low : 1 ≤ s.segCount) (high : s.segCount ≤ 4) :
    ∀ g ∈ s.formGroups, 1 ≤ g.span ∧ g.first + g.span ≤ s.segCount := by
  intro g hg
  obtain ⟨span, -, last⟩ := groupsFrom_within _ 0 (Nat.le_refl 1) g hg
  rw [List.length_map, (State.configuredParts low high).1] at last
  exact ⟨span, by omega⟩

/-- Settles O46: the runs tile the suite and join at the open partitions. -/
theorem groupsAreTheOpenRuns : Obligations.GroupsAreTheOpenRuns := by
  intro s low high
  obtain ⟨count, nth⟩ := State.configuredParts low high
  refine ⟨fun i hi => State.formGroups_count low high (of_decide_eq_true hi), State.formGroups_within low high,
    fun p hp => ?_⟩
  have hp' : p.val < (allParts.filter s.partConfigured).length := by
    have : p.val + 1 < s.segCount := of_decide_eq_true hp
    omega
  have joined := groupsFrom_joined ((allParts.filter s.partConfigured).map fun p =>
    (s.lm.parts.get p).accepted == .opened) 0 (Nat.le_refl 1) p.val (by rw [List.length_map]; exact hp')
  have here : (allParts.filter s.partConfigured)[p.val] = p := Fin.ext (nth p.val hp')
  rw [List.getElem_map, here, beq_iff_eq, show 0 + 1 - 1 + p.val = p.val by omega,
    show 0 + 1 + p.val = p.val + 1 by omega] at joined
  exact joined

/-! ### The governing entry (R78, R79) -/

/-- The walk to the lowest first segment ends at the first entry of it. -/
theorem foldl_lowerFirst {es : List Entry} {b e : Entry} (h : es.foldl lowerFirst (some b) = some e) :
    e.fix.first ≤ b.fix.first ∧ (∀ x ∈ es, e.fix.first ≤ x.fix.first) ∧
      (b :: es).find? (fun x => x.fix.first == e.fix.first) = some e := by
  induction es generalizing b with
  | nil =>
    obtain rfl := Option.some.inj h
    exact ⟨Nat.le_refl _, by simp, by simp⟩
  | cons x es ih =>
    rw [List.foldl_cons] at h
    by_cases lower : x.fix.first < b.fix.first
    · rw [show lowerFirst (some b) x = some x from if_pos lower] at h
      obtain ⟨hx, all, first⟩ := ih h
      refine ⟨by omega, List.forall_mem_cons.2 ⟨hx, all⟩, ?_⟩
      rw [List.find?_cons_of_neg (by rw [beq_iff_eq]; omega)]
      exact first
    · rw [show lowerFirst (some b) x = some b from if_neg lower] at h
      obtain ⟨hb, all, first⟩ := ih h
      refine ⟨hb, List.forall_mem_cons.2 ⟨by omega, all⟩, ?_⟩
      by_cases same : b.fix.first = e.fix.first
      · rw [List.find?_cons_of_pos (by rw [beq_iff_eq]; exact same)] at first ⊢
        exact first
      · rw [List.find?_cons_of_neg (by rw [beq_iff_eq]; exact same)] at first
        rw [List.find?_cons_of_neg (by rw [beq_iff_eq]; exact same),
          List.find?_cons_of_neg (by rw [beq_iff_eq]; omega)]
        exact first

theorem lowestFirst_some {es : List Entry} {e : Entry} (h : lowestFirst es = some e) :
    (∀ x ∈ es, e.fix.first ≤ x.fix.first) ∧ es.find? (fun x => x.fix.first == e.fix.first) = some e := by
  cases es with
  | nil => cases h
  | cons b es =>
    obtain ⟨hb, all, first⟩ := foldl_lowerFirst (lowestFirst_eq (b :: es) ▸ h)
    exact ⟨List.forall_mem_cons.2 ⟨hb, all⟩, first⟩

theorem lowestFirst_none {es : List Entry} : lowestFirst es = none ↔ es = [] := by
  cases es with
  | nil => exact ⟨fun _ => rfl, fun _ => rfl⟩
  | cons b es =>
    have stays (l : List Entry) (b : Entry) : l.foldl lowerFirst (some b) ≠ none := by
      induction l generalizing b with
      | nil => exact Option.some_ne_none b
      | cons x l ih =>
        rw [List.foldl_cons]
        unfold lowerFirst
        dsimp only
        split
        · exact ih x
        · exact ih b
    exact ⟨fun h => absurd (lowestFirst_eq (b :: es) ▸ h) (stays es b), fun h => by cases h⟩

theorem mem_candidates {table : List Entry} {g : Segs} {p : Entry → Bool} {x : Entry} :
    x ∈ (candidatesOf table g).filter p ↔ x ∈ table ∧ segsMeet (entrySegs x) g = true ∧ p x = true := by
  unfold candidatesOf
  rw [List.mem_filter, List.mem_filter, and_assoc]

/-- The governing entry is the lowest of its class: an active one, or a prepared one where none is active. -/
theorem governingOf_some {table : List Entry} {g : Segs} {e : Entry} (h : governingOf table g = some e) :
    (isActive e = true ∧ lowestFirst ((candidatesOf table g).filter isActive) = some e) ∨
      ((candidatesOf table g).filter isActive = [] ∧ isPrepared e = true ∧
        lowestFirst ((candidatesOf table g).filter isPrepared) = some e) := by
  unfold governingOf at h
  split at h
  next x hx =>
    obtain rfl := Option.some.inj h
    exact .inl ⟨(mem_candidates.1 (lowestFirst_mem hx)).2.2, hx⟩
  next hx => exact .inr ⟨lowestFirst_none.1 hx, (mem_candidates.1 (lowestFirst_mem h)).2.2, h⟩

theorem governingOf_none {table : List Entry} {g : Segs} : governingOf table g = none ↔
    (candidatesOf table g).filter isActive = [] ∧ (candidatesOf table g).filter isPrepared = [] := by
  rw [← lowestFirst_none, ← lowestFirst_none]
  unfold governingOf
  split
  next x hx => simp [hx]
  next hx => simp [hx]

theorem not_active_of_prepared {e : Entry} (h : isPrepared e = true) : isActive e = false := by
  unfold isPrepared at h
  unfold isActive
  cases hs : e.vol.state <;> rw [hs] at h <;> first | rfl | cases h

/-- Settles O47: the walk of lowestFirst over the entries of each class. -/
theorem governingEntryIsTheLowestOfItsClass : Obligations.GoverningEntryIsTheLowestOfItsClass := by
  intro table g
  have none_of {p : Entry → Bool} (h : (candidatesOf table g).filter p = []) (x : Entry) (hx : x ∈ table)
      (meets : segsMeet (entrySegs x) g = true) : p x = false := by
    cases hp : p x with
    | false => rfl
    | true => exact absurd (mem_candidates.2 ⟨hx, meets, hp⟩) (by rw [h]; exact List.not_mem_nil)
  refine ⟨?_, fun e he => ?_, fun e he prepared sorted => ?_, ?_⟩
  · rw [governingOf_none]
    refine ⟨fun ⟨a, p⟩ x hx meets => ⟨none_of a x hx meets, none_of p x hx meets⟩, fun h => ⟨?_, ?_⟩⟩
    all_goals
      refine List.eq_nil_iff_forall_not_mem.2 fun x hx => ?_
      obtain ⟨mem, meets, class_⟩ := mem_candidates.1 hx
      obtain ⟨active, prepared⟩ := h x mem meets
      simp_all
  · obtain ⟨active, low⟩ | ⟨empty, prepared, low⟩ := governingOf_some he
    · obtain ⟨mem, meets, -⟩ := mem_candidates.1 (lowestFirst_mem low)
      exact ⟨mem, meets, .inl active, fun x hx hm same _ =>
        (lowestFirst_some low).1 x (mem_candidates.2 ⟨hx, hm, same.trans active⟩)⟩
    · obtain ⟨mem, meets, -⟩ := mem_candidates.1 (lowestFirst_mem low)
      refine ⟨mem, meets, .inr ⟨prepared, none_of empty⟩, fun x hx hm same class_ => ?_⟩
      have idle := none_of empty x hx hm
      exact (lowestFirst_some low).1 x (mem_candidates.2 ⟨hx, hm, class_.resolve_left (by rw [idle]; decide)⟩)
  · intro ties
    obtain ⟨active, -⟩ | ⟨-, -, low⟩ := governingOf_some he
    · rw [not_active_of_prepared prepared] at active
      cases active
    · have first := (lowestFirst_some low).2
      rw [candidatesOf, List.filter_filter, List.find?_filter] at first
      have found : table.find? ties = some e := by
        rw [← first]
        congr 1
        funext x
        simp only [ties, Bool.decide_and, Bool.decide_eq_true]
        rw [Bool.and_comm (isPrepared x)]
      refine ⟨fun x hx tie => ?_, found⟩
      obtain ⟨-, before, after, rfl, none'⟩ := List.find?_eq_some_iff_append.1 found
      obtain hx | hx := List.mem_append.1 hx
      · have := none' x hx
        rw [tie] at this
        cases this
      · obtain rfl | hx := List.mem_cons.1 hx
        · exact Nat.le_refl _
        · exact List.rel_of_pairwise_cons (List.pairwise_append.1 sorted).2.1 hx
  · cases governingOf table g <;> rfl

/-! ### Shares (R83) -/

/-- The basis of the split: the seats, or the areas where the seats of the entry's segments sum to 0 (R83). -/
def shareBasis (c : Commission) (set : Segs) (i : Seg) : Nat :=
  if sumSegs set (fun i => (c.segments.get i).seats) = 0 then (c.segments.get i).area else (c.segments.get i).seats

/-- The floor of a group's part. -/
def shareFloor (c : Commission) (e : Entry) (g : Segs) : Nat :=
  splitHeadcount e * basisIn (shareBasis c (entrySegs e)) (entrySegs e) g / sumSegs (entrySegs e) (shareBasis c (entrySegs e))

theorem shareOf_eq (c : Commission) (groups : List Segs) (e : Entry) (g : Segs) : shareOf c groups e g =
    if sumSegs (entrySegs e) (shareBasis c (entrySegs e)) = 0 then
      if segHas g e.fix.first = true then splitHeadcount e else 0
    else if segHas g e.fix.first = true then
      shareFloor c e g + (splitHeadcount e - (groups.map (shareFloor c e)).sum)
    else shareFloor c e g := by
  have basis : (if sumSegs (entrySegs e) (fun i => (c.segments.get i).seats) = 0
      then fun i => (c.segments.get i).area else fun i => (c.segments.get i).seats) = shareBasis c (entrySegs e) := by
    funext i
    unfold shareBasis
    split <;> rfl
  unfold shareOf
  dsimp only
  rw [basis]
  rfl

/-- The parts that groups have of an entry's segments come to each segment once for every group that holds it. -/
theorem sum_basisIn (basis : Seg → Nat) (set : Segs) (groups : List Segs) :
    (groups.map (basisIn basis set)).sum =
      ((segList set).map fun (i : Seg) => basis i * (groups.filter fun g => segHas g i).length).sum := by
  induction groups with
  | nil => simp
  | cons g groups ih =>
    have part : basisIn basis set g = ((segList set).map fun (i : Seg) => if segHas g i = true then basis i else 0).sum := by
      unfold basisIn segList
      rw [List.filter_filter]
      generalize allSegs = l
      induction l with
      | nil => rfl
      | cons i l ih =>
        rw [List.filter_cons, List.filter_cons]
        cases segHas set i <;> cases hg : segHas g i <;> simp [hg, ih]
    rw [List.map_cons, List.sum_cons, ih, part, ← List.sum_map_add]
    congr 2
    funext i
    rw [List.filter_cons]
    split
    · rw [List.length_cons, Nat.mul_add, Nat.mul_one, Nat.add_comm]
    · rw [Nat.zero_add]

/-- Floors of parts of a whole come to no more than the whole. -/
theorem floors_of_parts_le (head total : Nat) (parts : List Nat) (h : parts.sum ≤ total) :
    (parts.map fun b => head * b / total).sum ≤ head := by
  have scaled (parts : List Nat) : (parts.map fun b => head * b / total).sum ≤ head * parts.sum / total := by
    induction parts with
    | nil => exact Nat.zero_le _
    | cons b parts ih =>
      rw [List.map_cons, List.sum_cons, List.sum_cons, Nat.mul_add]
      exact (Nat.add_le_add_left ih _).trans (Nat.div_add_div_le_add_div)
  refine (scaled parts).trans ?_
  rcases Nat.eq_zero_or_pos total with zero | pos
  · simp [zero]
  · exact Nat.div_le_of_le_mul (by rw [Nat.mul_comm total]; exact Nat.mul_le_mul_left head h)

/-- A list of figures of which one alone has something added. -/
theorem sum_with_home (f : Segs → Nat) (home : Segs → Bool) (extra : Nat) (groups : List Segs) :
    (groups.map fun g => if home g = true then f g + extra else f g).sum =
      (groups.map f).sum + (groups.filter home).length * extra := by
  induction groups with
  | nil => simp
  | cons g groups ih =>
    rw [List.map_cons, List.sum_cons, List.map_cons, List.sum_cons, ih, List.filter_cons]
    split
    · rw [List.length_cons, Nat.add_mul]
      omega
    · omega

/-- Settles O48: each segment of the entry lies in one group, so the floors come to at most the headcount, and the
group of the first segment has what is missing. -/
theorem sharesSumToTheHeadcount : Obligations.SharesSumToTheHeadcount := by
  refine ⟨fun c groups e g => ?_, fun s e low high span fits => ?_⟩
  · intro head own seats basis all part home
    have total : sumSegs (entrySegs e) (shareBasis c (entrySegs e)) = all := rfl
    have headcount : splitHeadcount e = head := by
      unfold splitHeadcount
      cases h : e.vol.panelHeadcount <;> simp [head, h]
    have floor (x : Segs) : shareFloor c e x = part x := by
      have parts : basisIn (shareBasis c (entrySegs e)) (entrySegs e) x =
          ((own.filter fun i => x.first ≤ i.val && i.val < x.first + x.span).map basis).sum := by
        show (((segList x).filter fun (i : Seg) => segHas (entrySegs e) i).map basis).sum =
          (((segList (entrySegs e)).filter fun (i : Seg) => segHas x i).map basis).sum
        unfold segList
        rw [List.filter_filter, List.filter_filter]
        exact congrArg (fun l : List Seg => (l.map basis).sum) (List.filter_congr fun i _ => Bool.and_comm _ _)
      unfold shareFloor
      rw [parts, headcount]
      rfl
    have holds : segHas g e.fix.first = true ↔ home := segHas_iff
    have share := shareOf_eq c groups e g
    rw [total, headcount, floor, show shareFloor c e = part from funext floor] at share
    refine ⟨fun some' here => ?_, fun some' away => ?_, fun none' here => ?_, fun none' away => ?_⟩
    · rw [share, if_neg (Nat.pos_iff_ne_zero.1 some'), if_pos (holds.2 here)]
    · rw [share, if_neg (Nat.pos_iff_ne_zero.1 some'), if_neg (mt holds.1 away)]
    · rw [share, if_pos none', if_pos (holds.2 here)]
    · rw [share, if_pos none', if_neg (mt holds.1 away)]
  · have once : (s.formGroups.filter fun g => segHas g e.fix.first).length = 1 :=
      State.formGroups_count low high (by omega)
    show _ = splitHeadcount e
    simp only [shareOf_eq]
    split
    · have home := sum_with_home (fun _ => 0) (fun g => segHas g e.fix.first) (splitHeadcount e) s.formGroups
      rw [once, Nat.one_mul] at home
      simpa using home
    · rw [sum_with_home, once, Nat.one_mul]
      have parts : (s.formGroups.map (basisIn (shareBasis s.comm (entrySegs e)) (entrySegs e))).sum ≤
          sumSegs (entrySegs e) (shareBasis s.comm (entrySegs e)) := by
        rw [sum_basisIn]
        unfold sumSegs
        refine List.sum_le_sum fun i hi => ?_
        have inside := segHas_iff.1 (mem_segList.1 hi)
        rw [State.formGroups_count low high (show i.val < s.segCount by
          have : i.val < e.fix.first + e.fix.span := inside.2
          omega), Nat.mul_one]
      have floors := floors_of_parts_le (splitHeadcount e) _ _ parts
      rw [List.map_map] at floors
      exact Nat.add_sub_cancel' floors

end Sys2Proof.Machine

/-! SI's sensors: polls, missing answers, stale timers, the samples of an answer and the substitution map. -/

namespace Sys2Proof.Machine

/-! ### One sensor's record -/

theorem State.sensor_setSensor (s : State) (i : Seg) (k : SensorKind) (r : Sensor) :
    (s.setSensor i k r).sensor i k = r := by
  unfold State.sensor State.setSensor
  rw [Four.get_set_same]
  cases k <;> rfl

theorem State.sensor_setSensor_kind (s : State) (i : Seg) {k m : SensorKind} (h : m ≠ k) (r : Sensor) :
    (s.setSensor i k r).sensor i m = s.sensor i m := by
  unfold State.sensor State.setSensor
  rw [Four.get_set_same]
  cases k <;> cases m <;> first | rfl | exact absurd rfl h

theorem State.sensors_setSensor_other (s : State) {i j : Seg} (h : j ≠ i) (k : SensorKind) (r : Sensor) :
    (s.setSensor i k r).si.sensors.get j = s.si.sensors.get j := Four.get_set_other _ _ h

theorem State.setSensor_self (s : State) (i : Seg) (k : SensorKind) : s.setSensor i k (s.sensor i k) = s := by
  have put : putSensor (s.si.sensors.get i) k (s.sensor i k) = s.si.sensors.get i := by
    unfold State.sensor
    cases k <;> rfl
  unfold State.setSensor
  rw [put, Four.set_get]

/-! ### The substitution map (R96) -/

/-- The map as R96 forms it reads the configuration, LM's groups and which sensors are OK. -/
theorem State.sourceBy_congr {s t : State} (hc : t.cs = s.cs) (hg : t.lm.groups = s.lm.groups) {k : SensorKind}
    (hok : ∀ j, t.sensorOk j k = s.sensorOk j k) (named : List Segs) (i : Seg) :
    t.sourceBy named k i = s.sourceBy named k i := by
  have ok : (fun j => t.sensorOk j k) = fun j => s.sensorOk j k := funext hok
  unfold State.sourceBy State.groupOf?
  rw [configured_congr hc, hg, ok, hok]

theorem State.remapNamed_mapped (s : State) (named : List Segs) : (s.remapNamed named).Mapped named := by
  intro i
  have presence : (s.remapNamed named).si.presenceSource.get i = s.sourceOf named .presence i := Four.get_mapIdx _ _ i
  have daylight : (s.remapNamed named).si.daylightSource.get i = s.sourceOf named .daylight i := Four.get_mapIdx _ _ i
  rw [presence, daylight, State.sourceOf_eq, State.sourceOf_eq]
  exact ⟨rfl, rfl⟩

theorem State.remapNamed_reports (s : State) (named : List Segs) :
    (s.remapNamed named).reports = s.reports ++ sourceReports s (s.remapNamed named) := by
  have changed (f : Seg → Bool) : s.configuredSegs.filter f = allSegs.filter fun j => s.configured j && f j := by
    unfold State.configuredSegs
    rw [List.filter_filter]
    exact List.filter_congr fun j _ => Bool.and_comm _ _
  unfold sourceReports
  rw [← changed, ← changed, ← List.append_assoc]
  rfl

/-- Maps that have not moved are followed by no report. -/
theorem sourceReports_still {s t : State} (hp : t.si.presenceSource = s.si.presenceSource)
    (hd : t.si.daylightSource = s.si.daylightSource) : sourceReports s t = [] := by
  unfold sourceReports
  simp [hp, hd]

theorem sourceReports_congr {s s' t t' : State} (hc : s'.cs = s.cs)
    (hp : s'.si.presenceSource = s.si.presenceSource) (hd : s'.si.daylightSource = s.si.daylightSource)
    (hp' : t'.si.presenceSource = t.si.presenceSource) (hd' : t'.si.daylightSource = t.si.daylightSource) :
    sourceReports s' t' = sourceReports s t := by
  unfold sourceReports
  rw [hp, hd, hp', hd', State.configured_congr hc]

theorem State.Mapped.congr {t u : State} {named : List Segs} (h : t.Mapped named) (hc : u.cs = t.cs)
    (hg : u.lm.groups = t.lm.groups) (hp : u.si.presenceSource = t.si.presenceSource)
    (hd : u.si.daylightSource = t.si.daylightSource)
    (hok : ∀ j, u.sensorOk j .presence = t.sensorOk j .presence ∧ u.sensorOk j .daylight = t.sensorOk j .daylight) :
    u.Mapped named := by
  intro i
  rw [hp, hd, State.sourceBy_congr hc hg (fun j => (hok j).1), State.sourceBy_congr hc hg (fun j => (hok j).2)]
  exact h i

/-! ### Sensor timers (R89, R92, R93) -/

theorem State.takeMissing_eq (s : State) (i : Seg) (k : SensorKind) : s.takeMissing i k =
    s.setSensor i k (if (s.sensor i k).health = .ok then s.sensor i k else { s.sensor i k with run := 0 }) := by
  unfold State.takeMissing
  dsimp only
  cases h : (s.sensor i k).health with
  | ok => exact (s.setSensor_self i k).symm
  | stale | fault => rfl

/-- Each of a segment's four sensors treated in turn. -/
theorem State.foldl_setSensor (s : State) (i : Seg) (f : SensorKind → Sensor → Sensor) :
    let t := sensorKinds.foldl (fun s k => s.setSensor i k (f k (s.sensor i k))) s
    (∀ k, t.sensor i k = f k (s.sensor i k)) ∧ (∀ j, j ≠ i → t.si.sensors.get j = s.si.sensors.get j) ∧
      t = { s with si := { s.si with sensors := t.si.sensors } } := by
  refine ⟨fun k => ?_, fun j h => ?_, rfl⟩
  · unfold sensorKinds
    simp only [List.foldl_cons, List.foldl_nil]
    cases k <;> simp [State.sensor_setSensor, State.sensor_setSensor_kind]
  · unfold sensorKinds
    simp only [List.foldl_cons, List.foldl_nil, State.sensors_setSensor_other _ h]

/-- What a stale timer's expiry makes of a sensor's record. -/
def staleSensor (r : Sensor) : Sensor :=
  match r.health with
  | .ok => { r with health := .stale, run := 0, stale := none, reported := true }
  | .stale => { r with stale := none, reported := true }
  | .fault => { r with stale := none }

/-- The notices of a stale timer's expiry. -/
def staleNotices (i : Seg) (k : SensorKind) (r : Sensor) : List Notice :=
  if r.health = .ok ∨ (r.health = .stale ∧ r.reported = false) then [.sensorFault i k .stale .timeout] else []

theorem State.staleExpiry_eq {s : State} {i : Seg} {k : SensorKind} (h : (s.sensor i k).stale.isSome = true) :
    s.staleExpiry i k =
      let r := staleSensor (s.sensor i k)
      let u := (s.setSensor i k r).notifyAll (staleNotices i k (s.sensor i k))
      if r.health ≠ (s.sensor i k).health then u.remap k else u := by
  unfold State.staleExpiry staleSensor staleNotices
  rw [if_neg (by rw [Option.isNone_iff_eq_none, ← Option.not_isSome_iff_eq_none, h]; decide)]
  dsimp only
  cases hh : (s.sensor i k).health with
  | ok => rfl
  | stale => cases (s.sensor i k).reported <;> simp <;> rfl
  | fault => simp; rfl

theorem State.remap_other {s : State} {k : SensorKind} (hp : k ≠ .presence) (hd : k ≠ .daylight) : s.remap k = s := by
  cases k with
  | presence => exact absurd rfl hp
  | daylight => exact absurd rfl hd
  | temperature | co2 => rfl

theorem State.remap_mapped {s : State} {k : SensorKind} (h : k = .presence ∨ k = .daylight) :
    s.remap k = s.remapNamed [] := by
  obtain rfl | rfl := h <;> rfl

/-! ### A sensor treated -/

/-- What an event makes of one sensor: its record, the notices, and the map where a presence or daylight sensor
changed its health. -/
structure State.Resensed (s t : State) (i : Seg) (k : SensorKind) (r : Sensor) (ns : List Notice) : Prop where
  sensor : t.sensor i k = r
  kind : ∀ m, m ≠ k → t.sensor i m = s.sensor i m
  other : ∀ j, j ≠ i → t.si.sensors.get j = s.si.sensors.get j
  nq : t.nq = (s.notifyAll ns).nq
  reports : t.reports = s.reports ++ sourceReports s t
  mapped : r.health ≠ (s.sensor i k).health → k = .presence ∨ k = .daylight → t.Mapped []
  still : r.health = (s.sensor i k).health ∨ (k ≠ .presence ∧ k ≠ .daylight) →
    t.si.presenceSource = s.si.presenceSource ∧ t.si.daylightSource = s.si.daylightSource
  frame : t = { s with
    si := { s.si with sensors := t.si.sensors, presenceSource := t.si.presenceSource
                      daylightSource := t.si.daylightSource }
    nq := t.nq, reports := t.reports }

theorem State.resensed (s : State) (i : Seg) (k : SensorKind) (r : Sensor) (ns : List Notice) :
    s.Resensed (if r.health ≠ (s.sensor i k).health then ((s.setSensor i k r).notifyAll ns).remap k
      else (s.setSensor i k r).notifyAll ns) i k r ns := by
  have noted : (s.setSensor i k r).notifyAll ns = { s.setSensor i k r with nq := (s.notifyAll ns).nq } := by
    rw [State.notifyAll_frame, State.notifyAll_nq (s := s) (u := s.setSensor i k r) rfl rfl]
  rw [noted]
  let v : State := { s.setSensor i k r with nq := (s.notifyAll ns).nq }
  have quiet (h : r.health = (s.sensor i k).health ∨ (k ≠ .presence ∧ k ≠ .daylight)) : s.Resensed v i k r ns :=
    { sensor := s.sensor_setSensor i k r
      kind := fun m h => s.sensor_setSensor_kind i h r
      other := fun j h => s.sensors_setSensor_other h k r
      nq := rfl
      reports := by
        rw [sourceReports_still (s := s) (t := v) rfl rfl]
        exact (List.append_nil _).symm
      mapped := fun moved kind => h.elim (fun same => absurd same moved) fun foreign =>
        kind.elim (fun e => absurd e foreign.1) fun e => absurd e foreign.2
      still := fun _ => ⟨rfl, rfl⟩
      frame := rfl }
  by_cases moved : r.health = (s.sensor i k).health
  · rw [if_neg (not_not.2 moved)]
    exact quiet (.inl moved)
  · rw [if_pos moved]
    by_cases kind : k = .presence ∨ k = .daylight
    · rw [State.remap_mapped kind]
      exact
        { sensor := s.sensor_setSensor i k r
          kind := fun m h => s.sensor_setSensor_kind i h r
          other := fun j h => s.sensors_setSensor_other h k r
          nq := rfl
          reports := (v.remapNamed_reports []).trans (congrArg (s.reports ++ ·)
            (sourceReports_congr (s := s) (s' := v) rfl rfl rfl rfl rfl))
          mapped := fun _ _ => v.remapNamed_mapped []
          still := fun h => absurd (h.resolve_left moved) fun foreign =>
            kind.elim (fun e => foreign.1 e) fun e => foreign.2 e
          frame := rfl }
    · rw [not_or] at kind
      rw [State.remap_other (s := v) kind.1 kind.2]
      exact quiet (.inr kind)

/-- Settles O52. -/
theorem sensorTimersFollowTheirTables : Obligations.SensorTimersFollowTheirTables := by
  intro s i ha ho poll timer
  have undriven {c : Instr} {act : State → State} {u : State} (hact : act (s.take c) = u) (hos : u.os = s.os)
      (hd : u.drive.os = s.drive.os) : Host.Outcome.next (s.event c act) =
        (.next u : Host.Outcome State Fault Refusal) := by
    rw [State.event_taken ha, hact, State.drive_eq_self ha ho hos hd]
  refine ⟨fun hc => ?_, fun hc => ?_, fun hw => ?_, fun hw => ?_, fun k => ⟨fun hs => ?_, fun hs => ?_⟩⟩
  · exact undriven (if_neg (by rw [show (s.take (.sensorPoll i)).configured i = false from hc]; decide)) rfl rfl
  · refine undriven ((if_pos (show (s.take (.sensorPoll i)).configured i = true from hc)).trans ?_) rfl rfl
    cases hout : s.si.outstanding.isNone with
    | true =>
      refine (if_pos (show (s.take (.sensorPoll i)).si.outstanding.isNone = true from hout)).trans ?_
      rfl
    | false =>
      refine (if_neg (by rw [show (s.take (.sensorPoll i)).si.outstanding.isNone = false from hout]; decide)).trans ?_
      rfl
  · exact undriven (if_neg (by rw [show (s.take (.answerWindowExpiry i)).awaits i = false from hw]; decide)) rfl rfl
  · let c := Instr.answerWindowExpiry i
    obtain ⟨sensor, other, frame⟩ := State.foldl_setSensor (s.take c).lineFree i fun _ r =>
      if r.health = .ok then r else { r with run := 0 }
    have missing : (fun (s : State) k => s.takeMissing i k) = fun s k =>
        s.setSensor i k (if (s.sensor i k).health = .ok then s.sensor i k else { s.sensor i k with run := 0 }) := by
      funext s k
      exact s.takeMissing_eq i k
    have act : (if (s.take c).awaits i then sensorKinds.foldl (fun s k => s.takeMissing i k) (s.take c).lineFree
        else s.take c) = sensorKinds.foldl (fun s k =>
        s.setSensor i k (if (s.sensor i k).health = .ok then s.sensor i k else { s.sensor i k with run := 0 }))
          (s.take c).lineFree := by
      rw [if_pos (show (s.take c).awaits i = true from hw), missing]
    generalize sensorKinds.foldl _ (s.take c).lineFree = t at sensor other frame act
    refine ⟨t, undriven act (by rw [frame]; rfl) (by rw [frame]; rfl), by rw [frame]; rfl, sensor, other, ?_⟩
    rw [frame]
    rfl
  · refine undriven (c := .staleTimerExpiry i k) (act := fun s => s.staleExpiry i k) ?_ rfl rfl
    exact if_pos (show ((s.take (.staleTimerExpiry i k)).sensor i k).stale.isNone = true by
      rw [show ((s.take (.staleTimerExpiry i k)).sensor i k).stale = none from hs]
      rfl)
  · let c := Instr.staleTimerExpiry i k
    have re : (s.take c).Resensed ((s.take c).staleExpiry i k) i k (staleSensor (s.sensor i k))
        (staleNotices i k (s.sensor i k)) := by
      rw [State.staleExpiry_eq (s := s.take c) hs]
      exact (s.take c).resensed i k _ _
    generalize act : (s.take c).staleExpiry i k = t at re
    have rest := re.frame
    have changes : (staleSensor (s.sensor i k)).health ≠ (s.sensor i k).health ↔ (s.sensor i k).health = .ok := by
      unfold staleSensor
      cases (s.sensor i k).health <;> simp
    refine ⟨t, undriven (act := fun s => s.staleExpiry i k) act (by rw [rest]; rfl) (by rw [rest]; rfl), re.sensor.trans rfl, ?_, fun j m h => ?_, ?_, ?_,
      by rw [rest]; rfl, by rw [rest]; rfl, ?_⟩
    · rw [re.nq, State.notifyAll_nq (s := s) (u := s.take c) rfl rfl]
      unfold staleNotices
      split <;> rfl
    · by_cases hj : j = i
      · subst hj
        exact re.kind m (h.resolve_left (not_not.2 rfl))
      · exact congrArg (getSensor · m) (re.other j hj)
    · split
      next h => exact re.mapped (changes.2 h.1) h.2
      next h =>
        refine re.still ?_
        by_cases ok : (s.sensor i k).health = .ok
        · exact .inr ⟨fun e => h ⟨ok, .inl e⟩, fun e => h ⟨ok, .inr e⟩⟩
        · exact .inl (not_not.1 (mt changes.1 ok))
    · exact re.reports
    · rw [rest]

/-! ### The samples of an answer (R90, R92, R95) -/

/-- What a sample makes of its sensor's record. -/
def sampledSensor (j : Judgement) (r : Sensor) : Sensor :=
  match j with
  | .valid v =>
    if r.health = .ok then { r with last := v, stale := some 2400 }
    else if 2 ≤ r.run then { r with last := v, stale := some 2400, health := .ok, run := 0, reported := false }
    else { r with last := v, stale := some 2400, run := r.run + 1 }
  | .faulty _ =>
    if r.health = .fault then { r with run := 0 } else { r with health := .fault, run := 0, reported := true }

/-- The notices of a sample. -/
def sampleNotices (i : Seg) (k : SensorKind) (j : Judgement) (r : Sensor) : List Notice :=
  match j with
  | .valid _ => if r.health ≠ .ok ∧ 2 ≤ r.run ∧ r.reported = true then [.sensorRecovered i k] else []
  | .faulty cause => if r.health = .ok ∨ (r.health = .stale ∧ r.reported = false)
    then [.sensorFault i k .fault cause] else []

theorem State.takeSample_resensed (s : State) (i : Seg) (a : Answer) (k : SensorKind) :
    s.Resensed (s.takeSample i a k) i k (sampledSensor (judgeSample a k) (s.sensor i k))
      (sampleNotices i k (judgeSample a k) (s.sensor i k)) := by
  have re := s.resensed i k (sampledSensor (judgeSample a k) (s.sensor i k))
    (sampleNotices i k (judgeSample a k) (s.sensor i k))
  suffices e : s.takeSample i a k = _ by
    rw [e]
    exact re
  unfold State.takeSample sampledSensor sampleNotices
  cases judgeSample a k with
  | valid v =>
    dsimp only
    unfold State.takeValid
    dsimp only
    cases hh : (s.sensor i k).health with
    | ok => simp only [if_true, ne_eq, not_true, false_and, if_false]; rfl
    | stale | fault =>
      by_cases run : 2 ≤ (s.sensor i k).run
      · have full : 3 ≤ (s.sensor i k).run + 1 := by omega
        cases hr : (s.sensor i k).reported <;> simp [run, full] <;> rfl
      · have short : ¬3 ≤ (s.sensor i k).run + 1 := by omega
        simp [run, short]
        rfl
  | faulty cause =>
    dsimp only
    unfold State.takeFaulty
    dsimp only
    cases hh : (s.sensor i k).health with
    | ok => simp; rfl
    | stale => cases hr : (s.sensor i k).reported <;> simp <;> rfl
    | fault => simp; rfl

/-! ### The answer (R92, R95) -/

/-- Where one sensor after another is treated, the notices follow one another. -/
theorem State.Resensed.nq_after {s t u : State} {i : Seg} {k : SensorKind} {r : Sensor} {ns before : List Notice}
    (h : t.Resensed u i k r ns) (ht : t.nq = (s.notifyAll before).nq) (htb : t.tb = s.tb) :
    u.nq = (s.notifyAll (before ++ ns)).nq := by
  rw [h.nq, State.notifyAll_append]
  exact State.notifyAll_nq ht (by rw [htb, State.notifyAll_frame]) ns

theorem State.Resensed.context {s t : State} {i : Seg} {k : SensorKind} {r : Sensor} {ns : List Notice}
    (h : s.Resensed t i k r ns) : t.tb = s.tb ∧ t.cs = s.cs ∧ t.lm = s.lm := by
  rw [h.frame]
  exact ⟨rfl, rfl, rfl⟩

/-- A sensor whose health stays leaves every health as it is. -/
theorem State.Resensed.sensorOk {s t : State} {i : Seg} {k : SensorKind} {r : Sensor} {ns : List Notice}
    (h : s.Resensed t i k r ns) {m : SensorKind} (hm : m ≠ k ∨ r.health = (s.sensor i k).health) (j : Seg) :
    t.sensorOk j m = s.sensorOk j m := by
  unfold State.sensorOk
  by_cases hj : j = i
  · subst hj
    by_cases hk : m = k
    · subst hk
      rw [h.sensor, hm.resolve_left (not_not.2 rfl)]
    · rw [h.kind m hk]
  · exact congrArg (fun v => (getSensor v m).health == .ok) (h.other j hj)

theorem mem_sourceReports {s t : State} {c : Instr} : c ∈ sourceReports s t ↔
    (∃ j, s.configured j = true ∧ t.si.presenceSource.get j ≠ s.si.presenceSource.get j ∧
      c = .presenceSourceReport j (t.si.presenceSource.get j)) ∨
    ∃ j, s.configured j = true ∧ t.si.daylightSource.get j ≠ s.si.daylightSource.get j ∧
      c = .daylightSourceReport j (t.si.daylightSource.get j) := by
  have all (j : Seg) : j ∈ allSegs := by fin_cases j <;> decide
  unfold sourceReports
  simp only [List.mem_append, List.mem_map, List.mem_filter, all, true_and, Bool.and_eq_true, bne_iff_ne, and_assoc,
    @eq_comm _ _ c]

/-- A change of the map over two steps is reported in the one that last made it. -/
theorem sourceReports_subset {s t u : State} (hc : t.cs = s.cs) {c : Instr} (h : c ∈ sourceReports s u) :
    c ∈ sourceReports s t ++ sourceReports t u := by
  rw [List.mem_append, mem_sourceReports, mem_sourceReports, State.configured_congr hc]
  obtain ⟨j, hj, moved, rfl⟩ | ⟨j, hj, moved, rfl⟩ := mem_sourceReports.1 h
  · by_cases last : u.si.presenceSource.get j = t.si.presenceSource.get j
    · exact .inl (.inl ⟨j, hj, last ▸ moved, by rw [last]⟩)
    · exact .inr (.inl ⟨j, hj, last, rfl⟩)
  · by_cases last : u.si.daylightSource.get j = t.si.daylightSource.get j
    · exact .inl (.inr ⟨j, hj, last ▸ moved, by rw [last]⟩)
    · exact .inr (.inr ⟨j, hj, last, rfl⟩)

/-- The reports of the samples of an answer: those of the two steps that may form the map anew. -/
theorem State.takeSamples (s : State) (i : Seg) (a : Answer) :
    let t := sensorKinds.foldl (fun s k => s.takeSample i a k) s
    let changed (k : SensorKind) : Prop := (t.sensor i k).health ≠ (s.sensor i k).health
    ∃ sources,
      (∀ k, t.sensor i k = sampledSensor (judgeSample a k) (s.sensor i k)) ∧
      (∀ j, j ≠ i → t.si.sensors.get j = s.si.sensors.get j) ∧
      t.nq = (s.notifyAll ([SensorKind.presence, .temperature, .co2, .daylight].flatMap fun k =>
        sampleNotices i k (judgeSample a k) (s.sensor i k))).nq ∧
      (changed .presence ∨ changed .daylight → t.Mapped []) ∧
      (¬ changed .presence → ¬ changed .daylight → sources = [] ∧
        t.si.presenceSource = s.si.presenceSource ∧ t.si.daylightSource = s.si.daylightSource) ∧
      (¬ (changed .presence ∧ changed .daylight) → sources = sourceReports s t) ∧
      (∀ r ∈ sourceReports s t, r ∈ sources) ∧
      (∀ r ∈ sources, ∃ j source, s.configured j = true ∧
        (r = .presenceSourceReport j source ∨ r = .daylightSourceReport j source)) ∧
      t.reports = s.reports ++ sources ∧
      t = { s with
        si := { s.si with sensors := t.si.sensors, presenceSource := t.si.presenceSource
                          daylightSource := t.si.daylightSource }
        nq := t.nq, reports := t.reports } := by
  intro t changed
  have r1 := s.takeSample_resensed i a .presence
  have r2 := (s.takeSample i a .presence).takeSample_resensed i a .temperature
  have r3 := ((s.takeSample i a .presence).takeSample i a .temperature).takeSample_resensed i a .co2
  have r4 := (((s.takeSample i a .presence).takeSample i a .temperature).takeSample i a .co2).takeSample_resensed i a
    .daylight
  have whole : t = (((s.takeSample i a .presence).takeSample i a .temperature).takeSample i a .co2).takeSample i a
    .daylight := rfl
  rw [← whole] at r4
  generalize s.takeSample i a .presence = u1 at r1 r2 r3 r4
  generalize u1.takeSample i a .temperature = u2 at r2 r3 r4
  generalize u2.takeSample i a .co2 = u3 at r3 r4
  clear whole
  clear_value t
  have temperature : u1.sensor i .temperature = s.sensor i .temperature := r1.kind _ (by decide)
  have co2 : u2.sensor i .co2 = s.sensor i .co2 := (r2.kind _ (by decide)).trans (r1.kind _ (by decide))
  have daylight : u3.sensor i .daylight = s.sensor i .daylight :=
    (r3.kind _ (by decide)).trans ((r2.kind _ (by decide)).trans (r1.kind _ (by decide)))
  rw [temperature] at r2
  rw [co2] at r3
  rw [daylight] at r4
  have presence' : t.sensor i .presence = sampledSensor (judgeSample a .presence) (s.sensor i .presence) :=
    (r4.kind _ (by decide)).trans ((r3.kind _ (by decide)).trans ((r2.kind _ (by decide)).trans r1.sensor))
  have daylight' := r4.sensor
  obtain ⟨p2, d2⟩ := r2.still (.inr (by decide))
  obtain ⟨p3, d3⟩ := r3.still (.inr (by decide))
  have p13 : u3.si.presenceSource = u1.si.presenceSource := p3.trans p2
  have d13 : u3.si.daylightSource = u1.si.daylightSource := d3.trans d2
  obtain ⟨tb1, cs1, lm1⟩ := r1.context
  obtain ⟨tb2, cs2, lm2⟩ := r2.context
  obtain ⟨tb3, cs3, lm3⟩ := r3.context
  obtain ⟨-, cs4, lm4⟩ := r4.context
  have late : sourceReports u3 t = sourceReports u1 t := sourceReports_congr (cs3.trans cs2) p13 d13 rfl rfl
  have moved1 : changed .presence ↔
      (sampledSensor (judgeSample a .presence) (s.sensor i .presence)).health ≠ (s.sensor i .presence).health := by
    show (t.sensor i .presence).health ≠ _ ↔ _
    rw [presence']
  have moved4 : changed .daylight ↔
      (sampledSensor (judgeSample a .daylight) (s.sensor i .daylight)).health ≠ (u3.sensor i .daylight).health := by
    show (t.sensor i .daylight).health ≠ _ ↔ _
    rw [daylight', daylight]
  have first (h : ¬changed .presence) := r1.still (.inl (not_not.1 (mt moved1.2 h)))
  have last (h : ¬changed .daylight) := r4.still (.inl (not_not.1 (mt moved4.2 h)))
  refine ⟨sourceReports s u1 ++ sourceReports u1 t, fun k => ?_, fun j h => ?_, ?_, fun h => ?_, fun hp hd => ?_,
    fun h => ?_, fun r hr => sourceReports_subset cs1 hr, fun r hr => ?_, ?_, ?_⟩
  · cases k with
    | presence => exact presence'
    | temperature => exact (r4.kind _ (by decide)).trans ((r3.kind _ (by decide)).trans r2.sensor)
    | co2 => exact (r4.kind _ (by decide)).trans r3.sensor
    | daylight => exact daylight'
  · rw [r4.other j h, r3.other j h, r2.other j h, r1.other j h]
  · have n2 := r2.nq_after r1.nq tb1
    have n3 := r3.nq_after n2 (tb2.trans tb1)
    rw [r4.nq_after n3 (tb3.trans (tb2.trans tb1))]
    simp only [List.flatMap_cons, List.flatMap_nil, List.append_nil, List.append_assoc]
  · by_cases hd : changed .daylight
    · exact r4.mapped (moved4.1 hd) (.inr rfl)
    · have hp := h.resolve_right hd
      obtain ⟨p4, d4⟩ := last hd
      refine (r1.mapped (moved1.1 hp) (.inl rfl)).congr (cs4.trans (cs3.trans cs2))
        (congrArg Lm.groups (lm4.trans (lm3.trans lm2))) (p4.trans p13) (d4.trans d13) fun j => ⟨?_, ?_⟩
      · rw [r4.sensorOk (.inl (by decide)), r3.sensorOk (.inl (by decide)), r2.sensorOk (.inl (by decide))]
      · rw [r4.sensorOk (.inr (not_not.1 (mt moved4.2 hd))), r3.sensorOk (.inl (by decide)),
          r2.sensorOk (.inl (by decide))]
  · obtain ⟨p1, d1⟩ := first hp
    obtain ⟨p4, d4⟩ := last hd
    rw [sourceReports_still p1 d1, sourceReports_still (p4.trans p13) (d4.trans d13)]
    exact ⟨rfl, p4.trans (p13.trans p1), d4.trans (d13.trans d1)⟩
  · by_cases hd : changed .daylight
    · obtain ⟨p1, d1⟩ := first fun hp => h ⟨hp, hd⟩
      rw [sourceReports_still p1 d1]
      exact sourceReports_congr cs1 p1 d1 rfl rfl
    · obtain ⟨p4, d4⟩ := last hd
      rw [sourceReports_still (p4.trans p13) (d4.trans d13), List.append_nil]
      exact (sourceReports_congr rfl rfl rfl (p4.trans p13) (d4.trans d13)).symm
  · rw [List.mem_append, mem_sourceReports, mem_sourceReports, State.configured_congr cs1] at hr
    obtain (⟨j, hj, -, rfl⟩ | ⟨j, hj, -, rfl⟩) | ⟨j, hj, -, rfl⟩ | ⟨j, hj, -, rfl⟩ := hr
    · exact ⟨j, _, hj, .inl rfl⟩
    · exact ⟨j, _, hj, .inr rfl⟩
    · exact ⟨j, _, hj, .inl rfl⟩
    · exact ⟨j, _, hj, .inr rfl⟩
  · rw [r4.reports, r3.reports, r2.reports, r1.reports, late, sourceReports_still p2 d2, sourceReports_still p3 d3,
      List.append_nil, List.append_nil, List.append_assoc]
  · rw [r4.frame, r3.frame, r2.frame, r1.frame]

theorem State.forwardPresence_eq (s : State) (i : Seg) (a : Answer) : s.forwardPresence i a =
    s.raiseAll (if a.presence = true ∧ a.presenceMark = false ∧ s.sensorOk i .presence = true
      then (allSegs.filter fun j => s.configured j && s.si.presenceSource.get j == some i).map .presenceEvent
      else []) := by
  have segs : (s.configuredSegs.filter fun j => s.si.presenceSource.get j == some i) =
      allSegs.filter fun j => s.configured j && s.si.presenceSource.get j == some i := by
    unfold State.configuredSegs
    rw [List.filter_filter]
    exact List.filter_congr fun j _ => Bool.and_comm _ _
  unfold State.forwardPresence
  rw [segs]
  by_cases h : a.presence = true ∧ a.presenceMark = false ∧ s.sensorOk i .presence = true
  · rw [if_pos h, if_pos (by simp [h])]
  · rw [if_neg h, if_neg (by simpa [and_assoc] using h)]
    exact (congrArg (fun l => { s with reports := l }) (List.append_nil s.reports)).symm

theorem State.forwardDaylight_eq (s : State) (i : Seg) (a : Answer) : s.forwardDaylight i a =
    s.raiseAll (if a.daylightMark = false ∧ s.sensorOk i .daylight = true
      then (allSegs.filter fun j => s.configured j && s.si.daylightSource.get j == some i).map
        fun j => .daylightValue j a.daylight
      else []) := by
  have segs : (s.configuredSegs.filter fun j => s.si.daylightSource.get j == some i) =
      allSegs.filter fun j => s.configured j && s.si.daylightSource.get j == some i := by
    unfold State.configuredSegs
    rw [List.filter_filter]
    exact List.filter_congr fun j _ => Bool.and_comm _ _
  unfold State.forwardDaylight
  rw [segs]
  by_cases h : a.daylightMark = false ∧ s.sensorOk i .daylight = true
  · rw [if_pos h, if_pos (by simp [h])]
  · rw [if_neg h, if_neg (by simpa using h)]
    exact (congrArg (fun l => { s with reports := l }) (List.append_nil s.reports)).symm

/-- Settles O53: the four samples by State.takeSamples, then the values handed on. -/
theorem sensorAnswerSettlesHealth : Obligations.SensorAnswerSettlesHealth := by
  intro s i a ha ho
  refine ⟨fun hw => ?_, ?_⟩
  · refine congrArg Host.Outcome.next ((State.event_taken ha (.sensorAnswer i a) _).trans ?_)
    rw [if_neg (by rw [show (s.take (.sensorAnswer i a)).awaits i = false from hw]; decide)]
    exact State.drive_eq_self ha ho rfl rfl
  · intro judged changed notices hw
    let c := Instr.sensorAnswer i a
    have judges (k : SensorKind) : judgeSample a k = judged k := by cases k <;> rfl
    have act : s.event c (fun s => if s.awaits i then s.takeAnswer i a else s) =
        (((sensorKinds.foldl (fun s k => s.takeSample i a k) (s.take c).lineFree).forwardPresence i a).forwardDaylight
          i a).drive :=
      (State.event_taken ha c _).trans (congrArg State.drive (if_pos (show (s.take c).awaits i = true from hw)))
    obtain ⟨sources, sensor, other, nq, mapped, still, one, all, form, reports, frame⟩ :=
      (s.take c).lineFree.takeSamples i a
    generalize sensorKinds.foldl (fun s k => s.takeSample i a k) (s.take c).lineFree = u at *
    rw [State.forwardPresence_eq, State.forwardDaylight_eq] at act
    let events : List Instr := if a.presence = true ∧ a.presenceMark = false ∧ u.sensorOk i .presence = true
      then (allSegs.filter fun j => u.configured j && u.si.presenceSource.get j == some i).map .presenceEvent else []
    let values : List Instr := if a.daylightMark = false ∧ u.sensorOk i .daylight = true
      then (allSegs.filter fun j => u.configured j && u.si.daylightSource.get j == some i).map
        fun j => .daylightValue j a.daylight else []
    have configured : u.configured = s.configured := by
      rw [frame]
      rfl
    have driven : ((u.raiseAll events).raiseAll values).drive = (u.raiseAll events).raiseAll values :=
      State.drive_eq_self ha ho (by rw [frame]; rfl) (by rw [frame]; rfl)
    refine ⟨(u.raiseAll events).raiseAll values, sources, congrArg Host.Outcome.next (act.trans driven), ?_,
      fun k => ?_, other, ?_, mapped, still, one, all, form, ?_, ?_⟩
    · show u.si.outstanding = none
      rw [frame]
      rfl
    · show u.sensor i k = _
      rw [sensor k, judges k]
      rfl
    · show u.nq = _
      rw [nq, State.notifyAll_nq (s := s) (u := (s.take c).lineFree) rfl rfl]
      simp only [judges]
      rfl
    · show u.reports ++ events ++ values = _
      rw [reports]
      simp only [events, values, configured]
      rfl
    · show (u.raiseAll events).raiseAll values = _
      generalize events = es
      generalize values = vs
      rw [frame]
      rfl

end Sys2Proof.Machine

/-! BT treats the entries of its table one after another: one entry's turn as a value, and a whole sweep of the
table as the turns' effects side by side. -/

namespace Sys2Proof.Machine

/-! ### What BT's steps write -/

/-- BT's table, rates, notices and reports moved together, the image written where an entry has `gone`. -/
def State.moved (s : State) (table : List Entry) (gone : Bool) (rates : Four Nat) (notices : List Notice)
    (reports : List Instr) : State :=
  { s with
    bt := { s.bt with
      table := table
      stored := if gone then table.map (·.fix) else s.bt.stored
      rates := rates }
    nq := (s.notifyAll notices).nq
    reports := s.reports ++ reports }

theorem State.moved_moved (s : State) {t1 t2 : List Entry} {g1 g2 : Bool} (r1 r2 : Four Nat) (n1 n2 : List Notice)
    (m1 m2 : List Instr) (h : g1 = true → g2 = false → t2.map (·.fix) = t1.map (·.fix)) :
    (s.moved t1 g1 r1 n1 m1).moved t2 g2 r2 n2 m2 = s.moved t2 (g1 || g2) r2 (n1 ++ n2) (m1 ++ m2) := by
  have queue : ((s.moved t1 g1 r1 n1 m1).notifyAll n2).nq = (s.notifyAll (n1 ++ n2)).nq := by
    rw [State.notifyAll_append]
    exact State.notifyAll_nq (s := s.notifyAll n1) (u := s.moved t1 g1 r1 n1 m1) rfl
      (by rw [State.notifyAll_frame s n1]; rfl) n2
  have image : (if g2 = true then t2.map (·.fix) else if g1 = true then t1.map (·.fix) else s.bt.stored) =
      if (g1 || g2) = true then t2.map (·.fix) else s.bt.stored := by
    cases g2 with
    | true => rw [if_pos rfl, Bool.or_true, if_pos rfl]
    | false =>
      rw [if_neg Bool.false_ne_true, Bool.or_false]
      by_cases hg : g1 = true
      · rw [if_pos hg, if_pos hg, h hg rfl]
      · rw [if_neg hg, if_neg hg]
  unfold State.moved at queue ⊢
  simp only [queue, image, List.append_assoc]

theorem State.moved_self (s : State) : s.moved s.bt.table false s.bt.rates [] [] = s := by
  unfold State.moved
  rw [List.append_nil]
  rfl

/-! ### One entry's turn -/

/-- What one treatment makes of an entry: its fate, the learned rates, the notices and the reports. -/
structure Turn where
  fate : Option Entry
  rates : Four Nat → Four Nat
  notices : List Notice
  reports : List Instr

/-- The entry is not concerned. -/
def Turn.still (e : Entry) : Turn := ⟨some e, id, [], []⟩

/-- The entry stays with other volatile fields. -/
def Turn.becomes (e : Entry) (v : Volatile) (notices : List Notice) (reports : List Instr) : Turn :=
  ⟨some { e with vol := v }, id, notices, reports⟩

/-- The entry leaves the table. -/
def Turn.leaves (notices : List Notice) (reports : List Instr) : Turn := ⟨none, id, notices, reports⟩

/-- The table with one entry's fate in its place. -/
def fated (table : List Entry) (e : Entry) (fate : Option Entry) : List Entry :=
  table.filterMap fun y => if y.fix.ref = e.fix.ref then fate else some y

def State.turn (s : State) (e : Entry) (k : Turn) : State :=
  s.moved (fated s.bt.table e k.fate) k.fate.isNone (k.rates s.bt.rates) k.notices k.reports

theorem eq_of_ref {table : List Entry} (hu : (table.map (·.fix.ref)).Nodup) {x y : Entry} (hx : x ∈ table)
    (hy : y ∈ table) (h : x.fix.ref = y.fix.ref) : x = y :=
  List.inj_on_of_nodup_map hu hx hy h

theorem fated_self {table : List Entry} (hu : (table.map (·.fix.ref)).Nodup) {e : Entry} (he : e ∈ table) :
    fated table e (some e) = table := by
  unfold fated
  rw [List.filterMap_congr (g := some) (fun y hy => ?_), List.filterMap_some]
  split
  · next h => rw [eq_of_ref hu he hy h.symm]
  · rfl

theorem State.turn_still {s : State} (hu : s.UniqueRefs) {e : Entry} (he : e ∈ s.bt.table) :
    s.turn e (Turn.still e) = s := by
  unfold State.turn Turn.still
  rw [fated_self hu he]
  exact s.moved_self

/-- An entry's volatile fields changed is its turn. -/
theorem fated_mapVolatile {s : State} (hu : s.UniqueRefs) {e : Entry} (he : e ∈ s.bt.table) (f : Volatile → Volatile) :
    (s.mapVolatile e.fix.ref f).bt.table = fated s.bt.table e (some { e with vol := f e.vol }) := by
  show s.bt.table.map _ = _
  rw [← List.filterMap_eq_map]
  refine List.filterMap_congr fun y hy => ?_
  by_cases h : y.fix.ref = e.fix.ref
  · rw [if_pos h, eq_of_ref hu hy he h]
    simp
  · simp [h]

theorem fated_none (table : List Entry) (e : Entry) :
    fated table e none = table.filter fun y => y.fix.ref != e.fix.ref := by
  unfold fated
  induction table with
  | nil => rfl
  | cons y rest ih =>
    by_cases h : y.fix.ref = e.fix.ref
    · rw [List.filterMap_cons_none (by rw [if_pos h]), List.filter_cons_of_neg (by simp [h]), ih]
    · rw [List.filterMap_cons_some (by rw [if_neg h]), List.filter_cons_of_pos (by simp [h]), ih]

theorem State.mapVolatile_turn {s : State} (hu : s.UniqueRefs) {e : Entry} (he : e ∈ s.bt.table)
    (f : Volatile → Volatile) : s.mapVolatile e.fix.ref f = s.turn e (.becomes e (f e.vol) [] []) := by
  unfold State.turn Turn.becomes
  rw [← fated_mapVolatile hu he]
  unfold State.moved
  rw [List.append_nil]
  rfl

theorem State.startSession_turn {s : State} (hu : s.UniqueRefs) {e : Entry} (he : e ∈ s.bt.table) (cause : StartCause) :
    s.startSession e cause = s.turn e (.becomes e
      (begunVolatile s.comm e.fix s.now cause (cause == .panel || s.entryObserved e) e.vol)
      [.sessionStarted (startedFields e.fix s.now cause)] [.entryStateChange e.fix.ref (entrySegs e) true]) := by
  unfold State.turn Turn.becomes
  rw [← fated_mapVolatile hu he]
  rfl

/-- The two reports of a session's end (R32, R46). -/
def State.endReports (s : State) (e : Entry) : List Instr :=
  [.entryStateChange e.fix.ref (entrySegs e) false,
    .sessionEndOverrides e.fix.ref (s.governedBy e.fix.ref)]

theorem State.endSession_turn (s : State) (e : Entry) (cause : EndCause) :
    s.endSession e cause = s.turn e (.leaves [.sessionEnded (endedFields e s.now cause)] (s.endReports e)) := by
  unfold State.turn Turn.leaves
  rw [fated_none]
  rfl

/-! ### A sweep -/

/-- The turns of the entries listed, side by side. -/
def State.swept (s : State) (l : List Entry) (k : Entry → Turn) : State :=
  s.moved (s.bt.table.filterMap fun y => if y ∈ l then (k y).fate else some y)
    (l.any fun e => (k e).fate.isNone) (l.foldl (fun r e => (k e).rates r) s.bt.rates)
    (l.flatMap fun e => (k e).notices) (l.flatMap fun e => (k e).reports)

theorem map_filterMap_sublist {α β : Type} {key : α → β} {g : α → Option α}
    (h : ∀ y x, g y = some x → key x = key y) (l : List α) : ((l.filterMap g).map key).Sublist (l.map key) := by
  induction l with
  | nil => exact List.Sublist.slnil
  | cons y rest ih =>
    cases hg : g y with
    | none =>
      rw [List.filterMap_cons_none hg]
      exact ih.trans (List.sublist_cons_self _ _)
    | some x =>
      rw [List.filterMap_cons_some hg, List.map_cons, List.map_cons, h y x hg]
      exact ih.cons_cons _

theorem map_filterMap_eq {α β : Type} {key : α → β} {g : α → Option α}
    {l : List α} (h : ∀ y ∈ l, ∃ x, g y = some x ∧ key x = key y) : (l.filterMap g).map key = l.map key := by
  induction l with
  | nil => rfl
  | cons y rest ih =>
    obtain ⟨x, hx, key_eq⟩ := h y List.mem_cons_self
    rw [List.filterMap_cons_some hx, List.map_cons, List.map_cons, key_eq,
      ih fun z hz => h z (List.mem_cons_of_mem _ hz)]

/-- A fate keeps the fixed fields of its entry. -/
abbrev Turn.Of (e : Entry) (k : Turn) : Prop := ∀ x, k.fate = some x → x.fix = e.fix

theorem State.turn_unique {s : State} (hu : s.UniqueRefs) {e : Entry} {k : Turn} (hk : k.Of e) :
    (s.turn e k).UniqueRefs := by
  refine List.Nodup.sublist (map_filterMap_sublist (fun y x h => ?_) s.bt.table) hu
  split at h
  · next same => rw [hk x h, same]
  · cases h
    rfl

theorem State.mem_turn_of_other {s : State} {e y : Entry} (k : Turn) (hy : y ∈ s.bt.table) (h : y.fix.ref ≠ e.fix.ref) :
    y ∈ (s.turn e k).bt.table :=
  List.mem_filterMap.2 ⟨y, hy, if_neg h⟩

/-- A turn and then the others'. -/
theorem State.swept_cons {s : State} (hu : s.UniqueRefs) {e : Entry} {l : List Entry} {k : Entry → Turn}
    (hk : ∀ e, (k e).Of e) (he : e ∈ s.bt.table) (apart : ∀ y ∈ l, y.fix.ref ≠ e.fix.ref) :
    (s.turn e (k e)).swept l k = s.swept (e :: l) k := by
  have table : (fated s.bt.table e (k e).fate).filterMap (fun y => if y ∈ l then (k y).fate else some y) =
      s.bt.table.filterMap fun y => if y ∈ e :: l then (k y).fate else some y := by
    unfold fated
    rw [List.filterMap_filterMap]
    refine List.filterMap_congr fun y hy => ?_
    by_cases same : y.fix.ref = e.fix.ref
    · obtain rfl := eq_of_ref hu hy he same
      rw [if_pos same, if_pos List.mem_cons_self]
      cases hf : (k y).fate with
      | none => rfl
      | some x =>
        exact if_neg fun hx => apart x hx (by rw [hk y x hf])
    · have ne : y ≠ e := fun h => same (h ▸ rfl)
      rw [if_neg same]
      simp only [Option.bind_some, List.mem_cons, ne, false_or]
  unfold State.swept
  show State.moved (State.moved _ _ _ _ _ _) _ _ _ _ _ = _
  rw [State.moved_moved]
  · rw [show (s.turn e (k e)).bt.table = fated s.bt.table e (k e).fate from rfl, table]
    rfl
  · intro _ stay
    refine map_filterMap_eq fun y _ => ?_
    by_cases hy : y ∈ l
    · rw [if_pos hy]
      cases hf : (k y).fate with
      | none => exact absurd (List.any_eq_true.2 ⟨y, hy, Option.isNone_iff_eq_none.2 hf⟩) (Bool.eq_false_iff.1 stay)
      | some x => exact ⟨x, rfl, hk y x hf⟩
    · exact ⟨y, if_neg hy, rfl⟩

/-- A treatment that gives every listed entry its turn sweeps them. -/
theorem State.forEntries_swept {P : State → Prop} {f : Entry → State → State} {k : Entry → Turn}
    (hP : ∀ u e, P u → u.UniqueRefs → e ∈ u.bt.table → P (u.turn e (k e)))
    (hf : ∀ u e, P u → u.UniqueRefs → e ∈ u.bt.table → f e u = u.turn e (k e)) (hk : ∀ e, (k e).Of e) :
    ∀ (l : List Entry) (s : State), P s → s.UniqueRefs → (∀ e ∈ l, e ∈ s.bt.table) →
      (l.map (·.fix.ref)).Nodup → s.forEntries (l.map (·.fix.ref)) f = s.swept l k
  | [], s, _, _, _, _ => by
    unfold State.swept
    rw [List.filterMap_congr (g := some) (fun y _ => if_neg List.not_mem_nil), List.filterMap_some]
    exact s.moved_self.symm
  | e :: l, s, hs, hu, hmem, hn => by
    obtain ⟨fresh, hn⟩ := List.nodup_cons.1 hn
    have he := hmem e List.mem_cons_self
    have apart : ∀ y ∈ l, y.fix.ref ≠ e.fix.ref := fun y hy h =>
      fresh (List.mem_map.2 ⟨y, hy, h⟩)
    have first : s.forEntries ((e :: l).map (·.fix.ref)) f = (f e s).forEntries (l.map (·.fix.ref)) f := by
      unfold State.forEntries
      rw [List.map_cons, List.foldl_cons, State.entry?_of_mem hu he]
    rw [first, hf s e hs hu he, State.forEntries_swept hP hf hk l (s.turn e (k e)) (hP s e hs hu he)
      (State.turn_unique hu (hk e)) (fun y hy => State.mem_turn_of_other _ (hmem y (List.mem_cons_of_mem _ hy)) (apart y hy))
      hn, State.swept_cons hu hk he apart]

theorem flatMap_if {α β : Type} (p : α → Bool) (f : α → List β) (l : List α) :
    (l.flatMap fun e => if p e = true then f e else []) = (l.filter p).flatMap f := by
  induction l with
  | nil => rfl
  | cons x rest ih =>
    rw [List.flatMap_cons, ih]
    by_cases h : p x = true
    · rw [if_pos h, List.filter_cons_of_pos h, List.flatMap_cons]
    · rw [if_neg h, List.filter_cons_of_neg h, List.nil_append]

theorem foldl_if {α β : Type} (p : α → Bool) (f : β → α → β) (l : List α) (b : β) :
    l.foldl (fun b e => if p e = true then f b e else b) b = (l.filter p).foldl f b := by
  induction l generalizing b with
  | nil => rfl
  | cons x rest ih =>
    rw [List.foldl_cons, ih]
    by_cases h : p x = true
    · rw [if_pos h, List.filter_cons_of_pos h, List.foldl_cons]
    · rw [if_neg h, List.filter_cons_of_neg h]

/-- The turns of the entries that `p` concerns. -/
def State.sweptWhere (s : State) (p : Entry → Bool) (k : Entry → Turn) : State :=
  s.moved (s.bt.table.filterMap fun y => if p y = true then (k y).fate else some y)
    ((s.bt.table.filter p).any fun e => (k e).fate.isNone)
    ((s.bt.table.filter p).foldl (fun r e => (k e).rates r) s.bt.rates)
    ((s.bt.table.filter p).flatMap fun e => (k e).notices)
    ((s.bt.table.filter p).flatMap fun e => (k e).reports)

/-- A treatment of every entry that concerns some of them. -/
theorem State.forEntries_sweptWhere {P : State → Prop} {f : Entry → State → State} {p : Entry → Bool}
    {k : Entry → Turn} {s : State} (hs : P s) (hu : s.UniqueRefs)
    (hP : ∀ u e, P u → P (u.turn e (k e)))
    (hf : ∀ u e, P u → u.UniqueRefs → e ∈ u.bt.table → f e u = if p e = true then u.turn e (k e) else u)
    (hk : ∀ e, (k e).Of e) : s.forEntries s.refs f = s.sweptWhere p k := by
  let k' (e : Entry) : Turn := if p e = true then k e else Turn.still e
  have turn_eq (u : State) (e : Entry) (hu : u.UniqueRefs) (he : e ∈ u.bt.table) :
      u.turn e (k' e) = if p e = true then u.turn e (k e) else u := by
    by_cases h : p e = true
    · simp only [k', if_pos h]
    · simp only [k', if_neg h, State.turn_still hu he]
  have of (e : Entry) : (k' e).Of e := by
    by_cases h : p e = true
    · simp only [k', if_pos h]
      exact hk e
    · simp only [k', if_neg h]
      intro x hx
      cases hx
      rfl
  have sweep := State.forEntries_swept (P := P) (f := f) (k := k')
    (fun u e hu uniq he => by
      rw [turn_eq u e uniq he]
      split
      · exact hP u e hu
      · exact hu)
    (fun u e hu uniq he => (hf u e hu uniq he).trans (turn_eq u e uniq he).symm) of s.bt.table s hs hu (fun _ h => h) hu
  have notices : (s.bt.table.flatMap fun e => (k' e).notices) = (s.bt.table.filter p).flatMap fun e => (k e).notices := by
    rw [← flatMap_if]
    exact List.flatMap_congr fun e _ => by by_cases h : p e = true <;> simp [k', h, Turn.still]
  have reports : (s.bt.table.flatMap fun e => (k' e).reports) = (s.bt.table.filter p).flatMap fun e => (k e).reports := by
    rw [← flatMap_if]
    exact List.flatMap_congr fun e _ => by by_cases h : p e = true <;> simp [k', h, Turn.still]
  have rates : s.bt.table.foldl (fun r e => (k' e).rates r) s.bt.rates =
      (s.bt.table.filter p).foldl (fun r e => (k e).rates r) s.bt.rates := by
    rw [← foldl_if]
    congr 1
    funext r e
    by_cases h : p e = true <;> simp [k', h, Turn.still]
  have gone : (s.bt.table.any fun e => (k' e).fate.isNone) = (s.bt.table.filter p).any fun e => (k e).fate.isNone := by
    rw [List.any_filter]
    exact congrArg s.bt.table.any (funext fun e => by by_cases h : p e = true <;> simp [k', h, Turn.still])
  have table : (s.bt.table.filterMap fun y => if y ∈ s.bt.table then (k' y).fate else some y) =
      s.bt.table.filterMap fun y => if p y = true then (k y).fate else some y :=
    List.filterMap_congr fun y hy => by by_cases h : p y = true <;> simp [k', h, hy, Turn.still]
  rw [show s.refs = s.bt.table.map (·.fix.ref) from rfl, sweep]
  unfold State.swept State.sweptWhere
  rw [table, gone, rates, notices, reports]

/-! ### What a sweep leaves alone -/

/-- Nothing but BT's table, image and rates, the notices and the reports differs from s. -/
def State.Ground (s u : State) : Prop :=
  u = { s with
    bt := { s.bt with table := u.bt.table, stored := u.bt.stored, rates := u.bt.rates }
    nq := u.nq
    reports := u.reports }

theorem State.Ground.refl (s : State) : s.Ground s := rfl

theorem State.Ground.trans {s t u : State} (h : s.Ground t) (k : t.Ground u) : s.Ground u := by
  unfold State.Ground at h k ⊢
  rw [k, h]

theorem State.moved_ground (s : State) (table : List Entry) (gone : Bool) (rates : Four Nat) (ns : List Notice)
    (rs : List Instr) : s.Ground (s.moved table gone rates ns rs) := rfl

theorem State.Ground.turn {s u : State} (h : s.Ground u) (e : Entry) (k : Turn) : s.Ground (u.turn e k) :=
  h.trans (State.moved_ground ..)

/-! ### Readiness (R35 to R37) -/

theorem State.mayLearn_eq (s : State) (e : Entry) : s.mayLearn e = s.updatesRates e := rfl

theorem State.learn_eq (s : State) (e : Entry) :
    (if s.mayLearn e then s.learn e else s) = { s with bt := { s.bt with rates := s.ratesAfter s.bt.rates e } } := by
  unfold State.ratesAfter
  rw [← State.mayLearn_eq]
  by_cases h : s.mayLearn e = true
  · rw [if_pos h, if_pos h]
    unfold State.learn learnedRate clampNat
    simp only [Bool.and_eq_true]
    rfl
  · rw [if_neg h, if_neg h]

theorem State.makeReady_turn {s : State} (hu : s.UniqueRefs) {e : Entry} (he : e ∈ s.bt.table) :
    s.makeReady e = s.turn e ⟨some { e with vol := { e.vol with state := .ready } }, (s.ratesAfter · e),
      [s.readyNotice e], [.entryStateChange e.fix.ref (entrySegs e) false]⟩ := by
  unfold State.turn
  rw [← fated_mapVolatile hu he (fun v => { v with state := .ready })]
  unfold State.makeReady
  simp only [State.learn_eq]
  rfl

theorem State.loseReady_turn {s : State} (hu : s.UniqueRefs) {e : Entry} (he : e ∈ s.bt.table) (cause : NotReadyCause) :
    s.loseReady e cause = s.turn e (.becomes e { e.vol with state := .preparing }
      [.notReady e.fix.ref cause] [.entryStateChange e.fix.ref (entrySegs e) false]) := by
  unfold State.turn Turn.becomes
  rw [← fated_mapVolatile hu he (fun v => { v with state := .preparing })]
  rfl

/-- The figures of readiness read neither table, image, rates, notices nor reports. -/
theorem State.Ground.readyNotice {s u : State} (h : s.Ground u) (e : Entry) : u.readyNotice e = s.readyNotice e := by
  rw [h]
  rfl

theorem State.Ground.ratesAfter {s u : State} (h : s.Ground u) (r : Four Nat) (e : Entry) :
    u.ratesAfter r e = s.ratesAfter r e := by
  rw [h]
  rfl

/-- A PREPARING entry made READY, in a table of any kind. -/
theorem State.makeReady_eq (s : State) (e : Entry) :
    s.makeReady e = { s with
      bt := { s.bt with
        table := s.bt.table.map fun (y : Entry) =>
          if y.fix.ref == e.fix.ref then { y with vol := { y.vol with state := .ready } } else y
        rates := s.ratesAfter s.bt.rates e }
      nq := (s.notify (s.readyNotice e)).nq
      reports := s.reports ++ [.entryStateChange e.fix.ref (entrySegs e) false] } := by
  unfold State.makeReady
  simp only [State.learn_eq]
  rfl

theorem State.takeSettled_eq {s : State} (hu : s.UniqueRefs) (g : Segs) :
    s.takeSettled g = s.sweptWhere
      (fun e => e.vol.state == .preparing && segHas g e.fix.first
        && s.lm.groups.any (fun r => r.segs == g && r.governing == some e.fix.ref))
      fun e => ⟨some { e with vol := { e.vol with state := .ready } }, (s.ratesAfter · e),
        [s.readyNotice e], [.entryStateChange e.fix.ref (entrySegs e) false]⟩ := by
  refine State.forEntries_sweptWhere (P := s.Ground) (.refl s) hu (fun u e h => h.turn e _) (fun u e h uniq he => ?_)
    fun e x hx => by cases hx; rfl
  have groups : u.lm.groups = s.lm.groups := by rw [h]
  have rates : (fun r => u.ratesAfter r e) = fun r => s.ratesAfter r e := funext fun r => h.ratesAfter r e
  rw [groups, State.makeReady_turn uniq he, h.readyNotice, rates]

theorem State.takeLostSettled_eq {s : State} (hu : s.UniqueRefs) (g : Segs) :
    s.takeLostSettled g = s.sweptWhere (fun e => e.vol.state == .ready && segHas g e.fix.first)
      fun e => .becomes e { e.vol with state := .preparing }
        [.notReady e.fix.ref .unsettled] [.entryStateChange e.fix.ref (entrySegs e) false] := by
  refine State.forEntries_sweptWhere (P := s.Ground) (.refl s) hu (fun u e h => h.turn e _) (fun u e h uniq he => ?_)
    fun e x hx => by cases hx; rfl
  rw [State.loseReady_turn uniq he]

/-- A sweep in which every entry stays. -/
theorem State.sweptWhere_stays (s : State) (p : Entry → Bool) (v : Entry → Volatile) (rates : Entry → Four Nat → Four Nat)
    (notice : Entry → Notice) (report : Entry → Instr) :
    s.sweptWhere p (fun e => ⟨some { e with vol := v e }, rates e, [notice e], [report e]⟩) =
      { s with
        bt := { s.bt with
          table := s.bt.table.map fun e => if p e = true then { e with vol := v e } else e
          rates := (s.bt.table.filter p).foldl (fun r e => rates e r) s.bt.rates }
        nq := (s.notifyAll ((s.bt.table.filter p).map notice)).nq
        reports := s.reports ++ (s.bt.table.filter p).map report } := by
  have table : (s.bt.table.filterMap fun y => if p y = true then some { y with vol := v y } else some y) =
      s.bt.table.map fun e => if p e = true then { e with vol := v e } else e := by
    rw [← List.filterMap_eq_map]
    exact List.filterMap_congr fun y _ => by by_cases h : p y = true <;> simp [h]
  have gone : ((s.bt.table.filter p).any fun _ => false) = false := List.any_eq_false.2 fun _ _ => Bool.false_ne_true
  have notices := (List.map_eq_flatMap (f := notice) (l := s.bt.table.filter p)).symm
  have reports := (List.map_eq_flatMap (f := report) (l := s.bt.table.filter p)).symm
  unfold State.sweptWhere State.moved
  simp only [Option.isNone_some, gone, table, notices, reports]
  rfl

theorem ready_notice_given {s : State} {e : Entry} {begun error : Nat} (hb : e.vol.prepStart = some begun)
    (hle : begun ≤ s.tb.minutes) (he : e.vol.initialError = some error) :
    s.minutesPrepared e = s.tb.minutes - begun ∧
      s.updatesRates e = (decide (5 ≤ error) && e.vol.stamp == some (s.homeGroup e.fix)) := by
  unfold State.minutesPrepared State.updatesRates elapsedSince
  rw [hb, he]
  exact ⟨if_pos hle, rfl⟩

theorem foldl_id {α β : Type} (l : List α) (b : β) : l.foldl (fun r _ => id r) b = b := by
  induction l with
  | nil => rfl
  | cons _ rest ih => exact ih

/-- An event whose act is known and touches no figure that is driven. -/
theorem State.event_makes {s t : State} {c : Instr} {act : State → State} (ha : s.alive = true) (ho : s.OutputsFollow)
    (h : act (s.take c) = t) (hos : t.os = s.os) (hd : t.drive.os = s.drive.os) :
    (Host.Outcome.next (s.event c act) : Host.Outcome State Fault Refusal) = .next t := by
  rw [State.event_undriven ha ho (by rw [h, hos]) (by rw [h, hd]), h]

theorem State.takeCame_some {s : State} {ref : Nat} {e : Entry} (h : s.entry? ref = some e)
    (hp : e.vol.state = .preparing) (hl : ((s.loop? (s.homeGroup e.fix)).any (·.settled)) = true) :
    s.takeCame ref = s.makeReady e := by
  unfold State.takeCame
  rw [h]
  exact if_pos (Bool.and_eq_true_iff.2 ⟨beq_iff_eq.2 hp, hl⟩)

theorem State.takeCame_none {s : State} {ref : Nat}
    (h : ∀ e, s.entry? ref = some e → e.vol.state = .preparing →
      ((s.loop? (s.homeGroup e.fix)).any (·.settled)) = false) : s.takeCame ref = s := by
  unfold State.takeCame
  cases he : s.entry? ref with
  | none => rfl
  | some e =>
    refine if_neg fun k => ?_
    obtain ⟨hp, hl⟩ := Bool.and_eq_true_iff.1 k
    exact absurd (h e he (beq_iff_eq.1 hp)) (by rw [hl]; exact Bool.noConfusion)

theorem State.takeCeased_some {s : State} {ref : Nat} {e : Entry} (h : s.entry? ref = some e)
    (hr : e.vol.state = .ready) : s.takeCeased ref = s.loseReady e .notGoverning := by
  unfold State.takeCeased
  rw [h]
  exact if_pos (beq_iff_eq.2 hr)

theorem State.takeCeased_none {s : State} {ref : Nat} (h : ∀ e, s.entry? ref = some e → e.vol.state ≠ .ready) :
    s.takeCeased ref = s := by
  unfold State.takeCeased
  cases he : s.entry? ref with
  | none => rfl
  | some e => exact if_neg fun k => h e he (beq_iff_eq.1 k)

/-- Settles O50: the learning update's figures, the two governing reports by the entry named, and the two settled
reports as sweeps of the table. -/
theorem settledReportsMoveReadiness : Obligations.SettledReportsMoveReadiness := by
  refine ⟨fun s e begun error hb hle he => ?_, fun s ha ho => ⟨fun ref => ⟨fun e hent hprep hsettled => ?_, fun hno => ?_,
    fun e hent hready => ?_, fun hno => ?_⟩, fun hu g => ⟨?_, ?_⟩⟩⟩
  · obtain ⟨minutes, learns⟩ := ready_notice_given hb hle he
    refine ⟨?_, fun rates i => ?_⟩
    · unfold State.readyNotice
      rw [minutes, learns]
      rfl
    · unfold State.ratesAfter
      rw [minutes, learns, he]
      by_cases h : (decide (5 ≤ error) && e.vol.stamp == some (s.homeGroup e.fix)) = true
      · rw [if_pos h, Four.get_mapIdx]
        exact if_congr ⟨fun k => ⟨h, k⟩, fun k => k.2⟩ rfl rfl
      · rw [if_neg h]
        exact (if_neg fun k => h k.1).symm
  · exact State.event_makes ha ho ((State.takeCame_some (s := s.take _) hent hprep hsettled).trans
      (State.makeReady_eq _ e)) rfl rfl
  · exact State.event_makes ha ho (State.takeCame_none (s := s.take _) hno) rfl rfl
  · have same : e.fix.ref = ref := (State.entry?_mem hent).2
    exact State.event_makes ha ho ((State.takeCeased_some (s := s.take _) hent hready).trans
      (by rw [← same]; rfl)) rfl rfl
  · exact State.event_makes ha ho (State.takeCeased_none (s := s.take _) hno) rfl rfl
  · exact State.event_makes ha ho ((State.takeSettled_eq (s := s.take _) hu g).trans
      ((State.sweptWhere_stays _ _ (fun e => { e.vol with state := .ready }) (fun e r => (s.take (.settledReport g)).ratesAfter r e)
      (s.take (.settledReport g)).readyNotice fun e => .entryStateChange e.fix.ref (entrySegs e) false).trans
        (by rw [State.notifyAll_nq (s := s) (u := s.take (.settledReport g)) rfl rfl]; rfl))) rfl rfl
  · exact State.event_makes ha ho ((State.takeLostSettled_eq (s := s.take _) hu g).trans
      ((State.sweptWhere_stays _ _
      (fun e => { e.vol with state := .preparing }) (fun _ => id) (fun e => .notReady e.fix.ref .unsettled)
      fun e => .entryStateChange e.fix.ref (entrySegs e) false).trans (by
        rw [foldl_id, State.notifyAll_nq (s := s) (u := s.take (.lostSettledReport g)) rfl rfl]; rfl))) rfl rfl

end Sys2Proof.Machine

/-! OT's segments under presence, timers and sources; the groups derived anew; the overruns that a vacancy ends. -/

namespace Sys2Proof.Machine

/-! ### The groups derived anew -/

theorem State.otGroupNow_walkIn (s : State) (g : OtGroup) :
    (s.otGroupNow g).walkIn.isSome = ((s.otGroupNow g).occupied && (s.otGroupNow g).level != .session) := by
  unfold State.otGroupNow
  by_cases h : (s.groupOccupied g.segs && g.level != .session) = true
  · simp [h]
  · simp [h]

/-- OT deriving every group anew settles the occupancy, whatever its segments were before. -/
theorem State.otSettle_settled {s u : State} (hg : u.ot.groups = s.ot.groups) : OccupancySettled s u.otSettle := by
  have groups : u.otSettle.ot.groups = u.ot.groups.map u.otGroupNow := rfl
  refine ⟨fun r hr => ?_, fun p hp changed b hb => ?_⟩
  · rw [groups] at hr
    obtain ⟨x, -, rfl⟩ := List.mem_map.1 hr
    exact ⟨rfl, u.otGroupNow_walkIn x⟩
  · rw [groups, ← hg] at hp
    have told : .occupancyReport b p.2.segs p.2.occupied p.2.walkIn ∈ occupancyReports p.2 := by
      rcases List.mem_cons.1 hb with rfl | hb
      · exact List.mem_cons_self
      · rw [List.mem_singleton.1 hb]
        exact List.mem_cons_of_mem _ List.mem_cons_self
    show _ ∈ (State.raiseAll (State.raiseEarly _ _) _).reports
    by_cases created : (p.1.walkIn.isNone && p.2.walkIn.isSome) = true
    · exact List.mem_append_left _ (List.mem_append_left _ (List.mem_append_right _
        (List.mem_flatMap.2 ⟨p, List.mem_filter.2 ⟨hp, created⟩, told⟩)))
    · refine List.mem_append_right _ (List.mem_flatMap.2 ⟨p, List.mem_filter.2 ⟨hp, ?_⟩, told⟩)
      simpa [created] using changed

theorem State.otSettle_names {s u : State} (hg : u.ot.groups = s.ot.groups) :
    u.otSettle.ot.groups.map (fun (r : OtGroup) => (r.segs, r.level)) =
      s.ot.groups.map (fun (r : OtGroup) => (r.segs, r.level)) := by
  show (u.ot.groups.map u.otGroupNow).map _ = _
  rw [hg, List.map_map]
  rfl

/-- What an act that ends in OT's settling has done: the segments as given, the groups derived from them. -/
theorem State.otSettle_derived {s u : State} (hg : u.ot.groups = s.ot.groups) :
    u.otSettle.ot.groups.map (fun (r : OtGroup) => (r.segs, r.level)) =
      s.ot.groups.map (fun (r : OtGroup) => (r.segs, r.level)) ∧ OccupancySettled s u.otSettle :=
  ⟨State.otSettle_names hg, State.otSettle_settled hg⟩

/-! ### The vacancy timer's length (R99) -/

theorem State.vacancyMinutes_eq (s : State) (i : Seg) :
    s.vacancyMinutes i = if (s.ot.segs.get i).covered = true
      then ((s.bt.table.find? fun e => isActive e && segHas (entrySegs e) i).map fun e =>
        sessionDelayOf s.comm e.fix.kind).getD s.suite.vacancyDelay
      else s.suite.vacancyDelay := by
  unfold State.vacancyMinutes
  cases s.bt.table.find? fun e => isActive e && segHas (entrySegs e) i <;> rfl

theorem vacancyTimer_eq (minutes : Nat) : vacancyTimer minutes = ⟨minutes, 1200 * minutes⟩ := by
  have seconds : Config.seconds (60 * minutes) = 1200 * minutes := by
    unfold Config.seconds Config.ticksPerSecond
    omega
  unfold vacancyTimer
  rw [seconds]

/-! ### A vacancy ends overruns (R45) -/

/-- A sweep from which every entry concerned leaves. -/
theorem State.sweptWhere_leaves (s : State) (p : Entry → Bool) (notices : Entry → List Notice)
    (reports : Entry → List Instr) :
    s.sweptWhere p (fun e => .leaves (notices e) (reports e)) =
      { s with
        bt := { s.bt with
          table := s.bt.table.filter fun e => !p e
          stored := if (s.bt.table.filter p).isEmpty then s.bt.stored
            else (s.bt.table.filter fun e => !p e).map (·.fix) }
        nq := (s.notifyAll ((s.bt.table.filter p).flatMap notices)).nq
        reports := s.reports ++ (s.bt.table.filter p).flatMap reports } := by
  have table : (s.bt.table.filterMap fun y => if p y = true then none else some y) =
      s.bt.table.filter fun e => !p e := by
    rw [← List.filterMap_eq_filter]
    exact List.filterMap_congr fun y _ => by by_cases h : p y = true <;> simp [h, Option.guard]
  have gone : ((s.bt.table.filter p).any fun _ => true) = !(s.bt.table.filter p).isEmpty := by
    cases s.bt.table.filter p <;> rfl
  unfold State.sweptWhere State.moved Turn.leaves
  simp only [Option.isNone_none, gone, table, foldl_id]
  cases (s.bt.table.filter p).isEmpty <;> rfl

theorem State.takeVacancy_eq {s : State} (hu : s.UniqueRefs) (i : Seg) :
    s.takeVacancy i = s.sweptWhere
      (fun e => e.vol.state == .overrun && segHas (entrySegs e) i && !s.entryObserved e)
      fun e => .leaves [.sessionEnded (endedFields e s.now .schedule)] (s.endReports e) := by
  refine State.forEntries_sweptWhere (P := s.Ground) (.refl s) hu (fun u e h => h.turn e _) (fun u e h _ _ => ?_)
    fun e x hx => nomatch hx
  have observed : u.entryObserved e = s.entryObserved e := by rw [h]; rfl
  have now : u.now = s.now := by rw [h]; rfl
  have ends : u.endReports e = s.endReports e := by rw [h]; rfl
  rw [observed, State.endSession_turn, now, ends]

/-- Settles O54: each of OT's own events sets one segment and derives the groups anew; BT's sweep at a vacancy. -/
theorem occupancyFollowsPresenceAndTimers : Obligations.OccupancyFollowsPresenceAndTimers := by
  intro s i ha ho o derived inSession covering length
  have kinds : (fun e : Entry => sessionDelayOf s.comm e.fix.kind) = fun e => inSession e.fix.kind := by
    funext e
    cases e.fix.kind <;> rfl
  have minutes : s.vacancyMinutes i = length := by
    rw [State.vacancyMinutes_eq, kinds]
  have timer : vacancyTimer (s.vacancyMinutes i) = ⟨length, 1200 * length⟩ := by rw [minutes, vacancyTimer_eq]
  refine ⟨rfl, fun hc => ?_, fun hc => ?_, fun running => ?_, fun stopped => ?_, fun source => ?_, fun hu => ?_⟩
  · have act : (s.take (.presenceEvent i)).presence i =
        (((s.take (.presenceEvent i)).setOcc i { o with vacancy := some ⟨length, 1200 * length⟩, restored := false }
          ).markPresence i).otSettle := by
      unfold State.presence
      rw [if_pos (show (s.take _).configured i = true from hc)]
      show (State.markPresence (State.setOcc _ i { o with vacancy := some (vacancyTimer (s.vacancyMinutes i)), restored := false }) i).otSettle = _
      rw [timer]
    exact ⟨_, State.event_makes ha ho act rfl rfl, rfl, rfl, State.otSettle_derived rfl, rfl⟩
  · exact State.event_makes ha ho (if_neg (show ¬ (s.take _).configured i = true by rw [show (s.take _).configured i = s.configured i from rfl, hc]; exact Bool.false_ne_true)) rfl rfl
  · have act : (s.take (.vacancyTimerExpiry i)).vacancyExpiry i = _ :=
      if_pos (show ((s.take (.vacancyTimerExpiry i)).ot.segs.get i).vacancy.isSome = true from running)
    exact ⟨_, State.event_makes ha ho act rfl rfl, rfl,
      State.mem_otSettle_reports (List.mem_append_right _ List.mem_cons_self), State.otSettle_derived rfl, rfl⟩
  · exact State.event_makes ha ho (if_neg (show ¬ o.vacancy.isSome = true by rw [stopped]; exact Bool.false_ne_true)) rfl rfl
  · cases source with
    | none => exact ⟨_, State.event_makes ha ho rfl rfl rfl, rfl, State.otSettle_derived rfl, rfl⟩
    | some j =>
      refine ⟨_, State.event_makes ha ho rfl rfl rfl, ?_, State.otSettle_derived rfl, rfl⟩
      have restored : (o.assumed && o.covered && o.vacancy.isNone) = true ↔
          o.assumed = true ∧ o.covered = true ∧ o.vacancy = none := by
        simp only [Bool.and_eq_true, Option.isNone_iff_eq_none, and_assoc]
      show s.ot.segs.set i (if (o.assumed && o.covered && o.vacancy.isNone) = true then
        { o with assumed := false, vacancy := some (vacancyTimer (s.vacancyMinutes i)), restored := true }
        else { o with assumed := false }) = _
      rw [timer]
      exact congrArg (s.ot.segs.set i) ((if_congr restored rfl rfl).trans (if_neg Bool.false_ne_true).symm)
  · have notices (l : List Entry) : (l.flatMap fun e => [Notice.sessionEnded (endedFields e s.now .schedule)]) =
        l.map fun e => .sessionEnded (endedFields e s.tb.minutes .schedule) := List.map_eq_flatMap.symm
    have act := (State.takeVacancy_eq (s := s.take (.vacancyReport i)) hu i).trans (State.sweptWhere_leaves ..)
    rw [State.notifyAll_nq (s := s) (u := s.take (.vacancyReport i)) rfl rfl,
      show (fun e => [Notice.sessionEnded (endedFields e (s.take (.vacancyReport i)).now .schedule)]) =
        fun e => [.sessionEnded (endedFields e s.now .schedule)] from rfl, notices] at act
    exact State.event_makes ha ho act rfl rfl

end Sys2Proof.Machine

/-! A loop's evaluation and its window step, and the rounds in which every loop takes both. -/

namespace Sys2Proof.Machine

/-! ### Readings of a group (R97, R115, R118) -/

theorem State.okTemps_eq (s : State) (g : Segs) : s.okTemps g = (segList g).filterMap fun i =>
    if s.sensorOk i .temperature then (s.sensor i .temperature).last else none := by
  refine List.filterMap_congr fun i _ => ?_
  show _ = if ((s.si.sensors.get i).temperature.health == .ok) = true then (s.si.sensors.get i).temperature.last else none
  cases (s.si.sensors.get i).temperature.health <;> rfl

theorem State.okCo2_eq (s : State) (g : Segs) : s.okCo2 g = (segList g).filterMap fun i =>
    if s.sensorOk i .co2 then (s.sensor i .co2).last.map Int.toNat else none := by
  refine List.filterMap_congr fun i _ => ?_
  show _ = if ((s.si.sensors.get i).co2.health == .ok) = true then (s.si.sensors.get i).co2.last.map Int.toNat else none
  cases (s.si.sensors.get i).co2.health <;> rfl

theorem meanTemp?_eq (ts : List Int) :
    meanTemp? ts = if ts = [] then none else some ((2 * ts.sum + ts.length) / (2 * ts.length)) := by
  cases ts <;> rfl

theorem co2Trim_eq (limit vent : Nat) (co2 : List Nat) :
    co2Trim limit vent co2 = (co2.max?.map fun worst =>
      if limit - 200 < worst then min vent (vent * (worst - (limit - 200)) / 200) else 0).getD ((vent + 4) / 5) := by
  cases co2 with
  | nil => rfl
  | cons c rest => rw [List.max?_cons']; rfl

theorem coolingError_eq (h : Nat) (e : Option Int) :
    coolingError h e = (e.map fun x => if (h : Int) < x then (x - h).toNat else 0).getD 0 := by
  cases e with
  | none => rfl
  | some x =>
    show (x - (h : Int)).toNat = if (h : Int) < x then (x - h).toNat else 0
    split <;> omega

theorem heatingError_eq (h : Nat) (e : Option Int) :
    heatingError h e = (e.map fun x => if (h : Int) < -x then (-x - h).toNat else 0).getD 0 := by
  cases e with
  | none => rfl
  | some x =>
    show (-x - (h : Int)).toNat = if (h : Int) < -x then (-x - h).toNat else 0
    split <;> omega

theorem errorOf_eq (temp : Option Int) (setpoint : Option Nat) :
    errorOf temp setpoint = temp.bind fun t => setpoint.map fun p => t - (p : Int) := by
  cases temp <;> cases setpoint <;> rfl

/-- AL knows of a walk-in record only by a report for that very set. -/
theorem State.alWalkIn_reported {s : State} {g : Segs} (h : s.alWalkIn g = true) :
    s.al.occ.any (fun o => o.segs == g) = true := by
  unfold State.alWalkIn standingOf at h
  cases hf : s.al.occ.find? fun o => o.segs == g with
  | none => rw [hf] at h; exact nomatch h
  | some o => exact List.any_eq_true.2 ⟨o, List.mem_of_find?_eq_some hf, List.find?_some (p := fun o : OccStanding => o.segs == g) hf⟩

theorem State.activeSetpoint_read (s : State) (l : Loop) : s.activeSetpoint l =
    if l.level = .none then
      (if s.al.occ.any (fun o => o.segs == l.segs) = true ∧ s.alWalkIn l.segs = true
        then (s.walkIn? l.segs).map (·.setpoint) else none)
    else l.governing.bind fun ref => (s.entry? ref).bind (·.vol.liveSetpoint) := by
  have known : (s.al.occ.any (fun o => o.segs == l.segs) = true ∧ s.alWalkIn l.segs = true) ↔ s.alWalkIn l.segs = true :=
    ⟨fun h => h.2, fun h => ⟨State.alWalkIn_reported h, h⟩⟩
  rw [if_congr known rfl rfl]
  unfold State.activeSetpoint
  cases l.level <;> rfl

theorem State.peopleOf_eq (s : State) (l : Loop) :
    s.peopleOf l = ((s.lm.groups.find? fun g => g.segs == l.segs).map (·.people)).getD l.people := by
  unfold State.peopleOf
  cases s.lm.groups.find? fun g => g.segs == l.segs <;> rfl

theorem State.peopleCount_eq (s : State) (l : Loop) : s.peopleCount l = if s.alOccupied l.segs = true
    then (if l.level = .session then s.peopleOf l else s.suite.walkInHeadcount) else 0 := by
  unfold State.peopleCount
  cases l.level <;> rfl

/-! ### The evaluation, mode by mode (R115 to R120, R128) -/

/-- A loop's record with the readings that every evaluation forms. -/
def State.readings (s : State) (l : Loop) : Loop :=
  { l with temp := meanTemp? (s.okTemps l.segs), noTemp := (meanTemp? (s.okTemps l.segs)).isNone
           people := s.peopleOf l, qmin := s.minOf l.segs }

theorem State.evaluate_service {s : State} (h : s.inRun = false) (l : Loop) :
    s.evaluate l = { s.readings l with qd := s.minOf l.segs, qvent := 0, reheat := 0 } := by
  unfold State.evaluate
  rw [h]
  rfl

theorem State.evaluate_parked {s : State} (h : s.inRun = true) {l : Loop} (hm : l.mode = .parked) :
    s.evaluate l = { s.readings l with
      qd := s.minOf l.segs, qvent := 0
      reheat := setbackReheat s.suite.setbackLow l.reheat (meanTemp? (s.okTemps l.segs)) } := by
  obtain ⟨segs, governing, level, people, mode⟩ := l
  obtain rfl : mode = .parked := hm
  unfold State.evaluate
  rw [h]
  rfl

theorem State.gainFactor_eq (s : State) (m : LoopMode) :
    s.gainFactor m = if m = .acquire then s.suite.multiplier else 1 := by
  cases m <;> rfl

theorem State.evaluate_running {s : State} (h : s.inRun = true) {l : Loop} (hm : l.mode ≠ .parked) :
    s.evaluate l = { s.readings l with
      qd := clampNat (s.minOf l.segs) (s.maxOf l.segs)
        (max (s.ventOf l + co2Trim s.suite.co2Limit (s.ventOf l) (s.okCo2 l.segs))
          (s.minOf l.segs + coolingError (s.suite.deadband / 2)
            (errorOf (meanTemp? (s.okTemps l.segs)) (s.activeSetpoint l)) *
            (sumSegs l.segs (fun i => (s.segRec i).coolingGain) * s.gainFactor l.mode)))
      qvent := s.ventOf l
      reheat := min 1000 (heatingError (s.suite.deadband / 2)
        (errorOf (meanTemp? (s.okTemps l.segs)) (s.activeSetpoint l)) *
          (s.suite.heatingGain * s.gainFactor l.mode)) } := by
  obtain ⟨segs, governing, level, people, mode⟩ := l
  unfold State.evaluate
  rw [h]
  cases mode with
  | parked => exact absurd rfl hm
  | acquire => rfl
  | track => rfl

/-! ### The window step (R122 to R124) -/

theorem endAcquireWindow_eq (l : Loop) (figure : Nat) : endAcquireWindow l figure =
    if 8 < figure then { l with windowMinutes := 0, windowWorst := 0, good := 0 }
    else if 1 ≤ l.good then { l with mode := .track, windowMinutes := 0, windowWorst := 0, good := 0 }
    else { l with windowMinutes := 0, windowWorst := 0, good := l.good + 1 } := by
  unfold endAcquireWindow zeroCounts
  by_cases worse : 8 < figure
  · rw [if_pos worse, if_neg (Nat.not_le.2 worse), if_neg (by decide)]
  · rw [if_neg worse, if_pos (Nat.not_lt.1 worse)]
    exact if_congr (by omega) rfl rfl

theorem endTrackWindow_eq (l : Loop) (figure setpoint : Nat) : endTrackWindow l figure setpoint =
    if 15 < figure then
      { l with mode := .acquire, reference := some setpoint, settled := false
               windowMinutes := 0, windowWorst := 0, good := 0 }
    else if l.settled = false ∧ figure ≤ 3 then { l with settled := true, windowMinutes := 0, windowWorst := 0 }
    else if l.settled = true ∧ 6 < figure then { l with settled := false, windowMinutes := 0, windowWorst := 0 }
    else { l with windowMinutes := 0, windowWorst := 0 } := by
  unfold endTrackWindow
  refine if_congr Iff.rfl rfl ?_
  cases hl : l.settled with
  | false => by_cases h : figure ≤ 3 <;> simp [h]
  | true => by_cases h : 6 < figure <;> simp [h]

theorem State.windowStep_parked {s : State} {l : Loop} (h : l.mode = .parked) : s.windowStep l = l := by
  unfold State.windowStep
  rw [h]

theorem State.windowStep_blind {s : State} {l : Loop} (h : l.mode ≠ .parked) (ht : l.noTemp = true) :
    s.windowStep l = { l with settled := false, windowMinutes := 0, windowWorst := 0, good := 0 } := by
  obtain ⟨segs, governing, level, people, mode, settled, reference, windowMinutes, windowWorst, good, temp, noTemp⟩ := l
  obtain rfl : noTemp = true := ht
  unfold State.windowStep
  cases mode with
  | parked => exact absurd rfl h
  | acquire => rfl
  | track => rfl

/-- A loop's record with one more minute in its window. -/
def Loop.grown (l : Loop) (error : Nat) : Loop :=
  { l with windowWorst := max l.windowWorst error, windowMinutes := l.windowMinutes + 1 }

theorem State.windowStep_counts {s : State} {l : Loop} {t : Int} {p : Nat} (h : l.mode ≠ .parked)
    (ht : l.noTemp = false) (temp_eq : l.temp = some t) (hp : s.activeSetpoint l = some p) :
    s.windowStep l =
      let grown := l.grown (t - (p : Int)).natAbs
      if l.mode = .acquire then
        (if l.windowMinutes + 1 < 2 then grown else endAcquireWindow grown grown.windowWorst)
      else if l.windowMinutes + 1 < 8 then grown else endTrackWindow grown grown.windowWorst p := by
  have later {α : Type} (n m : Nat) (a b : α) : (if n ≤ m then a else b) = if m < n then b else a := by
    by_cases h : m < n
    · rw [if_pos h, if_neg (Nat.not_le.2 h)]
    · rw [if_neg h, if_pos (Nat.not_lt.1 h)]
  obtain ⟨segs, governing, level, people, mode, settled, reference, windowMinutes, windowWorst, good, temp, noTemp⟩ := l
  obtain rfl : noTemp = false := ht
  obtain rfl : temp = some t := temp_eq
  unfold State.windowStep
  rw [hp]
  cases mode with
  | parked => exact absurd rfl h
  | acquire => exact later _ _ _ _
  | track => exact later _ _ _ _

theorem State.windowStep_waits {s : State} {l : Loop} (h : l.mode ≠ .parked) (ht : l.noTemp = false)
    (no : l.temp = none ∨ s.activeSetpoint l = none) : s.windowStep l = l := by
  have error : errorOf l.temp (s.activeSetpoint l) = none := by
    rw [errorOf_eq]
    rcases no with no | no <;> rw [no]
    · rfl
    · cases l.temp <;> rfl
  obtain ⟨segs, governing, level, people, mode⟩ := l
  unfold State.windowStep
  rw [ht, error]
  cases mode with
  | parked => exact absurd rfl h
  | acquire => rfl
  | track => rfl

/-! ### A round of every loop (R114, R121, R125) -/

/-- Settles O6: the timer's round, one evaluation and one window step by the mode of the loop, the window's end. -/
theorem loopTimerExpiryEvaluatesAndRestarts : Obligations.LoopTimerExpiryEvaluatesAndRestarts := by
  refine ⟨fun s ha => ⟨fun running => ⟨_, _, congrArg Host.Outcome.next ((State.event_taken ha .loopTimerExpiry _).trans
    (congrArg State.drive (if_pos (show s.al.loopTimer.isSome = true from running)))), rfl, rfl, rfl⟩, fun stopped => ?_⟩,
    fun s l => ?_,
    fun l figure setpoint => ⟨endAcquireWindow_eq l figure, endTrackWindow_eq l figure setpoint⟩⟩
  · refine congrArg Host.Outcome.next ((State.event_taken ha .loopTimerExpiry _).trans (congrArg State.drive (if_neg ?_)))
    show ¬ s.al.loopTimer.isSome = true
    rw [stopped]
    exact Bool.false_ne_true
  · intro segs temps co2 temp setpoint people low high half error cooling heating factor gain heads area vent trim base
    have temp_eq : meanTemp? (s.okTemps l.segs) = temp := by rw [meanTemp?_eq, State.okTemps_eq]
    have setpoint_eq : s.activeSetpoint l = setpoint := s.activeSetpoint_read l
    have base_eq : s.readings l = base := by
      unfold State.readings
      rw [temp_eq, State.peopleOf_eq]
      rfl
    have error_eq : errorOf (meanTemp? (s.okTemps l.segs)) (s.activeSetpoint l) = error := by
      rw [errorOf_eq, temp_eq, setpoint_eq]
    have cool_eq : coolingError (s.suite.deadband / 2) error = cooling := coolingError_eq _ _
    have heat_eq : heatingError (s.suite.deadband / 2) error = heating := heatingError_eq _ _
    have vent_eq : s.ventOf l = vent := by
      unfold State.ventOf
      rw [State.peopleCount_eq, State.peopleOf_eq]
      rfl
    have trim_eq : co2Trim s.suite.co2Limit vent (s.okCo2 l.segs) = trim := by
      rw [co2Trim_eq, State.okCo2_eq]
      show Option.getD (Option.map _ co2.max?) _ = trim
      simp only [trim]
      cases co2.max? <;> rfl
    refine ⟨fun hr => ?_, fun hr hm => ?_, fun hr hm => ?_, State.windowStep_parked, State.windowStep_blind,
      fun t p hm ht temp hp => State.windowStep_counts hm ht temp (setpoint_eq.trans hp), fun hm ht no =>
        State.windowStep_waits hm ht (no.imp id fun k => setpoint_eq.trans k)⟩
    · rw [State.evaluate_service hr, base_eq]
      rfl
    · rw [State.evaluate_parked hr hm, base_eq, temp_eq]
      cases temp <;> rfl
    · rw [State.evaluate_running hr hm, error_eq, base_eq, cool_eq, heat_eq, vent_eq, trim_eq, State.gainFactor_eq]
      rfl

end Sys2Proof.Machine

/-! The minute event: the round of the loops, and what BT's five steps may touch. -/

namespace Sys2Proof.Machine

/-! ### What BT's steps may touch -/

/-- The reports that BT raises in its own steps (R32, R46). -/
def BtReport (c : Instr) : Prop :=
  (∃ ref segs began, c = .entryStateChange ref segs began) ∨ ∃ ref sets, c = .sessionEndOverrides ref sets

/-- BT's own act: its table and image, notices, and its reports behind those that wait. -/
def State.BtActs (s t : State) : Prop :=
  ∃ (table : List Entry) (stored : List Fixed) (notices : List Notice) (more : List Instr),
    t = { s with
      bt := { s.bt with table := table, stored := stored }
      nq := (s.notifyAll notices).nq
      reports := s.reports ++ more } ∧
    ∀ c ∈ more, BtReport c

theorem State.forEntries_cons (s : State) (ref : Nat) (refs : List Nat) (f : Entry → State → State) :
    s.forEntries (ref :: refs) f = ((s.entry? ref).elim s fun e => f e s).forEntries refs f := by
  unfold State.forEntries
  rw [List.foldl_cons]
  cases s.entry? ref <;> rfl

namespace State.BtActs

theorem refl (s : State) : s.BtActs s :=
  ⟨s.bt.table, s.bt.stored, [], [], by rw [List.append_nil]; rfl, fun _ h => nomatch h⟩

theorem trans {s t u : State} (h : s.BtActs t) (k : t.BtActs u) : s.BtActs u := by
  obtain ⟨table, stored, ns, first, rfl, ok⟩ := h
  obtain ⟨table', stored', ns', then_, rfl, ok'⟩ := k
  refine ⟨table', stored', ns ++ ns', first ++ then_, ?_, fun c hc => ?_⟩
  · rw [State.notifyAll_append, ← List.append_assoc, State.notifyAll_nq (s := s.notifyAll ns) (u := { s with
      bt := { s.bt with table := table, stored := stored }, nq := (s.notifyAll ns).nq, reports := s.reports ++ first })
      rfl (by rw [State.notifyAll_frame s ns]) ns']
  · exact (List.mem_append.1 hc).elim (ok c) (ok' c)

theorem ground {s t : State} (h : s.BtActs t) : s.Ground t := by
  obtain ⟨table, stored, ns, more, rfl, -⟩ := h
  rfl

theorem ite {s t u : State} {p : Prop} [Decidable p] (h : p → s.BtActs t) (k : ¬ p → s.BtActs u) :
    s.BtActs (if p then t else u) := by
  split
  · next hp => exact h hp
  · next hp => exact k hp

theorem forEntries {f : Entry → State → State} (h : ∀ e (s : State), s.BtActs (f e s)) :
    ∀ (refs : List Nat) (s : State), s.BtActs (s.forEntries refs f)
  | [], s => refl s
  | ref :: refs, s => by
    rw [State.forEntries_cons]
    refine trans ?_ (forEntries h refs _)
    cases s.entry? ref with
    | none => exact refl s
    | some e => exact h e s

end State.BtActs

theorem State.mapVolatile_acts (s : State) (ref : Nat) (f : Volatile → Volatile) : s.BtActs (s.mapVolatile ref f) :=
  ⟨_, _, [], [], by rw [List.append_nil]; rfl, fun _ h => nomatch h⟩

theorem State.notify_acts (s : State) (n : Notice) : s.BtActs (s.notify n) :=
  ⟨_, _, [n], [], by rw [List.append_nil]; rfl, fun _ h => nomatch h⟩

theorem State.dropEntry_acts (s : State) (ref : Nat) : s.BtActs (s.dropEntry ref) :=
  ⟨_, _, [], [], by rw [List.append_nil]; rfl, fun _ h => nomatch h⟩

theorem State.change_acts (s : State) (ref : Nat) (g : Segs) (began : Bool) :
    s.BtActs (s.raise (.entryStateChange ref g began)) :=
  ⟨s.bt.table, s.bt.stored, [], [.entryStateChange ref g began], rfl,
    fun _ h => .inl ⟨ref, g, began, List.mem_singleton.1 h⟩⟩

theorem State.startSession_acts (s : State) (e : Entry) (cause : StartCause) : s.BtActs (s.startSession e cause) :=
  ((s.mapVolatile_acts _ _).trans (State.notify_acts _ _)).trans (State.change_acts _ _ _ _)

theorem State.endSession_acts (s : State) (e : Entry) (cause : EndCause) : s.BtActs (s.endSession e cause) := by
  refine ⟨_, _, [.sessionEnded (endedFields e s.now cause)], s.endReports e, rfl, fun c h => ?_⟩
  rcases List.mem_cons.1 h with rfl | h
  · exact .inl ⟨_, _, _, rfl⟩
  · exact .inr ⟨_, _, List.mem_singleton.1 h⟩

theorem State.reportRemoval_acts (s : State) (e : Entry) : s.BtActs (s.reportRemoval e) := by
  unfold State.reportRemoval
  split
  · exact .refl s
  · exact s.change_acts _ _ _

theorem State.missEntry_acts (s : State) (e : Entry) (cause : MissedCause) : s.BtActs (s.missEntry e cause) :=
  ((s.notify_acts _).trans (State.dropEntry_acts _ _)).trans (State.reportRemoval_acts _ _)

theorem State.releaseEntry_acts (s : State) (e : Entry) : s.BtActs (s.releaseEntry e) :=
  ((s.notify_acts _).trans (State.dropEntry_acts _ _)).trans (State.reportRemoval_acts _ _)

theorem State.endOthers_acts (s : State) (ref : Nat) (g : Segs) (cause : EndCause) :
    s.BtActs (s.endOthers ref g cause) :=
  .forEntries (fun e s => s.endSession_acts e cause) _ s

theorem State.countEntry_acts (e : Entry) (s : State) : s.BtActs (State.countEntry e s) :=
  .ite (fun _ => (s.mapVolatile_acts _ _).trans (State.endSession_acts _ _ _)) fun _ => s.mapVolatile_acts _ _

theorem State.judgeEnd_acts (e : Entry) (s : State) : s.BtActs (State.judgeEnd e s) :=
  .ite (fun _ => .ite (fun _ => (s.mapVolatile_acts _ _).trans (State.change_acts _ _ _ _)) fun _ => s.endSession_acts _ _)
    fun _ => .refl s

theorem State.judgeNoShow_acts (e : Entry) (s : State) : s.BtActs (State.judgeNoShow e s) := by
  unfold State.judgeNoShow
  split
  · exact .ite (fun _ => s.releaseEntry_acts e) fun _ => .refl s
  · exact .refl s

theorem State.judgeStart_acts (e : Entry) (s : State) : s.BtActs (State.judgeStart e s) :=
  .ite (fun _ => .ite (fun _ => s.missEntry_acts _ _) fun _ => (s.endOthers_acts _ _ _).trans (State.startSession_acts _ _ _))
    fun _ => .refl s

theorem State.judgePrepare_acts (e : Entry) (s : State) : s.BtActs (State.judgePrepare e s) :=
  .ite (fun _ => (s.mapVolatile_acts _ _).trans (State.change_acts _ _ _ _)) fun _ => .refl s

theorem State.btMinute_acts (s : State) : s.BtActs s.btMinute :=
  ((((State.BtActs.forEntries State.countEntry_acts _ s).trans (.forEntries State.judgeEnd_acts _ _)).trans
    (.forEntries State.judgeNoShow_acts _ _)).trans (.forEntries State.judgeStart_acts _ _)).trans
    (.forEntries State.judgePrepare_acts _ _)

/-! ### The round of the loops at the minute (R27, R114) -/

/-- What the minute event makes of the clock and of AL before BT's steps. -/
def State.minuteRound (s : State) : State :=
  ({ s.take .minuteEvent with tb := ⟨min 4294967295 (s.tb.minutes + 1), 0, true, 0, false⟩ } : State).evalAll

theorem State.minuteEvent_taken {s : State} (h : s.tb.valid = true) :
    (s.take .minuteEvent).minuteEvent = if s.inRun = true then s.minuteRound.btMinute else s.minuteRound :=
  if_pos h

theorem settledReports_flatMap (before after : List Loop) :
    settledReports before after = (before.zip after).flatMap fun p =>
      if p.1.settled = false ∧ p.2.settled = true then [.settledReport p.2.segs]
      else if p.1.settled = true ∧ p.2.settled = false then [.lostSettledReport p.2.segs]
      else [] := by
  unfold settledReports
  rw [List.filterMap_eq_flatMap_toList]
  refine List.flatMap_congr fun p _ => ?_
  cases p.1.settled <;> cases p.2.settled <;> rfl

/-- Settles O4: the round, and behind it BT's own acts. -/
theorem minuteEventAdvancesClockAndEvaluates : Obligations.MinuteEventAdvancesClockAndEvaluates := by
  refine fun s ha => ⟨fun hv => ?_, fun hv => ?_⟩
  · intro handed
    have round : s.minuteRound.reports = handed s.minuteRound := by
      show s.reports.erase .minuteEvent ++ _ ++ settledReports _ _ = _
      rw [settledReports_flatMap]
      rfl
    refine ⟨_, congrArg Host.Outcome.next ((State.event_taken ha .minuteEvent _).trans
      (congrArg State.drive (State.minuteEvent_taken hv))), ?_⟩
    by_cases hr : s.inRun = true
    · rw [if_pos hr]
      obtain ⟨table, stored, notices, steps, acts, kinds⟩ := s.minuteRound.btMinute_acts
      rw [acts]
      refine ⟨rfl, rfl, rfl, rfl, rfl, rfl, rfl, rfl, rfl, rfl, rfl, rfl, rfl, rfl, rfl, fun h => ?_,
        fun _ => ⟨steps, ?_, kinds⟩⟩
      · exact absurd hr (Bool.eq_false_iff.1 h)
      · exact congrArg (· ++ steps) round
    · rw [if_neg hr]
      exact ⟨rfl, rfl, rfl, rfl, rfl, rfl, rfl, rfl, rfl, rfl, rfl, rfl, rfl, rfl, rfl, fun _ => ⟨rfl, rfl, round⟩,
        fun h => absurd h hr⟩
  · refine congrArg Host.Outcome.next ((State.event_taken ha .minuteEvent _).trans (congrArg State.drive (if_neg ?_)))
    show ¬ s.tb.valid = true
    rw [hv]
    exact Bool.false_ne_true

end Sys2Proof.Machine

/-! Sweeps that may end sessions on other entries' account: a table treated, the roles that entries play in a start
round, and what such a round leaves. -/

namespace Sys2Proof.Machine

/-! ### A table treated -/

/-- BT's table replaced, the image written with it where entries have left. -/
def State.treated (s : State) (table : List Entry) (notices : List Notice) (reports : List Instr) : State :=
  s.moved table (decide (table.length < s.bt.table.length)) s.bt.rates notices reports

/-- A table that holds some of another's entries, in its order, with their fixed fields. -/
abbrev Thinned (table of : List Entry) : Prop := (table.map (·.fix)).Sublist (of.map (·.fix))

theorem Thinned.length_le {t u : List Entry} (h : Thinned t u) : t.length ≤ u.length := by
  have le := List.Sublist.length_le h
  rwa [List.length_map, List.length_map] at le

theorem thinned_filterMap {g : Entry → Option Entry} {l : List Entry}
    (h : ∀ y ∈ l, ∀ x, g y = some x → x.fix = y.fix) : Thinned (l.filterMap g) l := by
  induction l with
  | nil => exact List.Sublist.slnil
  | cons y rest ih =>
    have tail := ih fun z hz => h z (List.mem_cons_of_mem _ hz)
    cases hg : g y with
    | none =>
      rw [List.filterMap_cons_none hg]
      exact tail.trans (List.sublist_cons_self _ _)
    | some x =>
      rw [List.filterMap_cons_some hg]
      show (x.fix :: _).Sublist (y.fix :: _)
      rw [h y List.mem_cons_self x hg]
      exact tail.cons_cons _

theorem State.treated_treated (s : State) {t1 t2 : List Entry} (n1 n2 : List Notice) (m1 m2 : List Instr)
    (h1 : Thinned t1 s.bt.table) (h2 : Thinned t2 t1) :
    (s.treated t1 n1 m1).treated t2 n2 m2 = s.treated t2 (n1 ++ n2) (m1 ++ m2) := by
  have same (_ : decide (t1.length < s.bt.table.length) = true) (h : decide (t2.length < t1.length) = false) :
      t2.map (·.fix) = t1.map (·.fix) := by
    refine List.Sublist.eq_of_length h2 ?_
    have le := h2.length_le
    have ge := of_decide_eq_false h
    rw [List.length_map, List.length_map]
    omega
  have gone : (decide (t1.length < s.bt.table.length) || decide (t2.length < t1.length)) =
      decide (t2.length < s.bt.table.length) := by
    have le1 := h1.length_le
    have le2 := h2.length_le
    rw [← Bool.decide_or]
    exact decide_eq_decide.2 (by omega)
  unfold State.treated
  rw [← gone]
  exact State.moved_moved s _ _ n1 n2 m1 m2 same

theorem State.treated_self (s : State) : s.treated s.bt.table [] [] = s := by
  unfold State.treated
  rw [decide_eq_false (lt_irrefl _)]
  exact s.moved_self

theorem State.treated_bt (s : State) (table : List Entry) (notices : List Notice) (reports : List Instr) :
    (s.treated table notices reports).bt = { s.bt with
      table := table
      stored := if table.length < s.bt.table.length then table.map (·.fix) else s.bt.stored } := by
  unfold State.treated State.moved
  simp only [decide_eq_true_eq]

theorem State.Ground.treated {s u : State} (h : s.Ground u) (t : List Entry) (ns : List Notice) (rs : List Instr) :
    s.Ground (u.treated t ns rs) := h.trans (State.moved_ground ..)

theorem Thinned.unique {t u : List Entry} (h : Thinned t u) (hu : (u.map (·.fix.ref)).Nodup) :
    (t.map (·.fix.ref)).Nodup := by
  have refs := h.map (·.ref)
  rw [List.map_map, List.map_map] at refs
  exact List.Nodup.sublist refs hu

/-- Where some entry has no fate the table grows shorter, else it keeps its fixed fields. -/
theorem length_filterMap_lt {g : Entry → Option Entry} (l : List Entry) :
    (l.filterMap g).length < l.length ↔ ∃ e ∈ l, g e = none := by
  constructor
  · intro h
    by_contra no
    push Not at no
    refine absurd (List.filterMap_length_eq_length.2 fun a ha => ?_) (Nat.ne_of_lt h)
    exact Option.ne_none_iff_isSome.1 (no a ha)
  · rintro ⟨e, he, hn⟩
    refine lt_of_le_of_ne (List.length_filterMap_le g l) fun h => ?_
    have := List.filterMap_length_eq_length.1 h e he
    rw [hn] at this
    exact nomatch this

theorem State.turn_treated {s : State} {e : Entry} (he : e ∈ s.bt.table) {k : Turn}
    (hr : k.rates = id) : s.turn e k = s.treated (fated s.bt.table e k.fate) k.notices k.reports := by
  have gone : k.fate.isNone = decide ((fated s.bt.table e k.fate).length < s.bt.table.length) := by
    refine Bool.eq_iff_iff.2 (Iff.trans ?_ (decide_eq_true_iff.trans (length_filterMap_lt _)).symm)
    constructor
    · intro h
      exact ⟨e, he, by rw [if_pos rfl]; exact Option.isNone_iff_eq_none.1 h⟩
    · rintro ⟨y, hy, hn⟩
      split at hn
      · exact Option.isNone_iff_eq_none.2 hn
      · exact nomatch hn
  unfold State.turn State.treated
  rw [← gone, hr]
  rfl

theorem State.swept_treated {s : State} {l : List Entry} (hl : ∀ e ∈ l, e ∈ s.bt.table) {k : Entry → Turn}
    (hr : ∀ e, (k e).rates = id) :
    s.swept l k = s.treated (s.bt.table.filterMap fun y => if y ∈ l then (k y).fate else some y)
      (l.flatMap fun e => (k e).notices) (l.flatMap fun e => (k e).reports) := by
  have gone : (l.any fun e => (k e).fate.isNone) =
      decide ((s.bt.table.filterMap fun y => if y ∈ l then (k y).fate else some y).length < s.bt.table.length) := by
    refine Bool.eq_iff_iff.2 (Iff.trans ?_ (decide_eq_true_iff.trans (length_filterMap_lt _)).symm)
    rw [List.any_eq_true]
    constructor
    · rintro ⟨e, he, hn⟩
      exact ⟨e, hl e he, by rw [if_pos he]; exact Option.isNone_iff_eq_none.1 hn⟩
    · rintro ⟨y, hy, hn⟩
      split at hn
      · next hy => exact ⟨y, hy, Option.isNone_iff_eq_none.2 hn⟩
      · exact nomatch hn
  have rates : l.foldl (fun r e => (k e).rates r) s.bt.rates = s.bt.rates := by
    simp only [hr]
    exact foldl_id l _
  unfold State.swept State.treated
  rw [gone, rates]

/-- Every entry takes its turn. -/
theorem State.forEntries_treated {P : State → Prop} {f : Entry → State → State} {k : Entry → Turn} {s : State}
    (hs : P s) (hu : s.UniqueRefs) (hP : ∀ u e, P u → u.UniqueRefs → e ∈ u.bt.table → P (u.turn e (k e)))
    (hf : ∀ u e, P u → u.UniqueRefs → e ∈ u.bt.table → f e u = u.turn e (k e)) (hk : ∀ e, (k e).Of e)
    (hr : ∀ e, (k e).rates = id) :
    s.forEntries s.refs f = s.treated (s.bt.table.filterMap fun y => (k y).fate)
      (s.bt.table.flatMap fun e => (k e).notices) (s.bt.table.flatMap fun e => (k e).reports) := by
  have sweep := State.forEntries_swept hP hf hk s.bt.table s hs hu (fun _ h => h) hu
  rw [State.swept_treated (fun _ h => h) hr, List.filterMap_congr fun y hy => if_pos hy] at sweep
  exact sweep

/-- The entries that a test names take their turns. -/
theorem State.forEntries_where {P : State → Prop} {f : Entry → State → State} {k : Entry → Turn} {s : State}
    (p : Entry → Bool) (hs : P s) (hu : s.UniqueRefs)
    (hP : ∀ u e, P u → u.UniqueRefs → e ∈ u.bt.table → P (u.turn e (k e)))
    (hf : ∀ u e, P u → u.UniqueRefs → e ∈ u.bt.table → f e u = u.turn e (k e)) (hk : ∀ e, (k e).Of e)
    (hr : ∀ e, (k e).rates = id) :
    s.forEntries ((s.bt.table.filter p).map (·.fix.ref)) f =
      s.treated (s.bt.table.filterMap fun y => if p y = true then (k y).fate else some y)
        ((s.bt.table.filter p).flatMap fun e => (k e).notices) ((s.bt.table.filter p).flatMap fun e => (k e).reports) := by
  have listed : ∀ e ∈ s.bt.table.filter p, e ∈ s.bt.table := fun e he => (List.mem_filter.1 he).1
  have sweep := State.forEntries_swept hP hf hk (s.bt.table.filter p) s hs hu listed
    (List.Nodup.sublist (List.filter_sublist.map _) hu)
  rw [State.swept_treated listed hr, List.filterMap_congr fun y hy =>
    if_congr ((List.mem_filter.trans (and_iff_right hy) : y ∈ s.bt.table.filter p ↔ p y = true)) rfl rfl] at sweep
  exact sweep

/-! ### A session begins, others ending first (R38, R53) -/

/-- The entry x yields to e: active, on one of its segments. -/
def yields (e x : Entry) : Bool := isActive x && segsMeet (entrySegs x) (entrySegs e)

theorem State.endOthers_treated {s : State} (hu : s.UniqueRefs) {e : Entry} (he : e ∈ s.bt.table)
    (idle : isActive e = false) :
    s.endOthers e.fix.ref (entrySegs e) .nextBooking = s.treated (s.bt.table.filter fun x => !yields e x)
      ((s.bt.table.filter (yields e)).map fun x => .sessionEnded (endedFields x s.now .nextBooking))
      ((s.bt.table.filter (yields e)).flatMap s.endReports) := by
  have same : (s.bt.table.filter fun x => isActive x && x.fix.ref != e.fix.ref && segsMeet (entrySegs x) (entrySegs e)) =
      s.bt.table.filter (yields e) := by
    refine List.filter_congr fun x hx => ?_
    by_cases h : x.fix.ref = e.fix.ref
    · have := eq_of_ref hu hx he h
      subst this
      simp [yields, idle]
    · rw [bne_iff_ne.2 h, Bool.and_true]
      rfl
  have sweep := State.forEntries_where (P := s.Ground) (f := fun e s => s.endSession e .nextBooking)
    (k := fun x => .leaves [.sessionEnded (endedFields x s.now .nextBooking)] (s.endReports x)) (yields e) (.refl s) hu
    (fun u x h _ _ => h.turn x _) (fun u x h _ _ => by
      have now : u.now = s.now := by rw [h]; rfl
      have ends : u.endReports x = s.endReports x := by rw [h]; rfl
      rw [State.endSession_turn, now, ends]) (fun x y hy => nomatch hy) (fun _ => rfl)
  unfold State.endOthers
  rw [same, sweep]
  have table : (s.bt.table.filterMap fun y => if yields e y = true then none else some y) =
      s.bt.table.filter fun x => !yields e x := by
    rw [← List.filterMap_eq_filter]
    exact List.filterMap_congr fun y _ => by by_cases h : yields e y = true <;> simp [h, Option.guard]
  unfold Turn.leaves
  rw [table, List.map_eq_flatMap]

/-- The entry in session as a start with the cause given makes it (R39). -/
def State.begunBy (s : State) (cause : StartCause) (e : Entry) : Entry :=
  { e with vol := begunVolatile s.comm e.fix s.now cause (cause == .panel || s.entryObserved e) e.vol }

/-- The table once e has begun its session. -/
def State.tableBegun (s : State) (cause : StartCause) (e : Entry) (table : List Entry) : List Entry :=
  table.filterMap fun y => if y.fix.ref = e.fix.ref then some (s.begunBy cause e)
    else if yields e y = true then none else some y

theorem State.begins_treated {s : State} (hu : s.UniqueRefs) {e : Entry} (he : e ∈ s.bt.table)
    (idle : isActive e = false) (cause : StartCause) :
    (s.endOthers e.fix.ref (entrySegs e) .nextBooking).startSession e cause =
      s.treated (s.tableBegun cause e s.bt.table)
        ((s.bt.table.filter (yields e)).map (fun x => .sessionEnded (endedFields x s.now .nextBooking)) ++
          [.sessionStarted (startedFields e.fix s.now cause)])
        ((s.bt.table.filter (yields e)).flatMap s.endReports ++ [.entryStateChange e.fix.ref (entrySegs e) true]) := by
  have stays : (!yields e e) = true := by simp [yields, idle]
  have kept : Thinned (s.bt.table.filter fun x => !yields e x) s.bt.table := List.filter_sublist.map _
  rw [State.endOthers_treated hu he idle]
  have uniq := kept.unique hu
  rw [State.startSession_turn (s := s.treated _ _ _) uniq (List.mem_filter.2 ⟨he, stays⟩),
    State.turn_treated (s := s.treated _ _ _) (List.mem_filter.2 ⟨he, stays⟩) rfl]
  have table : fated (s.bt.table.filter fun x => !yields e x) e (some (s.begunBy cause e)) =
      s.tableBegun cause e s.bt.table := by
    unfold fated State.tableBegun
    rw [← List.filterMap_eq_filter, List.filterMap_filterMap]
    refine List.filterMap_congr fun y hy => ?_
    by_cases same : y.fix.ref = e.fix.ref
    · obtain rfl := eq_of_ref hu hy he same
      simp [Option.guard, stays]
    · by_cases h : yields e y = true <;> simp [Option.guard, h, same]
  refine (State.treated_treated s _ _ _ _ kept (thinned_filterMap fun y hy x h => ?_)).trans ?_
  · split at h
    · next same =>
      cases h
      exact (congrArg Entry.fix (eq_of_ref hu (List.mem_filter.1 hy).1 he same)).symm
    · cases h
      rfl
  · exact congrArg (fun t => s.treated t _ _) table

/-! ### Roles in a round -/

/-- What a round makes of an entry: nothing, its removal, or its start. -/
inductive Role
  | still
  | leaves (notices : List Notice) (reports : List Instr)
  | starts

/-- One entry's role played. -/
def State.played (s : State) (cause : StartCause) (e : Entry) : Role → State
  | .still => s
  | .leaves notices reports => s.turn e (.leaves notices reports)
  | .starts => (s.endOthers e.fix.ref (entrySegs e) .nextBooking).startSession e cause

/-- The treatment f gives every entry its role, and only entries that are not active start. -/
structure State.Casts (s : State) (cause : StartCause) (f : Entry → State → State) (role : Entry → Role) : Prop where
  plays : ∀ u e, s.Ground u → u.UniqueRefs → e ∈ u.bt.table → f e u = u.played cause e (role e)
  idle : ∀ e, role e = .starts → isActive e = false

/-- The table once e has played its role. -/
def State.tablePlayed (s : State) (cause : StartCause) (e : Entry) (table : List Entry) : Role → List Entry
  | .still => table
  | .leaves _ _ => fated table e none
  | .starts => s.tableBegun cause e table

theorem State.Ground.begunBy {s u : State} (h : s.Ground u) (cause : StartCause) (e : Entry) :
    u.begunBy cause e = s.begunBy cause e := by
  rw [h]
  rfl

theorem State.Ground.tablePlayed {s u : State} (h : s.Ground u) (cause : StartCause) (e : Entry) (t : List Entry)
    (r : Role) : u.tablePlayed cause e t r = s.tablePlayed cause e t r := by
  rw [h]
  rfl

theorem State.played_table {s : State} (hu : s.UniqueRefs) {e : Entry} (he : e ∈ s.bt.table) (cause : StartCause)
    {r : Role} (idle : r = .starts → isActive e = false) :
    (s.played cause e r).bt.table = s.tablePlayed cause e s.bt.table r := by
  cases r with
  | still => rfl
  | leaves notices reports => rfl
  | starts => exact congrArg (fun u : State => u.bt.table) (State.begins_treated hu he (idle rfl) cause)

theorem State.tableBegun_fix {s : State} (cause : StartCause) {e : Entry} {table : List Entry}
    (hu : (table.map (·.fix.ref)).Nodup) (he : e ∈ table) : Thinned (s.tableBegun cause e table) table := by
  refine thinned_filterMap fun y hy x h => ?_
  split at h
  · next same =>
    cases h
    exact (congrArg Entry.fix (eq_of_ref hu hy he same)).symm
  · split at h
    · exact nomatch h
    · cases h
      rfl

theorem State.tablePlayed_fix {s : State} (cause : StartCause) {e : Entry} {table : List Entry}
    (hu : (table.map (·.fix.ref)).Nodup) (he : e ∈ table) (r : Role) :
    Thinned (s.tablePlayed cause e table r) table := by
  cases r with
  | still => exact List.Sublist.refl _
  | leaves notices reports =>
    exact thinned_filterMap fun y _ x h => by
      split at h
      · exact nomatch h
      · cases h
        rfl
  | starts => exact State.tableBegun_fix cause hu he

theorem State.played_ground (s : State) (cause : StartCause) (e : Entry) (r : Role) : s.Ground (s.played cause e r) := by
  cases r with
  | still => exact .refl s
  | leaves notices reports => exact (State.Ground.refl s).turn e _
  | starts => exact ((s.endOthers_acts _ _ _).trans (State.startSession_acts _ _ _)).ground

theorem State.mem_tablePlayed {s : State} {cause : StartCause} {e y : Entry} {table : List Entry} {r : Role}
    (h : y ∈ s.tablePlayed cause e table r) :
    (y ∈ table ∧ (y.fix.ref = e.fix.ref → r = .still)) ∨ (r = .starts ∧ y = s.begunBy cause e) := by
  cases r with
  | still => exact .inl ⟨h, fun _ => rfl⟩
  | leaves notices reports =>
    obtain ⟨x, hx, h⟩ := List.mem_filterMap.1 h
    split at h
    · exact nomatch h
    · next other =>
      cases h
      exact .inl ⟨hx, fun h => absurd h other⟩
  | starts =>
    obtain ⟨x, hx, h⟩ := List.mem_filterMap.1 h
    split at h
    · exact .inr ⟨rfl, (Option.some.inj h).symm⟩
    · next other =>
      split at h
      · exact nomatch h
      · cases h
        exact .inl ⟨hx, fun h => absurd h other⟩

theorem State.mem_tablePlayed_of {s : State} {cause : StartCause} {e y : Entry} {table : List Entry} {r : Role}
    (hy : y ∈ table) (other : r ≠ .still → y.fix.ref ≠ e.fix.ref) (apart : r = .starts → yields e y = false) :
    y ∈ s.tablePlayed cause e table r := by
  cases r with
  | still => exact hy
  | leaves notices reports => exact List.mem_filterMap.2 ⟨y, hy, if_neg (other (fun h => nomatch h))⟩
  | starts =>
    refine List.mem_filterMap.2 ⟨y, hy, ?_⟩
    rw [if_neg (other (fun h => nomatch h)), apart rfl]
    rfl

theorem State.begunBy_active (s : State) (cause : StartCause) (e : Entry) : isActive (s.begunBy cause e) = true := rfl

/-- The entries that a round leaves: those whose role is to stay, and those that have begun. -/
theorem State.round_leaves {s : State} {cause : StartCause} {f : Entry → State → State} {role : Entry → Role}
    (casts : s.Casts cause f role) :
    ∀ (refs : List Nat) (u : State), s.Ground u → u.UniqueRefs → refs.Nodup →
      ∀ y ∈ (u.forEntries refs f).bt.table,
        (y ∈ u.bt.table ∧ (y.fix.ref ∈ refs → role y = .still)) ∨
        ∃ x ∈ u.bt.table, role x = .starts ∧ y = s.begunBy cause x
  | [], u, _, _, _, y, hy => .inl ⟨hy, fun h => nomatch h⟩
  | ref :: refs, u, hg, hu, hn, y, hy => by
    obtain ⟨fresh, hn⟩ := List.nodup_cons.1 hn
    rw [State.forEntries_cons] at hy
    cases hent : u.entry? ref with
    | none =>
      rw [hent] at hy
      rcases State.round_leaves casts refs u hg hu hn y hy with ⟨hy, still⟩ | begun
      · refine .inl ⟨hy, fun h => ?_⟩
        rcases List.mem_cons.1 h with h | h
        · exact absurd h (State.entry?_none.1 hent y hy)
        · exact still h
      · exact .inr begun
    | some e =>
      obtain ⟨he, href⟩ := State.entry?_mem hent
      rw [hent] at hy
      have played := casts.plays u e hg hu he
      have table := State.played_table hu he cause (casts.idle e)
      rw [hg.tablePlayed] at table
      have thin : Thinned (u.played cause e (role e)).bt.table u.bt.table := by
        rw [table]
        exact State.tablePlayed_fix cause hu he _
      rcases State.round_leaves casts refs _ (hg.trans (u.played_ground cause e (role e))) (thin.unique hu) hn y
        (played ▸ hy) with ⟨hy, still⟩ | ⟨x, hx, starts, rfl⟩
      · rcases State.mem_tablePlayed (table ▸ hy) with ⟨hy, stays⟩ | ⟨starts, begun⟩
        · refine .inl ⟨hy, fun h => ?_⟩
          rcases List.mem_cons.1 h with h | h
          · rw [eq_of_ref hu hy he (h.trans href.symm)]
            exact stays (h.trans href.symm)
          · exact still h
        · exact .inr ⟨e, he, starts, begun⟩
      · rcases State.mem_tablePlayed (table ▸ hx) with ⟨hx, -⟩ | ⟨-, rfl⟩
        · exact .inr ⟨x, hx, starts, rfl⟩
        · exact absurd (casts.idle _ starts) (by rw [State.begunBy_active]; exact Bool.noConfusion)

/-- An entry whose role is to stay does so, unless it gives way to one that starts. -/
theorem State.round_keeps {s : State} {cause : StartCause} {f : Entry → State → State} {role : Entry → Role}
    (casts : s.Casts cause f role) {y : Entry} (still : role y = .still) :
    ∀ (refs : List Nat) (u : State), s.Ground u → u.UniqueRefs → y ∈ u.bt.table →
      (∀ x ∈ u.bt.table, role x = .starts → yields x y = false) → y ∈ (u.forEntries refs f).bt.table
  | [], _, _, _, hy, _ => hy
  | ref :: refs, u, hg, hu, hy, apart => by
    rw [State.forEntries_cons]
    cases hent : u.entry? ref with
    | none => exact State.round_keeps casts still refs u hg hu hy apart
    | some e =>
      obtain ⟨he, -⟩ := State.entry?_mem hent
      have table := State.played_table hu he cause (casts.idle e)
      rw [hg.tablePlayed] at table
      have thin : Thinned (u.played cause e (role e)).bt.table u.bt.table := by
        rw [table]
        exact State.tablePlayed_fix cause hu he _
      rw [Option.elim_some, casts.plays u e hg hu he]
      refine State.round_keeps casts still refs _ (hg.trans (u.played_ground cause e (role e))) (thin.unique hu) ?_
        fun x hx starts => ?_
      · rw [table]
        refine State.mem_tablePlayed_of hy (fun moves same => moves ?_) (apart e he)
        rw [← eq_of_ref hu hy he same]
        exact still
      · rcases State.mem_tablePlayed (table ▸ hx) with ⟨hx, -⟩ | ⟨-, rfl⟩
        · exact apart x hx starts
        · exact absurd (casts.idle _ starts) (by rw [State.begunBy_active]; exact Bool.noConfusion)

end Sys2Proof.Machine

/-! A whole round told exactly: every entry's fate, and the notices and reports role by role; the re-entry evaluation
at a TIME SET. -/

namespace Sys2Proof.Machine

/-! ### Fates in a round -/

def Role.isStart : Role → Bool
  | .starts => true
  | _ => false

theorem Role.isStart_iff {r : Role} : r.isStart = true ↔ r = .starts := by
  cases r <;> simp [Role.isStart]

/-- What its own role makes of an entry. -/
def State.roleFate (s : State) (cause : StartCause) (e : Entry) : Role → Option Entry
  | .still => some e
  | .leaves _ _ => none
  | .starts => some (s.begunBy cause e)

/-- The notices of a role, `given` being the entries that end for it. -/
def State.roleNotices (s : State) (cause : StartCause) (e : Entry) (given : List Entry) : Role → List Notice
  | .still => []
  | .leaves notices _ => notices
  | .starts => given.map (fun x => .sessionEnded (endedFields x s.now .nextBooking)) ++
      [.sessionStarted (startedFields e.fix s.now cause)]

def State.roleReports (s : State) (e : Entry) (given : List Entry) : Role → List Instr
  | .still => []
  | .leaves _ reports => reports
  | .starts => given.flatMap s.endReports ++ [.entryStateChange e.fix.ref (entrySegs e) true]

/-- The first of a list to start on a segment of an active entry y. -/
def firstStarter (role : Entry → Role) (l : List Entry) (y : Entry) : Option Entry :=
  l.find? fun x => (role x).isStart && yields x y

/-- The fate of y once the entries listed have played their roles. -/
def State.roundFate (s : State) (cause : StartCause) (role : Entry → Role) (l : List Entry) (y : Entry) : Option Entry :=
  if (firstStarter role l y).isSome = true then none
  else if y ∈ l then s.roleFate cause y (role y) else some y

theorem firstStarter_inactive {role : Entry → Role} {y : Entry} (h : isActive y = false) (l : List Entry) :
    firstStarter role l y = none := by
  refine List.find?_eq_none.2 fun x _ => ?_
  unfold yields
  rw [h, Bool.false_and, Bool.and_false]
  exact Bool.false_ne_true

theorem firstStarter_cons_other {role : Entry → Role} {e y : Entry} (h : ((role e).isStart && yields e y) = false)
    (l : List Entry) : firstStarter role (e :: l) y = firstStarter role l y :=
  List.find?_cons_of_neg (by rw [h]; exact Bool.false_ne_true)

theorem firstStarter_cons_self {role : Entry → Role} {e y : Entry} (h : ((role e).isStart && yields e y) = true)
    (l : List Entry) : firstStarter role (e :: l) y = some e := List.find?_cons_of_pos h

/-- What one role makes of each entry of the table. -/
def State.playedFate (s : State) (cause : StartCause) (e : Entry) (r : Role) (y : Entry) : Option Entry :=
  if y.fix.ref = e.fix.ref then s.roleFate cause e r
  else if (r.isStart && yields e y) = true then none else some y

theorem State.tablePlayed_fates (s : State) (cause : StartCause) {e : Entry} {table : List Entry}
    (hu : (table.map (·.fix.ref)).Nodup) (he : e ∈ table) (r : Role) :
    s.tablePlayed cause e table r = table.filterMap (s.playedFate cause e r) := by
  cases r with
  | still =>
    exact (fated_self hu he).symm
  | leaves notices reports => rfl
  | starts => rfl

/-! ### One round -/

/-- The entries listed stand in the table as far as they have a role; those that are active have none, and no two of
those that start share a segment. -/
structure Ready (role : Entry → Role) (table l : List Entry) : Prop where
  fresh : (l.map (·.fix.ref)).Nodup
  stands : ∀ x ∈ l, role x ≠ .still → x ∈ table
  same : ∀ x ∈ l, ∀ y ∈ table, y.fix.ref = x.fix.ref → y = x
  idle : ∀ x ∈ l, role x ≠ .still → isActive x = false
  apart : l.Pairwise fun a b => role a = .starts → role b = .starts → segsMeet (entrySegs a) (entrySegs b) = false

/-- No other gives an entry just begun its end. -/
theorem Ready.begun_stays {role : Entry → Role} {table l : List Entry} {e : Entry} (ready : Ready role table (e :: l))
    (s : State) (cause : StartCause) (hr : role e = .starts) : firstStarter role l (s.begunBy cause e) = none := by
  refine List.find?_eq_none.2 fun x hx => ?_
  rw [Bool.and_eq_true]
  rintro ⟨starts, meets⟩
  have apart := (List.pairwise_cons.1 ready.apart).1 x hx hr (Role.isStart_iff.1 starts)
  exact absurd (Bool.and_eq_true_iff.1 meets).2 (by
    rw [show segsMeet (entrySegs (s.begunBy cause e)) (entrySegs x) = false from apart]; exact Bool.false_ne_true)

/-- The fate of an entry when the first of the list has played its role and then the others. -/
theorem State.roundFate_cons {s : State} {cause : StartCause} {role : Entry → Role} {table l : List Entry} {e y : Entry}
    (ready : Ready role table (e :: l)) (hy : y ∈ table) :
    (s.playedFate cause e (role e) y).bind (s.roundFate cause role l) = s.roundFate cause role (e :: l) y := by
  have apart_refs : ∀ x ∈ l, x.fix.ref ≠ e.fix.ref := fun x hx h =>
    (List.nodup_cons.1 ready.fresh).1 (List.mem_map.2 ⟨x, hx, h⟩)
  unfold State.playedFate
  by_cases same : y.fix.ref = e.fix.ref
  · obtain rfl := ready.same e List.mem_cons_self y hy same
    have none_of (idle : isActive y = false) : s.roundFate cause role (y :: l) y = s.roleFate cause y (role y) := by
      unfold State.roundFate
      rw [firstStarter_inactive idle, Option.isSome_none, if_neg Bool.false_ne_true, if_pos List.mem_cons_self]
    have idle (h : role y ≠ .still) := ready.idle y List.mem_cons_self h
    rw [if_pos rfl]
    cases hr : role y with
    | still =>
      have other := firstStarter_cons_other (role := role) (e := y) (y := y) (by rw [hr]; rfl) l
      show s.roundFate cause role l y = _
      unfold State.roundFate
      rw [other, if_pos (List.mem_cons_self (a := y)), hr]
      split
      · rfl
      · split <;> rfl
    | leaves notices reports =>
      rw [none_of (idle (by rw [hr]; exact Role.noConfusion)), hr]
      rfl
    | starts =>
      rw [none_of (idle (by rw [hr]; exact Role.noConfusion)), hr]
      have fresh : s.begunBy cause y ∉ l := fun h => apart_refs _ h rfl
      show s.roundFate cause role l (s.begunBy cause y) = some (s.begunBy cause y)
      unfold State.roundFate
      rw [ready.begun_stays s cause hr, Option.isSome_none, if_neg Bool.false_ne_true, if_neg fresh]
  · have listed : y ∈ e :: l ↔ y ∈ l := by
      rw [List.mem_cons]
      exact or_iff_right fun h => same (h ▸ rfl)
    rw [if_neg same]
    by_cases yielding : ((role e).isStart && yields e y) = true
    · unfold State.roundFate
      rw [if_pos yielding, firstStarter_cons_self yielding]
      rfl
    · rw [if_neg yielding]
      show s.roundFate cause role l y = _
      unfold State.roundFate
      rw [firstStarter_cons_other (Bool.eq_false_iff.2 yielding), if_congr listed rfl rfl]

/-- The entries that end for x, told before or after the first of the list has played its role. -/
theorem State.given_cons {s : State} {cause : StartCause} {role : Entry → Role} {table l : List Entry} {e x : Entry}
    (ready : Ready role table (e :: l)) (hx : x ∈ l) :
    (table.filterMap (s.playedFate cause e (role e))).filter (fun y => firstStarter role l y == some x) =
      table.filter fun y => firstStarter role (e :: l) y == some x := by
  have ne : x ≠ e := fun h => (List.nodup_cons.1 ready.fresh).1 (List.mem_map.2 ⟨x, hx, by rw [h]⟩)
  rw [List.filter_filterMap, ← List.filterMap_eq_filter]
  refine List.filterMap_congr fun y hy => ?_
  have none_ne : (none == some x) = false := rfl
  unfold State.playedFate
  by_cases same : y.fix.ref = e.fix.ref
  · obtain rfl := ready.same e List.mem_cons_self y hy same
    have idle (h : role y ≠ .still) := ready.idle y List.mem_cons_self h
    rw [if_pos rfl]
    cases hr : role y with
    | still =>
      have other := firstStarter_cons_other (role := role) (e := y) (y := y) (by rw [hr]; rfl) l
      simp only [other, State.roleFate, Option.filter_some, Option.guard]
    | leaves notices reports =>
      have gone := firstStarter_inactive (role := role) (idle (by rw [hr]; exact Role.noConfusion)) (y :: l)
      simp only [gone, State.roleFate, Option.filter_none, Option.guard, none_ne]
      rfl
    | starts =>
      have gone := firstStarter_inactive (role := role) (idle (by rw [hr]; exact Role.noConfusion)) (y :: l)
      simp only [gone, State.roleFate, Option.filter_some, ready.begun_stays s cause hr, Option.guard, none_ne]
      rfl
  · rw [if_neg same]
    by_cases yielding : ((role e).isStart && yields e y) = true
    · have other : (some e == some x) = false := by simpa using Ne.symm ne
      rw [if_pos yielding]
      simp only [firstStarter_cons_self yielding, Option.filter_none, Option.guard, other]
      rfl
    · rw [if_neg yielding]
      simp only [firstStarter_cons_other (Bool.eq_false_iff.2 yielding), Option.filter_some, Option.guard]

/-- What a round makes of the table, told role by role. -/
def State.rounded (s u : State) (cause : StartCause) (role : Entry → Role) (l : List Entry) : State :=
  u.treated (u.bt.table.filterMap (s.roundFate cause role l))
    (l.flatMap fun x => s.roleNotices cause x (u.bt.table.filter fun y => firstStarter role l y == some x) (role x))
    (l.flatMap fun x => s.roleReports x (u.bt.table.filter fun y => firstStarter role l y == some x) (role x))

theorem Ready.tail {role : Entry → Role} {table l : List Entry} {e : Entry} (ready : Ready role table (e :: l))
    (s : State) (cause : StartCause) :
    Ready role (table.filterMap (s.playedFate cause e (role e))) l := by
  have apart_refs : ∀ x ∈ l, x.fix.ref ≠ e.fix.ref := fun x hx h =>
    (List.nodup_cons.1 ready.fresh).1 (List.mem_map.2 ⟨x, hx, h⟩)
  refine ⟨(List.nodup_cons.1 ready.fresh).2, fun x hx moves => ?_, fun x hx y hy same => ?_,
    fun x hx => ready.idle x (List.mem_cons_of_mem _ hx), (List.pairwise_cons.1 ready.apart).2⟩
  · refine List.mem_filterMap.2 ⟨x, ready.stands x (List.mem_cons_of_mem _ hx) moves, ?_⟩
    have idle := ready.idle x (List.mem_cons_of_mem _ hx) moves
    unfold State.playedFate
    rw [if_neg (apart_refs x hx), if_neg (by rw [yields, idle, Bool.false_and, Bool.and_false]; exact Bool.false_ne_true)]
  · obtain ⟨z, hz, fate⟩ := List.mem_filterMap.1 hy
    unfold State.playedFate at fate
    split at fate
    · have : y.fix.ref = e.fix.ref := by
        cases hr : role e with
        | still => rw [hr] at fate; cases fate; rfl
        | leaves notices reports => rw [hr] at fate; exact nomatch fate
        | starts => rw [hr] at fate; cases fate; rfl
      exact absurd (same.symm.trans this) (apart_refs x hx)
    · split at fate
      · exact nomatch fate
      · cases fate
        exact ready.same x (List.mem_cons_of_mem _ hx) y hz same

/-- One role, as a change of the table with its notices and reports. -/
theorem State.played_treated {s : State} (hu : s.UniqueRefs) {e : Entry} (he : e ∈ s.bt.table) (cause : StartCause)
    {r : Role} (idle : r = .starts → isActive e = false) :
    s.played cause e r = s.treated (s.bt.table.filterMap (s.playedFate cause e r))
      (s.roleNotices cause e (s.bt.table.filter (yields e)) r) (s.roleReports e (s.bt.table.filter (yields e)) r) := by
  rw [← State.tablePlayed_fates s cause hu he]
  cases r with
  | still => exact s.treated_self.symm
  | leaves notices reports => exact State.turn_treated he rfl
  | starts => exact State.begins_treated hu he (idle rfl) cause

theorem State.Ground.playedFate {s u : State} (h : s.Ground u) (cause : StartCause) (e : Entry) (r : Role) :
    u.playedFate cause e r = s.playedFate cause e r := by
  rw [h]
  rfl

theorem State.Ground.roleNotices {s u : State} (h : s.Ground u) (cause : StartCause) (e : Entry) (given : List Entry)
    (r : Role) : u.roleNotices cause e given r = s.roleNotices cause e given r := by
  rw [h]
  rfl

theorem State.Ground.roleReports {s u : State} (h : s.Ground u) (e : Entry) (given : List Entry) (r : Role) :
    u.roleReports e given r = s.roleReports e given r := by
  rw [h]
  rfl

/-- An entry that has left the table plays no role. -/
theorem State.played_gone {s : State} {cause : StartCause} {role : Entry → Role} {e : Entry}
    (stands : role e ≠ .still → e ∈ s.bt.table) (same : ∀ y ∈ s.bt.table, y.fix.ref = e.fix.ref → y = e)
    (h : s.entry? e.fix.ref = none) :
    s = s.treated (s.bt.table.filterMap (s.playedFate cause e (role e)))
      (s.roleNotices cause e (s.bt.table.filter (yields e)) (role e))
      (s.roleReports e (s.bt.table.filter (yields e)) (role e)) := by
  have absent : e ∉ s.bt.table := fun he => State.entry?_none.1 h e he rfl
  have still : role e = .still := not_not.1 fun moves => absent (stands moves)
  have table : s.bt.table.filterMap (s.playedFate cause e (role e)) = s.bt.table := by
    rw [List.filterMap_congr (g := some) fun y hy => ?_, List.filterMap_some]
    unfold State.playedFate
    rw [if_neg fun hr => absent (same y hy hr ▸ hy), still]
    rfl
  rw [table, still]
  exact s.treated_self.symm

/-- Those whose first starter heads the list are those that yield to it. -/
theorem given_head {role : Entry → Role} {table l : List Entry} {e : Entry} (ready : Ready role table (e :: l))
    (hr : role e = .starts) :
    (table.filter fun y => firstStarter role (e :: l) y == some e) = table.filter (yields e) := by
  refine List.filter_congr fun y _ => ?_
  by_cases h : yields e y = true
  · rw [firstStarter_cons_self (by rw [hr]; exact h), h, beq_self_eq_true]
  · rw [firstStarter_cons_other (by rw [Bool.eq_false_iff.2 h, Bool.and_false]), Bool.eq_false_iff.2 h]
    refine beq_eq_false_iff_ne.2 fun found => ?_
    exact (List.nodup_cons.1 ready.fresh).1 (List.mem_map.2 ⟨e, List.mem_of_find?_eq_some found, rfl⟩)

theorem State.roleNotices_head {s : State} {cause : StartCause} {role : Entry → Role} {table l : List Entry} {e : Entry}
    (ready : Ready role table (e :: l)) :
    s.roleNotices cause e (table.filter fun y => firstStarter role (e :: l) y == some e) (role e) =
      s.roleNotices cause e (table.filter (yields e)) (role e) := by
  cases hr : role e with
  | still => rfl
  | leaves notices reports => rfl
  | starts => rw [given_head ready hr]

theorem State.roleReports_head {s : State} {role : Entry → Role} {table l : List Entry} {e : Entry}
    (ready : Ready role table (e :: l)) :
    s.roleReports e (table.filter fun y => firstStarter role (e :: l) y == some e) (role e) =
      s.roleReports e (table.filter (yields e)) (role e) := by
  cases hr : role e with
  | still => rfl
  | leaves notices reports => rfl
  | starts => rw [given_head ready hr]

theorem State.roundFate_fix {s : State} {cause : StartCause} {role : Entry → Role} {l : List Entry} {y x : Entry}
    (h : s.roundFate cause role l y = some x) : x.fix = y.fix := by
  unfold State.roundFate at h
  split at h
  · exact nomatch h
  · split at h
    · cases hr : role y with
      | still => rw [hr] at h; cases h; rfl
      | leaves notices reports => rw [hr] at h; exact nomatch h
      | starts => rw [hr] at h; cases h; rfl
    · cases h
      rfl

theorem State.playedFate_fix {s : State} {cause : StartCause} {e y x : Entry} {r : Role}
    (same : y.fix.ref = e.fix.ref → y = e) (h : s.playedFate cause e r y = some x) : x.fix = y.fix := by
  unfold State.playedFate at h
  split at h
  · next eq =>
    rw [same eq]
    cases r with
    | still => cases h; rfl
    | leaves notices reports => exact nomatch h
    | starts => cases h; rfl
  · split at h
    · exact nomatch h
    · cases h
      rfl

/-- A round over the entries listed gives every entry its fate. -/
theorem State.round_exact {s : State} {cause : StartCause} {f : Entry → State → State} {role : Entry → Role}
    (casts : s.Casts cause f role) :
    ∀ (l : List Entry) (u : State), s.Ground u → u.UniqueRefs → Ready role u.bt.table l →
      u.forEntries (l.map (·.fix.ref)) f = s.rounded u cause role l
  | [], u, _, _, _ => by
    unfold State.rounded
    rw [List.filterMap_congr (f := s.roundFate cause role []) (g := some) fun y _ => rfl, List.filterMap_some]
    exact u.treated_self.symm
  | e :: l, u, hg, hu, ready => by
    have fates : (u.bt.table.filterMap (s.playedFate cause e (role e))).filterMap (s.roundFate cause role l) =
        u.bt.table.filterMap (s.roundFate cause role (e :: l)) := by
      rw [List.filterMap_filterMap]
      exact List.filterMap_congr fun y hy => State.roundFate_cons ready hy
    have same := ready.same e List.mem_cons_self
    have first : ((u.entry? e.fix.ref).elim u fun x => f x u) =
        u.treated (u.bt.table.filterMap (s.playedFate cause e (role e)))
          (s.roleNotices cause e (u.bt.table.filter (yields e)) (role e))
          (s.roleReports e (u.bt.table.filter (yields e)) (role e)) := by
      rw [← hg.playedFate, ← hg.roleNotices, ← hg.roleReports]
      cases hent : u.entry? e.fix.ref with
      | none => exact State.played_gone (ready.stands e List.mem_cons_self) same hent
      | some x =>
        obtain ⟨hx, href⟩ := State.entry?_mem hent
        obtain rfl := same x hx href
        rw [Option.elim_some, casts.plays u x hg hu hx]
        exact State.played_treated hu hx cause (casts.idle x)
    have thin : Thinned (u.bt.table.filterMap (s.playedFate cause e (role e))) u.bt.table :=
      thinned_filterMap fun y hy x h => State.playedFate_fix (same y hy) h
    rw [List.map_cons, State.forEntries_cons, first, State.round_exact casts l _ (hg.treated _ _ _) (thin.unique hu)
      (ready.tail s cause)]
    unfold State.rounded
    rw [List.flatMap_cons, List.flatMap_cons, State.roleNotices_head ready, State.roleReports_head ready, ← fates]
    refine (State.treated_treated u _ _ _ _ thin (thinned_filterMap fun y _ x h => State.roundFate_fix h)).trans ?_
    refine congrArg₂ (fun n m => u.treated _ (_ ++ n) (_ ++ m)) ?_ ?_
    · exact List.flatMap_congr fun x hx => congrArg (fun given => s.roleNotices cause x given (role x)) (State.given_cons ready hx)
    · exact List.flatMap_congr fun x hx => congrArg (fun given => s.roleReports x given (role x)) (State.given_cons ready hx)

theorem yields_self {e : Entry} (h : isActive e = false) : yields e e = false := by
  rw [yields, h, Bool.false_and]

/-- A round over a table of one entry. -/
theorem State.round_lone {s : State} {cause : StartCause} {f : Entry → State → State} {role : Entry → Role} {e : Entry}
    (casts : s.Casts cause f role) (he : s.bt.table = [e]) :
    s.forEntries s.refs f = s.treated (s.roleFate cause e (role e)).toList (s.roleNotices cause e [] (role e))
      (s.roleReports e [] (role e)) := by
  have mem : e ∈ s.bt.table := by rw [he]; exact List.mem_cons_self
  have uniq : s.UniqueRefs := by rw [State.UniqueRefs, he]; exact List.nodup_singleton _
  have played : s.forEntries s.refs f = s.played cause e (role e) := by
    rw [← casts.plays s e (.refl s) uniq mem, State.refs, he]
    show State.forEntries [e.fix.ref] f s = _
    rw [State.forEntries_cons, State.entry?_of_mem uniq mem]
    rfl
  have fate : [e].filterMap (s.playedFate cause e (role e)) = (s.roleFate cause e (role e)).toList := by
    have own : s.playedFate cause e (role e) e = s.roleFate cause e (role e) := if_pos rfl
    cases h : s.roleFate cause e (role e) with
    | none => rw [List.filterMap_cons_none (own.trans h)]; rfl
    | some x => rw [List.filterMap_cons_some (own.trans h)]; rfl
  have given (hr : role e = .starts) : [e].filter (yields e) = [] := by
    rw [List.filter_cons_of_neg (by rw [yields_self (casts.idle e hr)]; exact Bool.false_ne_true)]
    rfl
  rw [played, State.played_treated uniq mem cause (casts.idle e), he, fate]
  cases hr : role e with
  | still => rfl
  | leaves notices reports => rfl
  | starts => rw [given hr]

theorem flatMap_pair {α β : Type} {l : List α} {a b : α} {g : α → List β} (h : l = [a, b] ∨ l = [b, a]) (ha : g a = []) :
    l.flatMap g = g b := by
  rcases h with rfl | rfl
  · rw [List.flatMap_cons, ha, List.flatMap_singleton]
    rfl
  · rw [List.flatMap_cons, List.flatMap_singleton, ha, List.append_nil]

/-- A round over a table of two, of which the active one gives way to the other. -/
theorem State.round_pair {s : State} {cause : StartCause} {f : Entry → State → State} {role : Entry → Role} {a b : Entry}
    (casts : s.Casts cause f role) (hab : s.bt.table = [a, b] ∨ s.bt.table = [b, a]) (refs : a.fix.ref ≠ b.fix.ref)
    (still : role a = .still) (starts : role b = .starts) (way : yields b a = true) :
    s.forEntries s.refs f = s.treated [s.begunBy cause b]
      [.sessionEnded (endedFields a s.now .nextBooking), .sessionStarted (startedFields b.fix s.now cause)]
      (s.endReports a ++ [.entryStateChange b.fix.ref (entrySegs b) true]) := by
  have idle := casts.idle b starts
  have ne : a ≠ b := fun h => refs (by rw [h])
  have uniq : s.UniqueRefs := by
    rw [State.UniqueRefs]
    rcases hab with h | h <;> rw [h] <;> simp [refs, Ne.symm refs]
  have ready : Ready role s.bt.table s.bt.table := by
    refine ⟨uniq, fun x hx _ => hx, fun x hx y hy same => eq_of_ref uniq hy hx same, fun x hx moves => ?_, ?_⟩
    · have : x = a ∨ x = b := by rcases hab with h | h <;> rw [h] at hx <;> simp at hx <;> tauto
      rcases this with rfl | rfl
      · exact absurd still moves
      · exact idle
    · rcases hab with h | h <;> rw [h] <;> simp [still]
  have first (l : List Entry) (h : l = [a, b] ∨ l = [b, a]) : firstStarter role l a = some b := by
    rcases h with rfl | rfl
    · rw [firstStarter_cons_other (by rw [still]; rfl), firstStarter_cons_self (by rw [starts]; exact way)]
    · rw [firstStarter_cons_self (by rw [starts]; exact way)]
  have none_b (l : List Entry) : firstStarter role l b = none := firstStarter_inactive idle l
  have fateA : s.roundFate cause role s.bt.table a = none := by
    unfold State.roundFate
    rw [first _ hab]
    rfl
  have fateB : s.roundFate cause role s.bt.table b = some (s.begunBy cause b) := by
    have mem : b ∈ s.bt.table := by rcases hab with h | h <;> rw [h] <;> simp
    unfold State.roundFate
    rw [none_b, Option.isSome_none, if_neg Bool.false_ne_true, if_pos mem, starts]
    rfl
  have table : s.bt.table.filterMap (s.roundFate cause role s.bt.table) = [s.begunBy cause b] := by
    generalize s.roundFate cause role s.bt.table = g at fateA fateB
    rcases hab with h | h <;> rw [h] <;> simp [fateA, fateB]
  have given : (s.bt.table.filter fun y => firstStarter role s.bt.table y == some b) = [a] := by
    have ha := first _ hab
    have hb := none_b s.bt.table
    generalize firstStarter role s.bt.table = g at ha hb
    rcases hab with h | h <;> rw [h] <;> simp [ha, hb]
  have round := State.round_exact casts s.bt.table s (.refl s) uniq ready
  unfold State.rounded at round
  rw [table, flatMap_pair hab (by rw [still]; rfl), flatMap_pair hab (by rw [still]; rfl), given, starts] at round
  exact round

/-! ### The re-entry evaluation (R52, R53) -/

/-- The role of an entry on a valid clock. -/
def State.reentryRole (s : State) (e : Entry) : Role :=
  if e.fix.stop ≤ s.now then
    if isActive e then .leaves [.sessionEnded (endedFields e s.now .clock)] (s.endReports e)
    else .leaves [.missed e.fix.ref e.fix.kind (entrySegs e) e.fix.start e.fix.stop .timePassed]
      [.entryStateChange e.fix.ref (entrySegs e) false]
  else if e.vol.state == .planned && e.fix.start ≤ s.now then .starts
  else .still

theorem State.missed_turn (s : State) (e : Entry) (cause : MissedCause) :
    ((s.notify (.missed e.fix.ref e.fix.kind (entrySegs e) e.fix.start e.fix.stop cause)).dropEntry e.fix.ref).raise
      (.entryStateChange e.fix.ref (entrySegs e) false) =
    s.turn e (.leaves [.missed e.fix.ref e.fix.kind (entrySegs e) e.fix.start e.fix.stop cause]
      [.entryStateChange e.fix.ref (entrySegs e) false]) := by
  unfold State.turn Turn.leaves
  rw [fated_none]
  rfl

theorem State.Ground.reentryRole {s u : State} (h : s.Ground u) (e : Entry) : u.reentryRole e = s.reentryRole e := by
  rw [h]
  rfl

theorem planned_idle {e : Entry} (h : (e.vol.state == .planned) = true) : isActive e = false := by
  unfold isActive
  rw [beq_iff_eq.1 h]
  rfl

theorem State.reentryRole_starts {s : State} {e : Entry} : s.reentryRole e = .starts ↔
    e.vol.state = .planned ∧ e.fix.start ≤ s.now ∧ s.now < e.fix.stop := by
  unfold State.reentryRole
  by_cases past : e.fix.stop ≤ s.now
  · rw [if_pos past]
    split <;> exact ⟨fun h => (nomatch h), fun h => absurd past (Nat.not_le.2 h.2.2)⟩
  · rw [if_neg past]
    split
    · next h =>
      obtain ⟨planned, begun⟩ := Bool.and_eq_true_iff.1 h
      exact ⟨fun _ => ⟨beq_iff_eq.1 planned, of_decide_eq_true begun, Nat.not_le.1 past⟩, fun _ => rfl⟩
    · next h =>
      refine ⟨fun h => (nomatch h), fun ⟨planned, begun, _⟩ => absurd ?_ h⟩
      rw [planned]
      exact decide_eq_true begun

theorem State.reentryRole_still {s : State} {e : Entry} : s.reentryRole e = .still ↔
    s.now < e.fix.stop ∧ ¬ (e.vol.state = .planned ∧ e.fix.start ≤ s.now) := by
  unfold State.reentryRole
  by_cases past : e.fix.stop ≤ s.now
  · rw [if_pos past]
    split <;> exact ⟨fun h => (nomatch h), fun h => absurd past (Nat.not_le.2 h.1)⟩
  · rw [if_neg past]
    split
    · next h =>
      obtain ⟨planned, begun⟩ := Bool.and_eq_true_iff.1 h
      exact ⟨fun h => (nomatch h), fun h => absurd ⟨beq_iff_eq.1 planned, of_decide_eq_true begun⟩ h.2⟩
    · next h =>
      refine ⟨fun _ => ⟨Nat.not_le.1 past, fun ⟨planned, begun⟩ => h ?_⟩, fun _ => rfl⟩
      rw [planned]
      exact decide_eq_true begun

theorem State.reenterEntry_played (s : State) (e : Entry) :
    State.reenterEntry e s = s.played .resumed e (s.reentryRole e) := by
  unfold State.reenterEntry State.reentryRole
  split
  · split
    · exact s.endSession_turn e .clock
    · exact s.missed_turn e .timePassed
  · split <;> rfl

theorem State.reenter_casts (s : State) : s.Casts .resumed State.reenterEntry s.reentryRole :=
  ⟨fun u e h _ _ => by rw [State.reenterEntry_played, h.reentryRole],
    fun e h => planned_idle (beq_iff_eq.2 (State.reentryRole_starts.1 h).1)⟩

end Sys2Proof.Machine

/-! TIME SET with the re-entry evaluation that it runs (R29, R52, R53). -/

namespace Sys2Proof.Machine

/-- The clock set, the loop timer stopped, the wing port in the state given. -/
def State.timed (s : State) (m sec : Nat) (port : Wp) : State :=
  { s with tb := ⟨m, sec, true, 0, false⟩, al := { s.al with loopTimer := none }, wp := port }

theorem State.applyTime_reenters {s : State} {m : Nat} (sec : Nat) (hr : s.inRun = true)
    (due : s.tb.valid = false ∨ s.tb.minutes ≠ m) : s.applyTime m sec = (s.timed m sec s.wp).reenter := by
  have reentry : ((!s.tb.valid || s.tb.minutes != m) && s.inRun) = true := by
    rcases due with h | h
    · rw [h, hr]; rfl
    · rw [bne_iff_ne.2 h, hr, Bool.or_true]; rfl
  exact if_pos reentry

theorem State.reenterEntry_acts (e : Entry) (s : State) : s.BtActs (State.reenterEntry e s) :=
  .ite (fun _ => .ite (fun _ => s.endSession_acts _ _) fun _ =>
      ((s.notify_acts _).trans (State.dropEntry_acts _ _)).trans (State.change_acts _ _ _ _))
    fun _ => .ite (fun _ => (s.endOthers_acts _ _ _).trans (State.startSession_acts _ _ _)) fun _ => .refl s

theorem State.reenter_acts (s : State) : s.BtActs s.reenter := .forEntries State.reenterEntry_acts _ s

/-- A TIME SET that runs the re-entry evaluation, but for the port and the outputs. -/
theorem timeSet_reenters {s : State} {m sec : Nat} (broadcast : Bool) (hs : s.TakesRequest) (hr : s.inRun = true)
    (hsec : sec ≤ 59) (due : s.tb.valid = false ∨ s.tb.minutes ≠ m) :
    ∃ t port, exec (.timeSet broadcast (.fields (m, sec))) s = .next t ∧
      t = { (s.timed m sec port).reenter with wp := t.wp, os := t.os } ∧
      (broadcast = true → t.wp = { s.wp with rx := .hunt }) ∧
      (broadcast = false → t.wp = (({ s with nq := t.nq } : State).replied 0x01 .ok []).wp) := by
  cases broadcast with
  | true =>
    refine ⟨_, { s.wp with rx := .hunt }, congrArg Host.Outcome.next ((State.broadcastTime_taken hs m sec).trans
      (congrArg State.drive ((if_neg (Nat.not_lt.2 hsec)).trans (State.applyTime_reenters sec hr due)))), rfl, fun _ => ?_,
      (nomatch ·)⟩
    have ground := (State.reenter_acts (s.timed m sec { s.wp with rx := .hunt })).ground
    exact congrArg State.wp ground
  | false =>
    have answer : State.timeSet (m, sec) (s.hold 0x01) = answerOk ((s.hold 0x01).timed m sec (s.hold 0x01).wp).reenter :=
      (if_neg (Nat.not_lt.2 hsec)).trans (congrArg answerOk (State.applyTime_reenters sec hr due))
    have port := congrArg State.wp (State.reenter_acts ((s.hold 0x01).timed m sec (s.hold 0x01).wp)).ground
    refine ⟨_, (s.hold 0x01).wp, congrArg Host.Outcome.next ((State.request_taken hs 0x01 _).trans
      (congrArg (fun x => (putReply 0x01 x).drive) answer)), rfl, (nomatch ·), fun _ => ?_⟩
    generalize ((s.hold 0x01).timed m sec (s.hold 0x01).wp).reenter = r at port
    show ({ r.wp with held := some 0x01, reply := some ⟨0x01, .ok, !r.nq.list.isEmpty, []⟩ } : Wp) = _
    rw [port]
    rfl

/-- Settles O11: the round that the re-entry evaluation is, and its tables of one and of two entries. -/
theorem timeSetReentryLeavesNoPastEntry : Obligations.TimeSetReentryLeavesNoPastEntry := by
  refine ⟨fun s m sec broadcast hs hu hr hsec due => ?_, fun s m sec broadcast hs hr hsec due => ?_⟩
  · intro begins
    obtain ⟨t, port, run, frame, loud, answered⟩ := timeSet_reenters broadcast hs hr hsec due
    have ground := (s.timed m sec port).reenter_acts.ground
    have casts := (s.timed m sec port).reenter_casts
    have left := State.round_leaves casts s.refs _ (.refl _) hu hu
    have kept (y : Entry) (still : (s.timed m sec port).reentryRole y = .still) :=
      State.round_keeps casts still s.refs _ (.refl _) hu
    have table : t.bt.table = ((s.timed m sec port).forEntries s.refs State.reenterEntry).bt.table := by rw [frame]; rfl
    rw [← table] at left kept
    refine ⟨t, run, by rw [frame, ground]; rfl, by rw [frame, ground]; rfl, fun y hy => ?_, fun e he ahead stays alone => ?_,
      loud, answered, by rw [frame, ground]; rfl, by rw [frame, ground]; rfl, by rw [frame, ground]; rfl,
      by rw [frame, ground]; rfl, by rw [frame, ground]; rfl, by rw [frame, ground]; rfl⟩
    · rcases left y hy with ⟨hy, still⟩ | ⟨x, hx, starts, rfl⟩
      · obtain ⟨ahead, stays⟩ := State.reentryRole_still.1 (still (List.mem_map_of_mem hy))
        exact ⟨ahead, fun planned => Nat.not_le.1 fun begun => stays ⟨planned, begun⟩, y, hy, rfl⟩
      · exact ⟨(State.reentryRole_starts.1 starts).2.2, (nomatch ·), x, hx, rfl⟩
    · refine kept e (State.reentryRole_still.2 ⟨ahead, fun ⟨planned, begun⟩ => stays ⟨planned, begun, ahead⟩⟩) he
        fun x hx starts => ?_
      by_cases active : isActive e = true
      · rw [yields, alone active x hx (State.reentryRole_starts.1 starts), Bool.and_false]
      · rw [yields, Bool.eq_false_iff.2 active, Bool.false_and]
  · intro becomes change ends begun started
    obtain ⟨t, port, run, frame, -, -⟩ := timeSet_reenters broadcast hs hr hsec due
    have casts := (s.timed m sec port).reenter_casts
    have reached {table : List Entry} {notices : List Notice} {reports : List Instr}
        (h : (s.timed m sec port).reenter = (s.timed m sec port).treated table notices reports) :
        becomes table notices reports := by
      refine ⟨t, run, ?_, ?_, ?_⟩
      · rw [frame, h]
        exact State.treated_bt (s.timed m sec port) table notices reports
      · rw [frame, h]
        exact State.notifyAll_nq (s := { s with tb := ⟨m, sec, true, 0, false⟩ }) (u := s.timed m sec port) rfl rfl notices
      · rw [frame, h]
        rfl
    refine ⟨fun e he => ⟨fun active past => reached ?_, fun inactive past => reached ?_, fun planned start ahead => reached ?_,
      fun ahead stays => reached ?_⟩, fun a b hab refs active ahead planned start aheadB meets => reached ?_⟩
    · have role : (s.timed m sec port).reentryRole e = _ := (if_pos past).trans (if_pos active)
      refine (State.round_lone casts he).trans ?_
      rw [role]
      rfl
    · have role : (s.timed m sec port).reentryRole e = _ :=
        (if_pos past).trans (if_neg (by rw [inactive]; exact Bool.false_ne_true))
      refine (State.round_lone casts he).trans ?_
      rw [role]
      rfl
    · have role : (s.timed m sec port).reentryRole e = .starts := State.reentryRole_starts.2 ⟨planned, start, ahead⟩
      refine (State.round_lone casts he).trans ?_
      rw [role]
      rfl
    · have role : (s.timed m sec port).reentryRole e = .still := State.reentryRole_still.2 ⟨ahead, fun ⟨planned, start⟩ =>
        stays.elim (fun h => h planned) fun h => absurd start (Nat.not_le.2 h)⟩
      refine (State.round_lone casts he).trans ?_
      rw [role]
      rfl
    · have still : (s.timed m sec port).reentryRole a = .still := State.reentryRole_still.2 ⟨ahead, fun ⟨idle, _⟩ =>
        absurd active (by rw [planned_idle (beq_iff_eq.2 idle)]; exact Bool.false_ne_true)⟩
      have starts : (s.timed m sec port).reentryRole b = .starts := State.reentryRole_starts.2 ⟨planned, start, aheadB⟩
      refine (State.round_pair casts hab refs still starts (by rw [yields, active, meets]; rfl)).trans ?_
      rfl

end Sys2Proof.Machine

/-! BT's five steps at the minute event, each as turns of the table's entries (R50). -/

namespace Sys2Proof.Machine

/-! ### Step 1: counting and the overrun limit (R49) -/

/-- The volatile fields of an active entry once its minute is counted. -/
def State.counted (s : State) (e : Entry) : Volatile :=
  { e.vol with
    occupiedMinutes := if s.entryObserved e then some (min 65535 (e.vol.occupiedMinutes.getD 0 + 1))
      else e.vol.occupiedMinutes
    overrunMinutes := if e.vol.state = .overrun then some (e.vol.overrunMinutes.getD 0 + 1) else e.vol.overrunMinutes }

/-- The entry is in its 120th overrun minute. -/
def overLimit (e : Entry) : Bool := e.vol.state == .overrun && decide (119 ≤ e.vol.overrunMinutes.getD 0)

def State.countTurn (s : State) (e : Entry) : Turn :=
  if overLimit e then .leaves [.sessionEnded (endedFields ⟨e.fix, s.counted e⟩ s.now .overrunLimit)] (s.endReports e)
  else .becomes e (s.counted e) [] []

theorem fated_fated (table : List Entry) {e : Entry} {v : Volatile} (x : Option Entry) :
    fated (fated table e (some ⟨e.fix, v⟩)) e x = fated table e x := by
  unfold fated
  rw [List.filterMap_filterMap]
  refine List.filterMap_congr fun y _ => ?_
  by_cases h : y.fix.ref = e.fix.ref
  · rw [if_pos h, if_pos h]
    exact if_pos rfl
  · rw [if_neg h, if_neg h]
    exact if_neg h

/-- An entry changed and then gone is gone. -/
theorem State.becomes_leaves (s : State) (e : Entry) (v : Volatile) (notices : List Notice) (reports : List Instr) :
    (s.turn e (.becomes e v [] [])).turn ⟨e.fix, v⟩ (.leaves notices reports) = s.turn e (.leaves notices reports) := by
  refine (State.moved_moved (g1 := false) s _ _ _ _ _ _ (nomatch ·)).trans ?_
  show s.moved (fated (fated s.bt.table e (some ⟨e.fix, v⟩)) e none) _ _ _ _ = _
  rw [fated_fated]
  rfl

theorem State.countEntry_turn {s : State} (hu : s.UniqueRefs) {e : Entry} (he : e ∈ s.bt.table) :
    State.countEntry e s = s.turn e (s.countTurn e) := by
  have counts : (if e.vol.state == .overrun then some (e.vol.overrunMinutes.getD 0 + 1) else e.vol.overrunMinutes) =
      (s.counted e).overrunMinutes := if_congr beq_iff_eq rfl rfl
  have limit : (e.vol.state == .overrun && decide (120 ≤ e.vol.overrunMinutes.getD 0 + 1)) = overLimit e := by
    unfold overLimit
    rw [decide_eq_decide.2 (by omega : 120 ≤ e.vol.overrunMinutes.getD 0 + 1 ↔ 119 ≤ e.vol.overrunMinutes.getD 0)]
  unfold State.countEntry State.countTurn
  simp only [counts, limit]
  have counted := State.mapVolatile_turn hu he fun _ => s.counted e
  by_cases h : overLimit e = true
  · rw [if_pos h, if_pos h]
    refine (congrArg (fun u => State.endSession u ⟨e.fix, s.counted e⟩ .overrunLimit) counted).trans ?_
    rw [State.endSession_turn]
    exact State.becomes_leaves s e (s.counted e) _ _
  · rw [if_neg h, if_neg h]
    exact counted

/-! ### Step 2: the judgement at the booked end (R44) -/

theorem State.changed_turn {s : State} (hu : s.UniqueRefs) {e : Entry} (he : e ∈ s.bt.table) (f : Volatile → Volatile)
    (report : Instr) : (s.mapVolatile e.fix.ref f).raise report = s.turn e (.becomes e (f e.vol) [] [report]) := by
  unfold State.turn Turn.becomes
  rw [← fated_mapVolatile hu he f]
  rfl

/-- The session runs into overrun. -/
def overrunning (v : Volatile) : Volatile := { v with state := .overrun, overrunMinutes := some (v.overrunMinutes.getD 0) }

def State.endTurn (s : State) (e : Entry) : Turn :=
  if e.vol.state == .inSession && e.fix.stop ≤ s.now then
    if s.entryObserved e then .becomes e (overrunning e.vol) [] [.entryStateChange e.fix.ref (entrySegs e) false]
    else .leaves [.sessionEnded (endedFields e s.now .schedule)] (s.endReports e)
  else .still e

theorem State.judgeEnd_turn {s : State} (hu : s.UniqueRefs) {e : Entry} (he : e ∈ s.bt.table) :
    State.judgeEnd e s = s.turn e (s.endTurn e) := by
  unfold State.judgeEnd State.endTurn
  split
  · split
    · exact State.changed_turn hu he overrunning _
    · exact s.endSession_turn e .schedule
  · exact (State.turn_still hu he).symm

/-! ### Step 3: the no-show release (R43) -/

/-- Nobody has come within the no-show wait, as far as the sensors tell. -/
def State.absent (s : State) (e : Entry) : Bool :=
  !e.fix.exempt && e.vol.presence == some false
    && (noShowWait? s.comm e.fix.kind).any (fun w => decide (e.vol.actualStart.getD 0 + w ≤ s.now))
    && (segList (entrySegs e)).any (fun i => (s.si.presenceSource.get i).isSome)

def releasedNotice (e : Entry) : Notice :=
  .released (startedFields e.fix (e.vol.actualStart.getD 0) (e.vol.startCause.getD .schedule))

def State.releaseTurn (s : State) (e : Entry) : Turn :=
  if e.vol.state == .inSession && s.absent e then
    .leaves [releasedNotice e] [.entryStateChange e.fix.ref (entrySegs e) false]
  else .still e

theorem State.releaseEntry_turn (s : State) {e : Entry} (h : e.vol.state = .inSession) :
    s.releaseEntry e = s.turn e (.leaves [releasedNotice e] [.entryStateChange e.fix.ref (entrySegs e) false]) := by
  unfold State.releaseEntry State.reportRemoval State.turn Turn.leaves
  rw [fated_none, h]
  rfl

theorem State.judgeNoShow_turn {s : State} (hu : s.UniqueRefs) {e : Entry} (he : e ∈ s.bt.table) :
    State.judgeNoShow e s = s.turn e (s.releaseTurn e) := by
  have judged : State.judgeNoShow e s =
      if (e.vol.state == .inSession && s.absent e) = true then s.releaseEntry e else s := by
    unfold State.judgeNoShow State.absent
    cases noShowWait? s.comm e.fix.kind with
    | none => simp
    | some wait => simp only [Option.any_some, Bool.and_assoc]
  rw [judged]
  unfold State.releaseTurn
  split
  · next h => exact s.releaseEntry_turn (beq_iff_eq.1 (Bool.and_eq_true_iff.1 h).1)
  · exact (State.turn_still hu he).symm

/-! ### Step 4: the starts (R38) -/

def State.startRole (s : State) (e : Entry) : Role :=
  if !isActive e && e.fix.start ≤ s.now then
    if e.fix.stop ≤ s.now then
      .leaves [.missed e.fix.ref e.fix.kind (entrySegs e) e.fix.start e.fix.stop .timePassed]
        (if e.vol.state = .planned then [] else [.entryStateChange e.fix.ref (entrySegs e) false])
    else .starts
  else .still

theorem State.missEntry_turn (s : State) (e : Entry) (cause : MissedCause) :
    s.missEntry e cause = s.turn e
      (.leaves [.missed e.fix.ref e.fix.kind (entrySegs e) e.fix.start e.fix.stop cause]
        (if e.vol.state = .planned then [] else [.entryStateChange e.fix.ref (entrySegs e) false])) := by
  unfold State.missEntry State.reportRemoval State.turn Turn.leaves State.moved
  rw [fated_none]
  cases e.vol.state with
  | planned =>
    rw [if_pos rfl, List.append_nil]
    rfl
  | _ => rfl

theorem State.Ground.startRole {s u : State} (h : s.Ground u) (e : Entry) : u.startRole e = s.startRole e := by
  rw [h]
  rfl

theorem State.judgeStart_played (s : State) (e : Entry) :
    State.judgeStart e s = s.played .schedule e (s.startRole e) := by
  unfold State.judgeStart State.startRole
  split
  · split
    · exact s.missEntry_turn e .timePassed
    · rfl
  · rfl

theorem State.startRole_active {s : State} {e : Entry} (h : isActive e = true) : s.startRole e = .still :=
  if_neg (by rw [h]; exact Bool.false_ne_true)

theorem State.startRole_ahead {s : State} {e : Entry} (h : s.now < e.fix.start) : s.startRole e = .still :=
  if_neg (by rw [decide_eq_false (Nat.not_le.2 h), Bool.and_false]; exact Bool.false_ne_true)

theorem State.startRole_missed {s : State} {e : Entry} (h : isActive e = false) (begun : e.fix.start ≤ s.now)
    (past : e.fix.stop ≤ s.now) : s.startRole e =
      .leaves [.missed e.fix.ref e.fix.kind (entrySegs e) e.fix.start e.fix.stop .timePassed]
        (if e.vol.state = .planned then [] else [.entryStateChange e.fix.ref (entrySegs e) false]) :=
  (if_pos (by rw [h, decide_eq_true begun]; rfl)).trans (if_pos past)

theorem State.startRole_starts {s : State} {e : Entry} :
    s.startRole e = .starts ↔ isActive e = false ∧ e.fix.start ≤ s.now ∧ s.now < e.fix.stop := by
  constructor
  · unfold State.startRole
    intro h
    split at h
    · next reached =>
      obtain ⟨idle, begun⟩ := Bool.and_eq_true_iff.1 reached
      split at h
      · exact nomatch h
      · next ahead => exact ⟨by simpa using idle, of_decide_eq_true begun, Nat.not_le.1 ahead⟩
    · exact nomatch h
  · rintro ⟨idle, begun, ahead⟩
    exact (if_pos (by rw [idle, decide_eq_true begun]; rfl)).trans (if_neg (Nat.not_le.2 ahead))

/-- An entry that stays is active or lies ahead. -/
theorem State.startRole_still {s : State} {e : Entry} (h : s.startRole e = .still) :
    isActive e = true ∨ s.now < e.fix.start := by
  by_contra no
  push Not at no
  obtain ⟨idle, begun⟩ := no
  have reached : (!isActive e && decide (e.fix.start ≤ s.now)) = true := by
    rw [Bool.eq_false_iff.2 idle, decide_eq_true begun]; rfl
  unfold State.startRole at h
  rw [if_pos reached] at h
  split at h <;> exact nomatch h

theorem State.judgeStart_casts (s : State) : s.Casts .schedule State.judgeStart s.startRole :=
  ⟨fun u e h _ _ => by rw [State.judgeStart_played, h.startRole], fun _ h => (State.startRole_starts.1 h).1⟩

/-! ### Step 5: the leads (R33, R34) -/

/-- The volatile fields of an entry that enters PREPARING. -/
def State.preparing (s : State) (e : Entry) : Volatile :=
  { e.vol with
    state := .preparing
    leadUsed := some (s.leadOf e.fix)
    prepStart := some s.now
    stamp := some (s.homeGroup e.fix)
    initialError := some ((s.tempError (s.homeGroup e.fix) (storedSetpoint s.comm e.fix)).getD 0)
    liveSetpoint := some (storedSetpoint s.comm e.fix)
    currentScene := some (bookedScene s.comm e.fix)
    savedScene := none }

def State.prepareTurn (s : State) (e : Entry) : Turn :=
  if s.prepareDue e then .becomes e (s.preparing e) [] [.entryStateChange e.fix.ref (entrySegs e) false]
  else .still e

theorem State.judgePrepare_turn {s : State} (hu : s.UniqueRefs) {e : Entry} (he : e ∈ s.bt.table) :
    State.judgePrepare e s = s.turn e (s.prepareTurn e) := by
  unfold State.judgePrepare State.prepareTurn
  split
  · exact State.changed_turn hu he (fun v => s.preparing ⟨e.fix, v⟩) _
  · exact (State.turn_still hu he).symm

/-- Preparing is due only ahead of the start, for a PLANNED entry. -/
theorem State.prepareDue_planned {s : State} {e : Entry} (h : s.prepareDue e = true) :
    e.vol.state = .planned ∧ s.now < e.fix.start := by
  unfold State.prepareDue at h
  simp only [Bool.and_eq_true, beq_iff_eq, decide_eq_true_eq] at h
  exact ⟨h.1.1.1.1, h.1.1.1.2⟩

/-! ### The figures of the turns read nothing that BT's steps move, but for the rates -/

theorem State.Ground.countTurn {s u : State} (h : s.Ground u) (e : Entry) : u.countTurn e = s.countTurn e := by
  rw [h]; rfl

theorem State.Ground.endTurn {s u : State} (h : s.Ground u) (e : Entry) : u.endTurn e = s.endTurn e := by
  rw [h]; rfl

theorem State.Ground.releaseTurn {s u : State} (h : s.Ground u) (e : Entry) : u.releaseTurn e = s.releaseTurn e := by
  rw [h]; rfl

/-- BT's rates stand too. -/
def State.Rated (s u : State) : Prop := s.Ground u ∧ u.bt.rates = s.bt.rates

theorem State.Rated.prepareTurn {s u : State} (h : s.Rated u) (e : Entry) : u.prepareTurn e = s.prepareTurn e := by
  have frame : u = { s with
      bt := { s.bt with table := u.bt.table, stored := u.bt.stored }, nq := u.nq, reports := u.reports } := by
    have ground := h.1
    unfold State.Ground at ground
    rw [h.2] at ground
    exact ground
  rw [frame]
  rfl

end Sys2Proof.Machine

/-! The minute event of a whole table: the first three steps together, the starts, the leads. -/

namespace Sys2Proof.Machine

/-! ### Steps 1 to 3 of one entry -/

/-- What step 1 leaves of an entry. -/
def State.countFate (s : State) (e : Entry) : Option Entry := if isActive e = true then (s.countTurn e).fate else some e

/-- What steps 1 and 2 leave of an entry. -/
def State.endFate (s : State) (e : Entry) : Option Entry := (s.countFate e).bind fun x => (s.endTurn x).fate

/-- What steps 1 to 3 leave of an active entry. -/
def State.lasts (s : State) (e : Entry) : Option Entry :=
  if e.vol.state = .overrun then
    (if 119 ≤ e.vol.overrunMinutes.getD 0 then none else some ⟨e.fix, s.counted e⟩)
  else if e.fix.stop ≤ s.now then
    (if s.entryObserved e = true then some ⟨e.fix, { s.counted e with
      state := .overrun, overrunMinutes := some (e.vol.overrunMinutes.getD 0) }⟩ else none)
  else if s.absent e = true then none else some ⟨e.fix, s.counted e⟩

/-- What steps 1 to 3 leave of an entry. -/
def State.judgedFate (s : State) (e : Entry) : Option Entry := if isActive e = true then s.lasts e else some e

/-- In session at its booked end. -/
def State.endReached (s : State) (e : Entry) : Bool := e.vol.state == .inSession && decide (e.fix.stop ≤ s.now)

/-- In session, not at its end, and released. -/
def State.unseen (s : State) (e : Entry) : Bool :=
  e.vol.state == .inSession && decide (s.now < e.fix.stop) && s.absent e

theorem isActive_of_overrun {e : Entry} (h : e.vol.state = .overrun) : isActive e = true := by
  rw [isActive, h]; rfl

theorem isActive_of_inSession {e : Entry} (h : e.vol.state = .inSession) : isActive e = true := by
  rw [isActive, h]; rfl

theorem active_cases {e : Entry} (h : isActive e = true) : e.vol.state = .overrun ∨ e.vol.state = .inSession := by
  unfold isActive isActiveState at h
  cases hs : e.vol.state <;> rw [hs] at h <;> simp at h ⊢

theorem State.countFate_idle {s : State} {e : Entry} (h : isActive e = false) : s.countFate e = some e :=
  if_neg (by rw [h]; exact Bool.false_ne_true)

theorem State.countFate_limit {s : State} {e : Entry} (h : overLimit e = true) : s.countFate e = none := by
  have overrun := beq_iff_eq.1 (Bool.and_eq_true_iff.1 h).1
  unfold State.countFate State.countTurn
  rw [if_pos (isActive_of_overrun overrun), if_pos h]
  rfl

theorem State.countFate_counts {s : State} {e : Entry} (ha : isActive e = true) (h : overLimit e = false) :
    s.countFate e = some ⟨e.fix, s.counted e⟩ := by
  unfold State.countFate State.countTurn
  rw [if_pos ha, if_neg (by rw [h]; exact Bool.false_ne_true)]
  rfl

theorem State.endTurn_other {s : State} {e : Entry} (h : e.vol.state ≠ .inSession) : s.endTurn e = .still e :=
  if_neg fun k => h (beq_iff_eq.1 (Bool.and_eq_true_iff.1 k).1)

theorem State.releaseTurn_other {s : State} {e : Entry} (h : e.vol.state ≠ .inSession) : s.releaseTurn e = .still e :=
  if_neg fun k => h (beq_iff_eq.1 (Bool.and_eq_true_iff.1 k).1)

theorem not_overLimit_of_inSession {e : Entry} (h : e.vol.state = .inSession) : overLimit e = false := by
  rw [overLimit, h]; rfl

theorem State.countFate_inSession {s : State} {e : Entry} (h : e.vol.state = .inSession) :
    s.countFate e = some ⟨e.fix, s.counted e⟩ :=
  State.countFate_counts (isActive_of_inSession h) (not_overLimit_of_inSession h)

/-- The judgement at the end of a session that has been counted. -/
theorem State.endTurn_counted {s : State} {e : Entry} (h : e.vol.state = .inSession) :
    s.endTurn ⟨e.fix, s.counted e⟩ = if e.fix.stop ≤ s.now then
        (if s.entryObserved e = true
          then .becomes ⟨e.fix, s.counted e⟩ (overrunning (s.counted e)) [] [.entryStateChange e.fix.ref (entrySegs e) false]
          else .leaves [.sessionEnded (endedFields ⟨e.fix, s.counted e⟩ s.now .schedule)] (s.endReports e))
      else .still ⟨e.fix, s.counted e⟩ := by
  have cond : ((s.counted e).state == .inSession && decide (e.fix.stop ≤ s.now)) = true ↔ e.fix.stop ≤ s.now := by
    rw [show (s.counted e).state = e.vol.state from rfl, h]
    exact decide_eq_true_iff
  exact if_congr cond rfl rfl

theorem State.releaseTurn_counted {s : State} {e : Entry} (h : e.vol.state = .inSession) :
    s.releaseTurn ⟨e.fix, s.counted e⟩ = if s.absent e = true then
        .leaves [releasedNotice e] [.entryStateChange e.fix.ref (entrySegs e) false]
      else .still ⟨e.fix, s.counted e⟩ := by
  have cond : ((s.counted e).state == .inSession && s.absent ⟨e.fix, s.counted e⟩) = true ↔ s.absent e = true := by
    rw [show (s.counted e).state = e.vol.state from rfl, h]
    rfl
  exact if_congr cond rfl rfl

/-- What happens to an entry in steps 2 and 3, told by its state before the minute. -/
theorem State.steps_of {motive : Entry → Prop} {s : State}
    (idle : ∀ e, isActive e = false → s.countFate e = some e → s.endTurn e = .still e → s.releaseTurn e = .still e → motive e)
    (limit : ∀ e, e.vol.state = .overrun → overLimit e = true → s.countFate e = none → motive e)
    (runs : ∀ e, e.vol.state = .overrun → overLimit e = false → s.countFate e = some ⟨e.fix, s.counted e⟩ →
      s.endTurn ⟨e.fix, s.counted e⟩ = .still ⟨e.fix, s.counted e⟩ →
      s.releaseTurn ⟨e.fix, s.counted e⟩ = .still ⟨e.fix, s.counted e⟩ → motive e)
    (session : ∀ e, e.vol.state = .inSession → s.countFate e = some ⟨e.fix, s.counted e⟩ → motive e) :
    ∀ e, motive e := by
  intro e
  by_cases ha : isActive e = true
  · rcases active_cases ha with h | h
    · have other : (s.counted e).state ≠ .inSession := by
        rw [show (s.counted e).state = e.vol.state from rfl, h]
        exact EntryState.noConfusion
      by_cases hl : overLimit e = true
      · exact limit e h hl (State.countFate_limit hl)
      · have hl := Bool.eq_false_iff.2 hl
        exact runs e h hl (State.countFate_counts ha hl) (State.endTurn_other other) (State.releaseTurn_other other)
    · exact session e h (State.countFate_inSession h)
  · have other : e.vol.state ≠ .inSession := fun h => ha (isActive_of_inSession h)
    have ha := Bool.eq_false_iff.2 ha
    exact idle e ha (State.countFate_idle ha) (State.endTurn_other other) (State.releaseTurn_other other)

theorem State.lasts_overrun {s : State} {e : Entry} (h : e.vol.state = .overrun) :
    s.lasts e = if overLimit e = true then none else some ⟨e.fix, s.counted e⟩ := by
  unfold State.lasts
  rw [if_pos h]
  refine if_congr ?_ rfl rfl
  unfold overLimit
  rw [h]
  exact decide_eq_true_iff.symm

theorem State.lasts_inSession {s : State} {e : Entry} (h : e.vol.state = .inSession) :
    s.lasts e = if e.fix.stop ≤ s.now then
        (if s.entryObserved e = true then some ⟨e.fix, overrunning (s.counted e)⟩ else none)
      else if s.absent e = true then none else some ⟨e.fix, s.counted e⟩ := by
  have minutes : (s.counted e).overrunMinutes = e.vol.overrunMinutes :=
    if_neg (by rw [h]; exact EntryState.noConfusion)
  unfold State.lasts overrunning
  rw [if_neg (by rw [h]; exact EntryState.noConfusion), minutes]

/-- Steps 1 to 3 leave of each entry what `judgedFate` says. -/
theorem State.releaseFate_eq (s : State) : ∀ e, (s.endFate e).bind (fun x => (s.releaseTurn x).fate) = s.judgedFate e := by
  refine State.steps_of (s := s) (fun e h count ends released => ?_) (fun e h limit count => ?_)
    (fun e h limit count ends released => ?_) fun e h count => ?_
  · unfold State.endFate State.judgedFate
    rw [count, if_neg (by rw [h]; exact Bool.false_ne_true), Option.bind_some, ends]
    exact congrArg Turn.fate released
  · unfold State.endFate State.judgedFate
    rw [count, if_pos (isActive_of_overrun h), State.lasts_overrun h, if_pos limit]
    rfl
  · unfold State.endFate State.judgedFate
    rw [count, if_pos (isActive_of_overrun h), State.lasts_overrun h, limit, if_neg Bool.false_ne_true, Option.bind_some, ends]
    exact congrArg Turn.fate released
  · unfold State.endFate State.judgedFate
    rw [count, if_pos (isActive_of_inSession h), State.lasts_inSession h, Option.bind_some, State.endTurn_counted h]
    by_cases past : e.fix.stop ≤ s.now
    · rw [if_pos past, if_pos past]
      by_cases seen : s.entryObserved e = true
      · rw [if_pos seen, if_pos seen]
        exact congrArg Turn.fate (State.releaseTurn_other (s := s) (e := ⟨e.fix, overrunning (s.counted e)⟩) (nomatch ·))
      · rw [if_neg seen, if_neg seen]
        rfl
    · rw [if_neg past, if_neg past]
      refine (congrArg Turn.fate (State.releaseTurn_counted h)).trans ?_
      split <;> rfl

theorem State.endNotices_eq (s : State) : ∀ e, ((s.countFate e).elim [] fun x => (s.endTurn x).notices) =
    if (s.endReached e && !s.entryObserved e) = true
      then [.sessionEnded (endedFields ⟨e.fix, s.counted e⟩ s.now .schedule)] else [] := by
  have idle {e : Entry} (h : e.vol.state ≠ .inSession) : (s.endReached e && !s.entryObserved e) = false := by
    rw [State.endReached, beq_eq_false_iff_ne.2 h]; rfl
  refine State.steps_of (s := s) (fun e h count ends released => ?_) (fun e h limit count => ?_)
    (fun e h limit count ends released => ?_) fun e h count => ?_
  · rw [count, Option.elim_some, ends, idle fun k => absurd h (by rw [isActive_of_inSession k]; exact Bool.noConfusion)]
    rfl
  · rw [count, idle (by rw [h]; exact EntryState.noConfusion)]
    rfl
  · rw [count, Option.elim_some, ends, idle (by rw [h]; exact EntryState.noConfusion)]
    rfl
  · rw [count, Option.elim_some, State.endTurn_counted h, State.endReached, h]
    by_cases past : e.fix.stop ≤ s.now
    · rw [if_pos past, decide_eq_true past]
      cases s.entryObserved e <;> rfl
    · rw [if_neg past, decide_eq_false past]
      rfl

theorem State.endReports_eq (s : State) : ∀ e, ((s.countFate e).elim [] fun x => (s.endTurn x).reports) =
    if s.endReached e = true
      then (if s.entryObserved e = true then [.entryStateChange e.fix.ref (entrySegs e) false] else s.endReports e)
      else [] := by
  have idle {e : Entry} (h : e.vol.state ≠ .inSession) : s.endReached e = false := by
    rw [State.endReached, beq_eq_false_iff_ne.2 h]; rfl
  refine State.steps_of (s := s) (fun e h count ends released => ?_) (fun e h limit count => ?_)
    (fun e h limit count ends released => ?_) fun e h count => ?_
  · rw [count, Option.elim_some, ends, idle fun k => absurd h (by rw [isActive_of_inSession k]; exact Bool.noConfusion)]
    rfl
  · rw [count, idle (by rw [h]; exact EntryState.noConfusion)]
    rfl
  · rw [count, Option.elim_some, ends, idle (by rw [h]; exact EntryState.noConfusion)]
    rfl
  · rw [count, Option.elim_some, State.endTurn_counted h, State.endReached, h]
    by_cases past : e.fix.stop ≤ s.now
    · rw [if_pos past, decide_eq_true past]
      cases s.entryObserved e <;> rfl
    · rw [if_neg past, decide_eq_false past]
      rfl

/-- What step 3 says of an entry: `told` picks its notices or its reports. -/
theorem State.releases_eq {α : Type} (s : State) (told : Turn → List α) (still : ∀ e, told (.still e) = []) :
    ∀ e, ((s.endFate e).elim [] fun x => told (s.releaseTurn x)) =
      if s.unseen e = true
        then told (.leaves [releasedNotice e] [.entryStateChange e.fix.ref (entrySegs e) false]) else [] := by
  have idle {e : Entry} (h : e.vol.state ≠ .inSession) : s.unseen e = false := by
    rw [State.unseen, beq_eq_false_iff_ne.2 h]; rfl
  refine State.steps_of (s := s) (fun e h count ends released => ?_) (fun e h limit count => ?_)
    (fun e h limit count ends released => ?_) fun e h count => ?_
  · rw [State.endFate, count, Option.bind_some, ends, idle fun k => absurd h (by rw [isActive_of_inSession k]; exact Bool.noConfusion)]
    exact (congrArg told released).trans (still e)
  · rw [State.endFate, count, idle (by rw [h]; exact EntryState.noConfusion)]
    rfl
  · rw [State.endFate, count, Option.bind_some, ends, idle (by rw [h]; exact EntryState.noConfusion)]
    exact (congrArg told released).trans (still _)
  · rw [State.endFate, count, Option.bind_some, State.endTurn_counted h, State.unseen, h]
    by_cases past : e.fix.stop ≤ s.now
    · rw [if_pos past, decide_eq_false (Nat.not_lt.2 past)]
      by_cases seen : s.entryObserved e = true
      · rw [if_pos seen]
        exact (congrArg told (State.releaseTurn_other (s := s) (e := ⟨e.fix, overrunning (s.counted e)⟩) (nomatch ·))).trans (still _)
      · rw [if_neg seen]
        rfl
    · rw [if_neg past, decide_eq_true (Nat.not_le.1 past)]
      refine (congrArg told (State.releaseTurn_counted h)).trans ?_
      by_cases gone : s.absent e = true
      · rw [if_pos gone, gone]
        rfl
      · rw [if_neg gone, Bool.eq_false_iff.2 gone]
        exact still _

end Sys2Proof.Machine

/-! The minute event of a whole table, of any length: the table left, the notices and the reports. -/

namespace Sys2Proof.Machine

theorem flatMap_filterMap {α β γ : Type} (g : α → Option β) (h : β → List γ) (l : List α) :
    (l.filterMap g).flatMap h = l.flatMap fun e => (g e).elim [] h := by
  induction l with
  | nil => rfl
  | cons x rest ih =>
    rw [List.flatMap_cons, ← ih]
    cases hg : g x with
    | none => rw [List.filterMap_cons_none hg]; rfl
    | some y => rw [List.filterMap_cons_some hg]; rfl

/-! ### Steps 1 to 3 -/

theorem State.countTurn_of (s : State) (e : Entry) : (s.countTurn e).Of e := by
  intro x h
  unfold State.countTurn at h
  split at h
  · exact nomatch h
  · cases h
    rfl

theorem State.endTurn_of (s : State) (e : Entry) : (s.endTurn e).Of e := by
  intro x h
  unfold State.endTurn at h
  split at h
  · split at h
    · cases h
      rfl
    · exact nomatch h
  · cases h
    rfl

theorem State.releaseTurn_of (s : State) (e : Entry) : (s.releaseTurn e).Of e := by
  intro x h
  unfold State.releaseTurn at h
  split at h
  · exact nomatch h
  · cases h
    rfl

theorem State.prepareTurn_of (s : State) (e : Entry) : (s.prepareTurn e).Of e := by
  intro x h
  unfold State.prepareTurn at h
  split at h <;> cases h <;> rfl

theorem State.countTurn_rates (s : State) (e : Entry) : (s.countTurn e).rates = id := by
  unfold State.countTurn
  split <;> rfl

theorem State.endTurn_rates (s : State) (e : Entry) : (s.endTurn e).rates = id := by
  unfold State.endTurn
  split
  · split <;> rfl
  · rfl

theorem State.releaseTurn_rates (s : State) (e : Entry) : (s.releaseTurn e).rates = id := by
  unfold State.releaseTurn
  split <;> rfl

theorem State.prepareTurn_rates (s : State) (e : Entry) : (s.prepareTurn e).rates = id := by
  unfold State.prepareTurn
  split <;> rfl

/-- The notices of steps 1 to 3, each step's in table order. -/
def State.judgedNotices (s : State) : List Notice :=
  (s.bt.table.filter overLimit).map (fun e => .sessionEnded (endedFields ⟨e.fix, s.counted e⟩ s.now .overrunLimit)) ++
  ((s.bt.table.filter s.endReached).filter fun e => !s.entryObserved e).map (fun e =>
    .sessionEnded (endedFields ⟨e.fix, s.counted e⟩ s.now .schedule)) ++
  (s.bt.table.filter s.unseen).map releasedNotice

def State.judgedReports (s : State) : List Instr :=
  (s.bt.table.filter overLimit).flatMap s.endReports ++
  (s.bt.table.filter s.endReached).flatMap (fun e =>
    if s.entryObserved e = true then [.entryStateChange e.fix.ref (entrySegs e) false] else s.endReports e) ++
  (s.bt.table.filter s.unseen).map fun e => .entryStateChange e.fix.ref (entrySegs e) false

def State.judgedTable (s : State) : List Entry := s.bt.table.filterMap s.judgedFate

/-- What step 1 says: `told` picks its notices or its reports. -/
theorem State.counts_told {α : Type} (s : State) (told : Turn → List α)
    (still : ∀ e v, told (.becomes e v [] []) = []) :
    ((s.bt.table.filter isActive).flatMap fun e => told (s.countTurn e)) =
      (s.bt.table.filter overLimit).flatMap fun e =>
        told (.leaves [.sessionEnded (endedFields ⟨e.fix, s.counted e⟩ s.now .overrunLimit)] (s.endReports e)) := by
  rw [← flatMap_if, ← flatMap_if]
  refine List.flatMap_congr fun e _ => ?_
  unfold State.countTurn
  by_cases limit : overLimit e = true
  · rw [if_pos limit, if_pos limit, if_pos (isActive_of_overrun (beq_iff_eq.1 (Bool.and_eq_true_iff.1 limit).1))]
  · rw [if_neg limit, if_neg limit, still]
    split <;> rfl

/-- BT's steps 1 to 3. -/
def State.btJudge (s : State) : State :=
  let s1 := s.forEntries ((s.bt.table.filter isActive).map (·.fix.ref)) State.countEntry
  let s2 := s1.forEntries s1.refs State.judgeEnd
  s2.forEntries s2.refs State.judgeNoShow

theorem State.countFate_fix {s : State} {y x : Entry} (h : s.countFate y = some x) : x.fix = y.fix := by
  unfold State.countFate at h
  split at h
  · exact s.countTurn_of y x h
  · cases h
    rfl

/-- The table once steps 1 and 2 are taken. -/
def State.endedTable (s : State) : List Entry := s.bt.table.filterMap s.endFate

theorem State.endedTable_eq (s : State) :
    (s.bt.table.filterMap s.countFate).filterMap (fun y => (s.endTurn y).fate) = s.endedTable :=
  List.filterMap_filterMap

theorem State.judgedTable_eq (s : State) :
    s.endedTable.filterMap (fun y => (s.releaseTurn y).fate) = s.judgedTable := by
  unfold State.endedTable
  rw [List.filterMap_filterMap]
  exact List.filterMap_congr fun y _ => s.releaseFate_eq y

theorem State.ends_told (s : State) :
    ((s.bt.table.filterMap s.countFate).flatMap fun e => (s.endTurn e).notices) =
      (((s.bt.table.filter s.endReached).filter fun e => !s.entryObserved e).map fun e =>
        .sessionEnded (endedFields ⟨e.fix, s.counted e⟩ s.now .schedule)) ∧
    ((s.bt.table.filterMap s.countFate).flatMap fun e => (s.endTurn e).reports) =
      (s.bt.table.filter s.endReached).flatMap fun e =>
        if s.entryObserved e = true then [.entryStateChange e.fix.ref (entrySegs e) false] else s.endReports e := by
  constructor
  · rw [flatMap_filterMap, List.flatMap_congr fun e _ => s.endNotices_eq e, flatMap_if, List.filter_filter,
      List.map_eq_flatMap]
    exact congrArg (fun l => List.flatMap _ l) (List.filter_congr fun _ _ => Bool.and_comm _ _)
  · rw [flatMap_filterMap, List.flatMap_congr fun e _ => s.endReports_eq e, flatMap_if]

theorem State.releases_told {α : Type} (s : State) (told : Turn → List α) (still : ∀ e, told (.still e) = []) :
    (s.endedTable.flatMap fun e => told (s.releaseTurn e)) = (s.bt.table.filter s.unseen).flatMap fun e =>
      told (.leaves [releasedNotice e] [.entryStateChange e.fix.ref (entrySegs e) false]) := by
  unfold State.endedTable
  rw [flatMap_filterMap, ← flatMap_if]
  exact List.flatMap_congr fun e _ => s.releases_eq told still e

/-- Step 1, a sweep of the active entries. -/
theorem State.countStep_eq {s : State} (hu : s.UniqueRefs) :
    s.forEntries ((s.bt.table.filter isActive).map (·.fix.ref)) State.countEntry =
      s.treated (s.bt.table.filterMap s.countFate)
        ((s.bt.table.filter overLimit).map fun e => .sessionEnded (endedFields ⟨e.fix, s.counted e⟩ s.now .overrunLimit))
        ((s.bt.table.filter overLimit).flatMap s.endReports) := by
  have first := State.forEntries_where (f := State.countEntry) (k := s.countTurn) isActive (.refl s) hu
    (fun u e (h : s.Ground u) _ _ => h.turn e _)
    (fun u e h uniq he => by rw [State.countEntry_turn uniq he, h.countTurn]) s.countTurn_of s.countTurn_rates
  rw [s.counts_told Turn.notices fun _ _ => rfl, s.counts_told Turn.reports fun _ _ => rfl] at first
  exact first.trans (congrArg (fun n => s.treated _ n _) List.map_eq_flatMap.symm)

theorem State.endStep_eq {s u : State} (h : s.Ground u) (hu : u.UniqueRefs) :
    u.forEntries u.refs State.judgeEnd = u.treated (u.bt.table.filterMap fun y => (s.endTurn y).fate)
      (u.bt.table.flatMap fun e => (s.endTurn e).notices) (u.bt.table.flatMap fun e => (s.endTurn e).reports) :=
  State.forEntries_treated h hu (fun u e (h : s.Ground u) _ _ => h.turn e _)
    (fun u e h uniq he => by rw [State.judgeEnd_turn uniq he, h.endTurn]) s.endTurn_of s.endTurn_rates

theorem State.releaseStep_eq {s u : State} (h : s.Ground u) (hu : u.UniqueRefs) :
    u.forEntries u.refs State.judgeNoShow = u.treated (u.bt.table.filterMap fun y => (s.releaseTurn y).fate)
      (u.bt.table.flatMap fun e => (s.releaseTurn e).notices) (u.bt.table.flatMap fun e => (s.releaseTurn e).reports) :=
  State.forEntries_treated h hu (fun u e (h : s.Ground u) _ _ => h.turn e _)
    (fun u e h uniq he => by rw [State.judgeNoShow_turn uniq he, h.releaseTurn]) s.releaseTurn_of s.releaseTurn_rates

theorem State.btJudge_eq {s : State} (hu : s.UniqueRefs) :
    s.btJudge = s.treated s.judgedTable s.judgedNotices s.judgedReports := by
  have thin1 : Thinned (s.bt.table.filterMap s.countFate) s.bt.table :=
    thinned_filterMap fun y _ x h => State.countFate_fix h
  have thin2 : Thinned s.endedTable (s.bt.table.filterMap s.countFate) := by
    rw [← s.endedTable_eq]
    exact thinned_filterMap fun y _ x h => s.endTurn_of y x h
  have thin3 : Thinned s.judgedTable s.endedTable := by
    rw [← s.judgedTable_eq]
    exact thinned_filterMap fun y _ x h => s.releaseTurn_of y x h
  obtain ⟨notices2, reports2⟩ := s.ends_told
  have second (n : List Notice) (m : List Instr) :
      (s.treated (s.bt.table.filterMap s.countFate) n m).forEntries (s.treated (s.bt.table.filterMap s.countFate) n m).refs
        State.judgeEnd = (s.treated (s.bt.table.filterMap s.countFate) n m).treated s.endedTable _ _ :=
    (State.endStep_eq ((State.Ground.refl s).treated _ _ _) (thin1.unique hu)).trans
      (congrArg₂ (fun t p => State.treated _ t (Prod.fst p) (Prod.snd p)) s.endedTable_eq
        (congrArg₂ Prod.mk notices2 reports2))
  have third (u : State) (h : s.Ground u) (table : u.bt.table = s.endedTable) :
      u.forEntries u.refs State.judgeNoShow = u.treated s.judgedTable
        ((s.bt.table.filter s.unseen).map releasedNotice)
        ((s.bt.table.filter s.unseen).map fun e => .entryStateChange e.fix.ref (entrySegs e) false) := by
    have uniq : u.UniqueRefs := by
      unfold State.UniqueRefs
      rw [table]
      exact thin2.unique (thin1.unique hu)
    rw [State.releaseStep_eq h uniq, table, s.judgedTable_eq, s.releases_told Turn.notices fun _ => rfl,
      s.releases_told Turn.reports fun _ => rfl, List.map_eq_flatMap, List.map_eq_flatMap]
    rfl
  unfold State.btJudge
  rw [State.countStep_eq hu]
  simp only [second]
  refine (third _ (((State.Ground.refl s).treated _ _ _).treated _ _ _) rfl).trans ?_
  refine (State.treated_treated _ _ _ _ _ thin2 thin3).trans ?_
  refine (State.treated_treated _ _ _ _ _ thin1 (thin3.trans thin2)).trans ?_
  rw [← List.append_assoc, ← List.append_assoc]
  rfl

end Sys2Proof.Machine

/-! The starts and the leads of a minute (R38, R34), and the whole minute of a table in which no two starts meet. -/

namespace Sys2Proof.Machine

/-! ### Who ends for whom -/

/-- An entry whose start is reached this minute, its end lying ahead. -/
def State.startsNow (s : State) (e : Entry) : Bool :=
  !isActive e && decide (e.fix.start ≤ s.now) && decide (s.now < e.fix.stop)

/-- The first entry in table order whose start ends an active one. -/
def State.endedBy (s : State) (e : Entry) : Option Entry :=
  if isActive e then s.bt.table.find? fun x => s.startsNow x && segsMeet (entrySegs x) (entrySegs e) else none

/-- The active entries, as counted and judged, that end for x. -/
def State.givenWay (s : State) (x : Entry) : List Entry :=
  (s.bt.table.filter fun e => s.endedBy e == some x).filterMap s.lasts

theorem segsMeet_comm (a b : Segs) : segsMeet a b = segsMeet b a := Bool.and_comm _ _

theorem State.startsNow_iff {s : State} {e : Entry} : s.startsNow e = true ↔ s.startRole e = .starts := by
  rw [State.startRole_starts]
  unfold State.startsNow
  simp only [Bool.and_eq_true, Bool.not_eq_true', decide_eq_true_eq, and_assoc]

theorem State.startsNow_eq (s : State) (e : Entry) : s.startsNow e = (s.startRole e).isStart := by
  rw [Bool.eq_iff_iff, State.startsNow_iff, Role.isStart_iff]

theorem State.startsNow_idle {s : State} {e : Entry} (h : s.startsNow e = true) : isActive e = false :=
  (State.startRole_starts.1 (State.startsNow_iff.1 h)).1

/-- What lasts of an active entry is active and has its fixed fields. -/
theorem State.lasts_some {s : State} {e y : Entry} (ha : isActive e = true) (h : s.lasts e = some y) :
    isActive y = true ∧ y.fix = e.fix := by
  rcases active_cases ha with hs | hs
  · rw [State.lasts_overrun hs] at h
    split at h
    · exact nomatch h
    · cases h
      exact ⟨ha, rfl⟩
  · rw [State.lasts_inSession hs] at h
    split at h
    · split at h
      · cases h
        exact ⟨rfl, rfl⟩
      · exact nomatch h
    · split at h
      · exact nomatch h
      · cases h
        exact ⟨ha, rfl⟩

theorem State.judgedFate_active {s : State} {e : Entry} (h : isActive e = true) : s.judgedFate e = s.lasts e := if_pos h

theorem State.judgedFate_idle {s : State} {e : Entry} (h : isActive e = false) : s.judgedFate e = some e :=
  if_neg (by rw [h]; exact Bool.false_ne_true)

theorem State.judgedFate_some {s : State} {e y : Entry} (h : s.judgedFate e = some y) :
    isActive y = isActive e ∧ y.fix = e.fix := by
  by_cases ha : isActive e = true
  · rw [State.judgedFate_active ha] at h
    obtain ⟨active, fix⟩ := State.lasts_some ha h
    exact ⟨active.trans ha.symm, fix⟩
  · rw [State.judgedFate_idle (Bool.eq_false_iff.2 ha)] at h
    cases h
    exact ⟨rfl, rfl⟩

/-- The first that starts on its segments is the same before and after the judgements. -/
theorem State.firstStarter_judged {s : State} {e y : Entry} (ha : isActive e = true) (h : s.lasts e = some y) :
    firstStarter s.startRole s.judgedTable y = s.endedBy e := by
  obtain ⟨active, fix⟩ := State.lasts_some ha h
  have segs : entrySegs y = entrySegs e := congrArg fixedSegs fix
  have test (x : Entry) : ((s.judgedFate x).any fun z => (s.startRole z).isStart && yields z y) =
      (s.startsNow x && segsMeet (entrySegs x) (entrySegs e)) := by
    by_cases hx : isActive x = true
    · have idle : s.startsNow x = false := Bool.eq_false_iff.2 fun k => by
        rw [State.startsNow_idle k] at hx; exact Bool.false_ne_true hx
      rw [idle, Bool.false_and, State.judgedFate_active hx]
      cases hl : s.lasts x with
      | none => rfl
      | some z =>
        rw [Option.any_some, State.startRole_active (State.lasts_some hx hl).1]
        rfl
    · rw [State.judgedFate_idle (Bool.eq_false_iff.2 hx), Option.any_some, yields, active, segs, segsMeet_comm,
        State.startsNow_eq]
      rfl
  unfold firstStarter State.judgedTable State.endedBy
  rw [List.find?_filterMap, if_pos ha]
  simp only [test]
  cases hf : s.bt.table.find? fun x => s.startsNow x && segsMeet (entrySegs x) (entrySegs e) with
  | none => rfl
  | some x =>
    have found := List.find?_some (p := fun x => s.startsNow x && segsMeet (entrySegs x) (entrySegs e)) hf
    exact State.judgedFate_idle (State.startsNow_idle (Bool.and_eq_true_iff.1 found).1)

theorem State.endedBy_idle {s : State} {e : Entry} (h : isActive e = false) : s.endedBy e = none :=
  if_neg (by rw [h]; exact Bool.false_ne_true)

/-- Those that end for x, told after the judgements or before. -/
theorem State.given_judged (s : State) (x : Entry) :
    (s.judgedTable.filter fun y => firstStarter s.startRole s.judgedTable y == some x) = s.givenWay x := by
  unfold State.givenWay
  generalize hl : firstStarter s.startRole s.judgedTable = first
  unfold State.judgedTable
  rw [List.filter_filterMap, List.filterMap_filter]
  refine List.filterMap_congr fun e _ => ?_
  by_cases ha : isActive e = true
  · rw [State.judgedFate_active ha]
    cases h : s.lasts e with
    | none =>
      rw [Option.filter_none]
      split <;> rfl
    | some y => rw [Option.filter_some, ← hl, State.firstStarter_judged ha h]
  · have idle := Bool.eq_false_iff.2 ha
    rw [State.judgedFate_idle idle, Option.filter_some, ← hl, firstStarter_inactive idle, State.endedBy_idle idle]
    rfl

/-! ### The fate of an entry at the minute -/

/-- What all five steps make of an entry. -/
def State.minuteFate (s : State) (e : Entry) : Option Entry :=
  if isActive e = true then (if (s.endedBy e).isSome = true then none else s.lasts e)
  else if e.fix.start ≤ s.now then (if s.now < e.fix.stop then some (s.begunBy .schedule e) else none)
  else if s.prepareDue e = true then some ⟨e.fix, s.preparing e⟩ else some e

theorem State.prepareTurn_other {s : State} {e : Entry} (h : s.prepareDue e = false) : s.prepareTurn e = .still e :=
  if_neg (by rw [h]; exact Bool.false_ne_true)

theorem State.prepareDue_other {s : State} {e : Entry} (h : e.vol.state ≠ .planned) : s.prepareDue e = false :=
  Bool.eq_false_iff.2 fun k => h (State.prepareDue_planned k).1

theorem State.prepareDue_begun {s : State} {e : Entry} (h : e.fix.start ≤ s.now) : s.prepareDue e = false :=
  Bool.eq_false_iff.2 fun k => absurd h (Nat.not_le.2 (State.prepareDue_planned k).2)

theorem not_planned_of_active {e : Entry} (h : isActive e = true) : e.vol.state ≠ .planned := fun k => by
  rw [isActive, k] at h
  exact nomatch h

/-- Steps 4 and 5, of an entry that steps 1 to 3 have left. -/
def State.startedFate (s : State) (e : Entry) : Option Entry :=
  (s.judgedFate e).bind (s.roundFate .schedule s.startRole s.judgedTable)

theorem State.roundFate_judged {s : State} {e y : Entry} (he : e ∈ s.bt.table) (h : s.judgedFate e = some y) :
    s.roundFate .schedule s.startRole s.judgedTable y =
      if (firstStarter s.startRole s.judgedTable y).isSome = true then none else s.roleFate .schedule y (s.startRole y) := by
  unfold State.roundFate
  rw [if_pos (show y ∈ s.judgedTable from List.mem_filterMap.2 ⟨e, he, h⟩)]

theorem State.startedFate_active {s : State} {e : Entry} (he : e ∈ s.bt.table) (ha : isActive e = true) :
    s.startedFate e = if (s.endedBy e).isSome = true then none else s.lasts e := by
  unfold State.startedFate
  rw [State.judgedFate_active ha]
  cases h : s.lasts e with
  | none => split <;> rfl
  | some y =>
    rw [Option.bind_some, State.roundFate_judged he ((State.judgedFate_active ha).trans h), State.firstStarter_judged ha h,
      State.startRole_active (State.lasts_some ha h).1]
    rfl

theorem State.startedFate_idle {s : State} {e : Entry} (he : e ∈ s.bt.table) (ha : isActive e = false) :
    s.startedFate e = s.roleFate .schedule e (s.startRole e) := by
  unfold State.startedFate
  rw [State.judgedFate_idle ha, Option.bind_some, State.roundFate_judged he (State.judgedFate_idle ha),
    firstStarter_inactive ha]
  rfl

theorem State.preparedFate_eq {s : State} {e : Entry} (he : e ∈ s.bt.table) :
    (s.startedFate e).bind (fun y => (s.prepareTurn y).fate) = s.minuteFate e := by
  unfold State.minuteFate
  by_cases ha : isActive e = true
  · rw [if_pos ha, State.startedFate_active he ha]
    split
    · rfl
    · cases h : s.lasts e with
      | none => rfl
      | some y =>
        exact congrArg Turn.fate (State.prepareTurn_other (State.prepareDue_other
          (not_planned_of_active (State.lasts_some ha h).1)))
  · have idle := Bool.eq_false_iff.2 ha
    rw [if_neg ha, State.startedFate_idle he idle]
    by_cases begun : e.fix.start ≤ s.now
    · rw [if_pos begun]
      by_cases ahead : s.now < e.fix.stop
      · rw [if_pos ahead, State.startRole_starts.2 ⟨idle, begun, ahead⟩]
        exact congrArg Turn.fate (State.prepareTurn_other (s := s) (e := s.begunBy .schedule e)
          (State.prepareDue_other (nomatch ·)))
      · rw [if_neg ahead, State.startRole_missed idle begun (Nat.not_lt.1 ahead)]
        rfl
    · rw [if_neg begun, State.startRole_ahead (Nat.not_le.1 begun)]
      show (s.prepareTurn e).fate = _
      unfold State.prepareTurn
      split <;> rfl

/-- What step 5 says of an entry. -/
theorem State.prepares_eq {s : State} {e : Entry} (he : e ∈ s.bt.table) :
    ((s.startedFate e).elim [] fun y => (s.prepareTurn y).reports) =
      if s.prepareDue e = true then [.entryStateChange e.fix.ref (entrySegs e) false] else [] := by
  by_cases ha : isActive e = true
  · rw [State.startedFate_active he ha, State.prepareDue_other (not_planned_of_active ha)]
    split
    · rfl
    · cases h : s.lasts e with
      | none => rfl
      | some y =>
        exact congrArg Turn.reports (State.prepareTurn_other (State.prepareDue_other
          (not_planned_of_active (State.lasts_some ha h).1)))
  · have idle := Bool.eq_false_iff.2 ha
    rw [State.startedFate_idle he idle]
    by_cases begun : e.fix.start ≤ s.now
    · rw [State.prepareDue_begun begun]
      by_cases ahead : s.now < e.fix.stop
      · rw [State.startRole_starts.2 ⟨idle, begun, ahead⟩]
        exact congrArg Turn.reports (State.prepareTurn_other (s := s) (e := s.begunBy .schedule e)
          (State.prepareDue_other (nomatch ·)))
      · rw [State.startRole_missed idle begun (Nat.not_lt.1 ahead)]
        rfl
    · rw [State.startRole_ahead (Nat.not_le.1 begun)]
      show (s.prepareTurn e).reports = _
      unfold State.prepareTurn
      split <;> rfl

theorem State.prepareTurn_silent (s : State) (e : Entry) : (s.prepareTurn e).notices = [] := by
  unfold State.prepareTurn
  split <;> rfl

/-! ### The whole minute -/

/-- Not active, the start at or before now. -/
def State.startReached (s : State) (e : Entry) : Bool := !isActive e && decide (e.fix.start ≤ s.now)

/-- The notices of step 4 for an entry whose start is reached. -/
def State.startNotices (s : State) (x : Entry) : List Notice :=
  if x.fix.stop ≤ s.now then [.missed x.fix.ref x.fix.kind (entrySegs x) x.fix.start x.fix.stop .timePassed]
  else (s.givenWay x).map (fun e => .sessionEnded (endedFields e s.now .nextBooking)) ++
    [.sessionStarted (startedFields x.fix s.now .schedule)]

def State.startReports (s : State) (x : Entry) : List Instr :=
  if x.fix.stop ≤ s.now then
    (if x.vol.state = .planned then [] else [.entryStateChange x.fix.ref (entrySegs x) false])
  else (s.givenWay x).flatMap s.endReports ++ [.entryStateChange x.fix.ref (entrySegs x) true]

def State.minuteNotices (s : State) : List Notice :=
  s.judgedNotices ++ (s.bt.table.filter s.startReached).flatMap s.startNotices

def State.minuteReports (s : State) : List Instr :=
  s.judgedReports ++ (s.bt.table.filter s.startReached).flatMap s.startReports ++
  (s.bt.table.filter s.prepareDue).map fun e => .entryStateChange e.fix.ref (entrySegs e) false

/-- The role told, entry by entry of the table before the minute. -/
theorem State.starts_told {α : Type} (s : State) (told : Entry → Role → List α) (own : Entry → List α)
    (still : ∀ e, told e .still = [])
    (reached : ∀ e, isActive e = false → e.fix.start ≤ s.now → told e (s.startRole e) = own e) :
    (s.judgedTable.flatMap fun x => told x (s.startRole x)) = (s.bt.table.filter s.startReached).flatMap own := by
  unfold State.judgedTable
  rw [flatMap_filterMap, ← flatMap_if]
  refine List.flatMap_congr fun e _ => ?_
  by_cases ha : isActive e = true
  · rw [State.startReached, ha, State.judgedFate_active ha]
    cases h : s.lasts e with
    | none => rfl
    | some y =>
      rw [Option.elim_some, State.startRole_active (State.lasts_some ha h).1, still]
      rfl
  · have idle := Bool.eq_false_iff.2 ha
    rw [State.judgedFate_idle idle, Option.elim_some, State.startReached, idle]
    by_cases begun : e.fix.start ≤ s.now
    · rw [reached e idle begun, decide_eq_true begun]
      rfl
    · rw [State.startRole_ahead (Nat.not_le.1 begun), still, decide_eq_false begun]
      rfl

/-- No two entries whose sessions start this minute share a segment. -/
abbrev State.StartsApart (s : State) : Prop := s.bt.table.Pairwise fun a b =>
  s.startsNow a = true → s.startsNow b = true → segsMeet (entrySegs a) (entrySegs b) = false

theorem State.judged_ready {s : State} (hu : (s.judgedTable.map (·.fix.ref)).Nodup) (apart : s.StartsApart) :
    Ready s.startRole s.judgedTable s.judgedTable := by
  refine ⟨hu, fun x hx _ => hx, fun x hx y hy same => eq_of_ref hu hy hx same, fun x _ moves => ?_, ?_⟩
  · exact Bool.eq_false_iff.2 fun ha => moves (State.startRole_active ha)
  · refine List.pairwise_filterMap.2 (apart.imp fun {a b} h x hx y hy startsX startsY => ?_)
    have unchanged {e z : Entry} (hz : s.judgedFate e = some z) (starts : s.startRole z = .starts) : z = e := by
      have idle := (State.startRole_starts.1 starts).1
      rw [State.judgedFate_idle ((State.judgedFate_some hz).1.symm.trans idle)] at hz
      exact (Option.some.inj hz).symm
    obtain rfl := unchanged hx startsX
    obtain rfl := unchanged hy startsY
    exact h (State.startsNow_iff.2 startsX) (State.startsNow_iff.2 startsY)

theorem State.prepareStep_eq {s u : State} (h : s.Rated u) (hu : u.UniqueRefs) :
    u.forEntries u.refs State.judgePrepare = u.treated (u.bt.table.filterMap fun y => (s.prepareTurn y).fate) []
      (u.bt.table.flatMap fun e => (s.prepareTurn e).reports) := by
  have sweep := State.forEntries_treated (P := s.Rated) (f := State.judgePrepare) (k := s.prepareTurn) h hu
    (fun u e h _ _ => ⟨h.1.turn e _, (congrFun (s.prepareTurn_rates e) _).trans h.2⟩)
    (fun u e h uniq he => by rw [State.judgePrepare_turn uniq he, h.prepareTurn]) s.prepareTurn_of s.prepareTurn_rates
  rw [List.flatMap_eq_nil_iff.2 fun e _ => s.prepareTurn_silent e] at sweep
  exact sweep

theorem State.judgedTable_thin (s : State) : Thinned s.judgedTable s.bt.table :=
  thinned_filterMap fun _ _ _ h => (State.judgedFate_some h).2

theorem State.btMinute_steps (s : State) :
    s.btMinute =
      let u := s.btJudge.forEntries s.btJudge.refs State.judgeStart
      u.forEntries u.refs State.judgePrepare := rfl

/-- BT's minute in a table in which no two starts meet. -/
theorem State.btMinute_eq {s : State} (hu : s.UniqueRefs) (apart : s.StartsApart) :
    s.btMinute = s.treated (s.bt.table.filterMap s.minuteFate) s.minuteNotices s.minuteReports := by
  have thin := s.judgedTable_thin
  have judged := State.btJudge_eq hu
  have ground : s.Ground s.btJudge := by
    rw [judged]
    exact (State.Ground.refl s).treated _ _ _
  have table : s.btJudge.bt.table = s.judgedTable := by rw [judged]; rfl
  have uniq : s.btJudge.UniqueRefs := by
    unfold State.UniqueRefs
    rw [table]
    exact thin.unique hu
  have round := State.round_exact s.judgeStart_casts s.judgedTable s.btJudge ground uniq
    (table ▸ State.judged_ready (thin.unique hu) apart)
  have refs : s.btJudge.refs = s.judgedTable.map (·.fix.ref) := by rw [← table]; rfl
  have startTable : s.judgedTable.filterMap (s.roundFate .schedule s.startRole s.judgedTable) =
      s.bt.table.filterMap s.startedFate := List.filterMap_filterMap
  have startThin : Thinned (s.bt.table.filterMap s.startedFate) s.judgedTable := by
    rw [← startTable]
    exact thinned_filterMap fun y _ x h => State.roundFate_fix h
  have startNotices : (s.judgedTable.flatMap fun x => s.roleNotices .schedule x (s.givenWay x) (s.startRole x)) =
      (s.bt.table.filter s.startReached).flatMap s.startNotices :=
    s.starts_told (fun x r => s.roleNotices .schedule x (s.givenWay x) r) _ (fun _ => rfl) fun e idle begun => by
      unfold State.startNotices
      by_cases past : e.fix.stop ≤ s.now
      · rw [State.startRole_missed idle begun past, if_pos past]
        rfl
      · rw [State.startRole_starts.2 ⟨idle, begun, Nat.not_le.1 past⟩, if_neg past]
        rfl
  have startReports : (s.judgedTable.flatMap fun x => s.roleReports x (s.givenWay x) (s.startRole x)) =
      (s.bt.table.filter s.startReached).flatMap s.startReports :=
    s.starts_told (fun x r => s.roleReports x (s.givenWay x) r) _ (fun _ => rfl) fun e idle begun => by
      unfold State.startReports
      by_cases past : e.fix.stop ≤ s.now
      · rw [State.startRole_missed idle begun past, if_pos past]
        rfl
      · rw [State.startRole_starts.2 ⟨idle, begun, Nat.not_le.1 past⟩, if_neg past]
        rfl
  rw [← refs] at round
  unfold State.rounded at round
  rw [table, startTable] at round
  simp only [s.given_judged, startNotices, startReports] at round
  have last : (s.bt.table.filterMap s.startedFate).filterMap (fun y => (s.prepareTurn y).fate) =
      s.bt.table.filterMap s.minuteFate := by
    rw [List.filterMap_filterMap]
    exact List.filterMap_congr fun e he => State.preparedFate_eq he
  have lastReports : ((s.bt.table.filterMap s.startedFate).flatMap fun e => (s.prepareTurn e).reports) =
      (s.bt.table.filter s.prepareDue).map fun e => .entryStateChange e.fix.ref (entrySegs e) false := by
    rw [flatMap_filterMap, List.flatMap_congr fun e he => State.prepares_eq he, flatMap_if, List.map_eq_flatMap]
  have lastThin : Thinned (s.bt.table.filterMap s.minuteFate) (s.bt.table.filterMap s.startedFate) := by
    rw [← last]
    exact thinned_filterMap fun y _ x h => s.prepareTurn_of y x h
  rw [State.btMinute_steps]
  simp only [round]
  rw [State.prepareStep_eq (s := s) ⟨ground.treated _ _ _, by rw [judged]; rfl⟩ (startThin.unique (thin.unique hu))]
  show State.treated _ ((s.bt.table.filterMap s.startedFate).filterMap _) _ ((s.bt.table.filterMap s.startedFate).flatMap _) = _
  rw [last, lastReports, judged]
  refine (State.treated_treated (s.treated s.judgedTable s.judgedNotices s.judgedReports) _ _ _ _ startThin lastThin).trans ?_
  refine (State.treated_treated s _ _ _ _ thin (lastThin.trans startThin)).trans ?_
  unfold State.minuteNotices State.minuteReports
  rw [List.append_nil, ← List.append_assoc]

end Sys2Proof.Machine

/-! What a minute leaves of any table with unique references, and what it makes of small tables. -/

namespace Sys2Proof.Machine

/-! ### Any table with unique references -/

/-- The starts once steps 1 to 3 are done. -/
def State.btStart (s : State) : State := s.btJudge.forEntries s.btJudge.refs State.judgeStart

theorem State.btJudge_ground {s : State} (hu : s.UniqueRefs) : s.Ground s.btJudge := by
  rw [State.btJudge_eq hu]
  exact (State.Ground.refl s).treated _ _ _

theorem State.btJudge_table {s : State} (hu : s.UniqueRefs) : s.btJudge.bt.table = s.judgedTable := by
  rw [State.btJudge_eq hu]
  rfl

theorem State.btJudge_unique {s : State} (hu : s.UniqueRefs) : s.btJudge.UniqueRefs := by
  unfold State.UniqueRefs
  rw [State.btJudge_table hu]
  exact s.judgedTable_thin.unique hu

/-- The starts leave the entries that stay and those that begin. -/
theorem State.mem_btStart {s : State} (hu : s.UniqueRefs) {y : Entry} (hy : y ∈ s.btStart.bt.table) :
    (y ∈ s.judgedTable ∧ (isActive y = true ∨ s.now < y.fix.start)) ∨
    ∃ x ∈ s.judgedTable, s.startRole x = .starts ∧ y = s.begunBy .schedule x := by
  have left := State.round_leaves s.judgeStart_casts s.btJudge.refs _ (State.btJudge_ground hu) (State.btJudge_unique hu)
    (State.btJudge_unique hu) y hy
  rw [State.btJudge_table hu] at left
  refine left.imp (fun ⟨mem, still⟩ => ⟨mem, State.startRole_still (still ?_)⟩) id
  exact List.mem_map_of_mem (by rw [State.btJudge_table hu]; exact mem)

theorem State.btStart_acts {s : State} (hu : s.UniqueRefs) : s.Ground s.btStart :=
  (State.btJudge_ground hu).trans (State.BtActs.forEntries State.judgeStart_acts _ _).ground

theorem State.round_thin {s : State} {cause : StartCause} {f : Entry → State → State} {role : Entry → Role}
    (casts : s.Casts cause f role) : ∀ (refs : List Nat) (u : State), s.Ground u → u.UniqueRefs →
      Thinned (u.forEntries refs f).bt.table u.bt.table ∧ (u.forEntries refs f).bt.rates = u.bt.rates
  | [], _, _, _ => ⟨List.Sublist.refl _, rfl⟩
  | ref :: refs, u, hg, hu => by
    rw [State.forEntries_cons]
    cases hent : u.entry? ref with
    | none => exact State.round_thin casts refs u hg hu
    | some e =>
      obtain ⟨he, -⟩ := State.entry?_mem hent
      have played := State.played_treated hu he cause (casts.idle e)
      rw [← State.tablePlayed_fates u cause hu he] at played
      have thin : Thinned (u.played cause e (role e)).bt.table u.bt.table := by
        rw [played]
        exact State.tablePlayed_fix cause hu he _
      obtain ⟨rest, rates⟩ := State.round_thin casts refs _ (hg.trans (u.played_ground cause e (role e))) (thin.unique hu)
      rw [Option.elim_some, casts.plays u e hg hu he]
      exact ⟨rest.trans thin, rates.trans (by rw [played]; rfl)⟩

theorem State.btMinute_table {s : State} (hu : s.UniqueRefs) :
    s.btMinute.bt.table = s.btStart.bt.table.filterMap fun y => (s.prepareTurn y).fate := by
  obtain ⟨thin, rates⟩ := State.round_thin s.judgeStart_casts s.btJudge.refs _ (State.btJudge_ground hu)
    (State.btJudge_unique hu)
  have rated : s.Rated s.btStart := ⟨State.btStart_acts hu, rates.trans (by rw [State.btJudge_eq hu]; rfl)⟩
  have uniq : s.btStart.UniqueRefs := thin.unique (State.btJudge_unique hu)
  exact congrArg (fun u : State => u.bt.table) (State.prepareStep_eq rated uniq)

/-- Nothing that is left in session is past its end. -/
theorem State.judged_inSession {s : State} {e y : Entry} (h : s.judgedFate e = some y) (hs : y.vol.state = .inSession) :
    s.now < y.fix.stop := by
  obtain ⟨active, fix⟩ := State.judgedFate_some h
  have ha : isActive e = true := active ▸ isActive_of_inSession hs
  rw [State.judgedFate_active ha] at h
  rw [fix]
  rcases active_cases ha with running | session
  · rw [State.lasts_overrun running] at h
    split at h
    · exact nomatch h
    · cases h
      exact absurd (running.symm.trans hs) EntryState.noConfusion
  · rw [State.lasts_inSession session] at h
    split at h
    · split at h
      · cases h
        exact absurd hs EntryState.noConfusion
      · exact nomatch h
    · next ahead => exact Nat.not_le.1 ahead

theorem State.btMinute_leaves {s : State} (hu : s.UniqueRefs) {e : Entry} (he : e ∈ s.btMinute.bt.table) :
    (isActive e = false → s.now < e.fix.start) ∧ (e.vol.state = .inSession → s.now < e.fix.stop) ∧
      ∃ e0 ∈ s.bt.table, e0.fix = e.fix := by
  rw [State.btMinute_table hu] at he
  obtain ⟨y, hy, fate⟩ := List.mem_filterMap.1 he
  have origin {x : Entry} (hx : x ∈ s.judgedTable) : ∃ e0 ∈ s.bt.table, s.judgedFate e0 = some x := List.mem_filterMap.1 hx
  rcases State.mem_btStart hu hy with ⟨hy, stays⟩ | ⟨x, hx, starts, rfl⟩
  · obtain ⟨e0, he0, judged⟩ := origin hy
    have fix := (State.judgedFate_some judged).2
    by_cases due : s.prepareDue y = true
    · unfold State.prepareTurn at fate
      rw [if_pos due] at fate
      cases fate
      exact ⟨fun _ => (State.prepareDue_planned due).2, (nomatch ·), e0, he0, fix.symm⟩
    · rw [State.prepareTurn_other (Bool.eq_false_iff.2 due)] at fate
      cases fate
      exact ⟨fun idle => stays.resolve_left (by rw [idle]; exact Bool.false_ne_true), State.judged_inSession judged,
        e0, he0, fix.symm⟩
  · obtain ⟨e0, he0, judged⟩ := origin hx
    rw [State.prepareTurn_other (s := s) (e := s.begunBy .schedule x) (State.prepareDue_other (nomatch ·))] at fate
    cases fate
    exact ⟨fun h => Bool.noConfusion h, fun _ => (State.startRole_starts.1 starts).2.2, e0, he0, (State.judgedFate_some judged).2.symm⟩

theorem State.endedBy_none {s : State} {e x : Entry} (ha : isActive e = true) (h : s.endedBy e = none)
    (hx : x ∈ s.bt.table) (starts : s.startsNow x = true) : segsMeet (entrySegs e) (entrySegs x) = false := by
  unfold State.endedBy at h
  rw [if_pos ha] at h
  have := List.find?_eq_none.1 h x hx
  rw [starts, Bool.true_and, segsMeet_comm] at this
  exact Bool.eq_false_iff.2 this

theorem State.btMinute_keeps {s : State} (hu : s.UniqueRefs) {e : Entry} (he : e ∈ s.bt.table)
    (fate : s.minuteFate e = some e) : e ∈ s.btMinute.bt.table := by
  have begins {x : Entry} (hx : x ∈ s.judgedTable) (starts : s.startRole x = .starts) : x ∈ s.bt.table := by
    obtain ⟨e0, he0, judged⟩ := List.mem_filterMap.1 hx
    have idle := (State.judgedFate_some judged).1.symm.trans (State.startRole_starts.1 starts).1
    rw [State.judgedFate_idle idle] at judged
    cases judged
    exact he0
  have stands (judged : s.judgedFate e = some e) (still : s.startRole e = .still)
      (apart : ∀ x ∈ s.judgedTable, s.startRole x = .starts → yields x e = false) (due : s.prepareDue e = false) :
      e ∈ s.btMinute.bt.table := by
    have mem : e ∈ s.btJudge.bt.table := by
      rw [State.btJudge_table hu]
      exact List.mem_filterMap.2 ⟨e, he, judged⟩
    rw [State.btMinute_table hu]
    refine List.mem_filterMap.2 ⟨e, State.round_keeps s.judgeStart_casts still _ _ (State.btJudge_ground hu)
      (State.btJudge_unique hu) mem (State.btJudge_table hu ▸ apart), ?_⟩
    rw [State.prepareTurn_other due]
    rfl
  unfold State.minuteFate at fate
  by_cases ha : isActive e = true
  · rw [if_pos ha] at fate
    split at fate
    · exact nomatch fate
    · next alone =>
      refine stands ((State.judgedFate_active ha).trans fate) (State.startRole_active ha) (fun x hx starts => ?_)
        (State.prepareDue_other (not_planned_of_active ha))
      rw [yields, State.endedBy_none ha (Option.not_isSome_iff_eq_none.1 alone) (begins hx starts)
        (State.startsNow_iff.2 starts), Bool.and_false]
  · have idle := Bool.eq_false_iff.2 ha
    rw [if_neg ha] at fate
    split at fate
    · split at fate
      · exact absurd (congrArg isActive (Option.some.inj fate)) (by rw [idle, State.begunBy_active]; exact Bool.noConfusion)
      · exact nomatch fate
    · next ahead =>
      split at fate
      · next due =>
        have state := congrArg (fun x : Entry => x.vol.state) (Option.some.inj fate)
        exact absurd ((State.prepareDue_planned due).1.symm.trans state.symm) EntryState.noConfusion
      · next due =>
        exact stands (State.judgedFate_idle idle) (State.startRole_ahead (Nat.not_le.1 ahead))
          (fun x _ _ => by rw [yields, idle, Bool.false_and]) (Bool.eq_false_iff.2 due)

/-! ### A table of one entry -/

theorem map_filter_lone {α β : Type} (p : α → Bool) (f : α → β) (e : α) :
    ([e].filter p).map f = if p e = true then [f e] else [] := by
  by_cases h : p e = true
  · rw [List.filter_cons_of_pos h, if_pos h]
    rfl
  · rw [List.filter_cons_of_neg h, if_neg h]
    rfl

theorem flatMap_filter_lone {α β : Type} (p : α → Bool) (f : α → List β) (e : α) :
    ([e].filter p).flatMap f = if p e = true then f e else [] := by
  rw [← flatMap_if, List.flatMap_singleton]

theorem State.endedBy_lone {s : State} {e : Entry} (he : s.bt.table = [e]) : s.endedBy e = none := by
  unfold State.endedBy
  split
  · next ha =>
    rw [he]
    refine List.find?_eq_none.2 fun x hx => ?_
    rw [List.mem_singleton.1 hx, State.startsNow, ha]
    exact Bool.false_ne_true
  · rfl

/-- The minute of a table of one entry. -/
theorem State.minute_lone {s : State} {e : Entry} (he : s.bt.table = [e]) :
    s.btMinute = s.treated (s.minuteFate e).toList
      ((if overLimit e = true then [.sessionEnded (endedFields ⟨e.fix, s.counted e⟩ s.now .overrunLimit)] else []) ++
        (if (!s.entryObserved e && s.endReached e) = true
          then [.sessionEnded (endedFields ⟨e.fix, s.counted e⟩ s.now .schedule)] else []) ++
        (if s.unseen e = true then [releasedNotice e] else []) ++
        (if s.startReached e = true then s.startNotices e else []))
      ((if overLimit e = true then s.endReports e else []) ++
        (if s.endReached e = true then
          (if s.entryObserved e = true then [.entryStateChange e.fix.ref (entrySegs e) false] else s.endReports e) else []) ++
        (if s.unseen e = true then [.entryStateChange e.fix.ref (entrySegs e) false] else []) ++
        (if s.startReached e = true then s.startReports e else []) ++
        (if s.prepareDue e = true then [.entryStateChange e.fix.ref (entrySegs e) false] else [])) := by
  have uniq : s.UniqueRefs := by
    rw [State.UniqueRefs, he]
    exact List.nodup_singleton _
  have apart : s.StartsApart := by
    rw [State.StartsApart, he]
    exact List.pairwise_singleton _ _
  have table : [e].filterMap s.minuteFate = (s.minuteFate e).toList := by
    cases h : s.minuteFate e with
    | none => rw [List.filterMap_cons_none h]; rfl
    | some x => rw [List.filterMap_cons_some h]; rfl
  rw [State.btMinute_eq uniq apart]
  unfold State.minuteNotices State.minuteReports State.judgedNotices State.judgedReports
  rw [he, table]
  simp only [List.filter_filter, map_filter_lone, flatMap_filter_lone]

end Sys2Proof.Machine

/-! MINUTE EVENT in RUN against the table (R50). -/

namespace Sys2Proof.Machine

/-! ### Which steps concern an entry -/

theorem State.steps_idle {e : Entry} (h : isActive e = false) (s : State) :
    overLimit e = false ∧ s.endReached e = false ∧ s.unseen e = false := by
  have other {x : EntryState} (hx : isActiveState x = true) : e.vol.state ≠ x := fun k => by
    rw [isActive, k, hx] at h
    exact Bool.noConfusion h
  refine ⟨?_, ?_, ?_⟩
  · rw [overLimit, beq_eq_false_iff_ne.2 (other rfl)]; rfl
  · rw [State.endReached, beq_eq_false_iff_ne.2 (other rfl)]; rfl
  · rw [State.unseen, beq_eq_false_iff_ne.2 (other rfl)]; rfl

theorem State.steps_active {e : Entry} (h : isActive e = true) (s : State) :
    s.startReached e = false ∧ s.prepareDue e = false := by
  refine ⟨?_, State.prepareDue_other (not_planned_of_active h)⟩
  rw [State.startReached, h]; rfl

theorem State.steps_overrun {e : Entry} (h : e.vol.state = .overrun) (s : State) :
    overLimit e = decide (119 ≤ e.vol.overrunMinutes.getD 0) ∧ s.endReached e = false ∧ s.unseen e = false := by
  unfold overLimit State.endReached State.unseen
  rw [h]
  exact ⟨rfl, rfl, rfl⟩

theorem State.steps_inSession {e : Entry} (h : e.vol.state = .inSession) (s : State) :
    s.endReached e = decide (e.fix.stop ≤ s.now) ∧ s.unseen e = (decide (s.now < e.fix.stop) && s.absent e) := by
  unfold State.endReached State.unseen
  rw [h]
  exact ⟨rfl, rfl⟩

theorem State.givenWay_lone {s : State} {e : Entry} (he : s.bt.table = [e]) (x : Entry) : s.givenWay x = [] := by
  unfold State.givenWay
  rw [he, List.filter_cons_of_neg (by rw [State.endedBy_lone he]; exact Bool.false_ne_true)]
  rfl

/-- A lone entry that is not active, its start reached. -/
theorem State.minute_lone_reached {s : State} {e : Entry} (he : s.bt.table = [e]) (idle : isActive e = false)
    (begun : e.fix.start ≤ s.now) :
    s.btMinute = s.treated (if s.now < e.fix.stop then [s.begunBy .schedule e] else [])
      (if e.fix.stop ≤ s.now then [.missed e.fix.ref e.fix.kind (entrySegs e) e.fix.start e.fix.stop .timePassed]
        else [.sessionStarted (startedFields e.fix s.now .schedule)])
      (if e.fix.stop ≤ s.now then (if e.vol.state = .planned then [] else [.entryStateChange e.fix.ref (entrySegs e) false])
        else [.entryStateChange e.fix.ref (entrySegs e) true]) := by
  obtain ⟨limit, ended, unseen⟩ := State.steps_idle idle s
  have reached : s.startReached e = true := by rw [State.startReached, idle, decide_eq_true begun]; rfl
  have fate : (s.minuteFate e).toList = if s.now < e.fix.stop then [s.begunBy .schedule e] else [] := by
    unfold State.minuteFate
    rw [if_neg (by rw [idle]; exact Bool.false_ne_true), if_pos begun]
    split <;> rfl
  rw [State.minute_lone he, fate, limit, ended, unseen, reached, State.prepareDue_begun begun]
  unfold State.startNotices State.startReports
  rw [State.givenWay_lone he, Bool.and_false]
  simp only [Bool.false_eq_true, if_false, if_true, List.nil_append, List.append_nil, List.map_nil, List.flatMap_nil]

/-- A lone active entry. -/
theorem State.minute_lone_active {s : State} {e : Entry} (he : s.bt.table = [e]) (ha : isActive e = true) :
    s.btMinute = s.treated (s.lasts e).toList
      ((if overLimit e = true then [.sessionEnded (endedFields ⟨e.fix, s.counted e⟩ s.now .overrunLimit)] else []) ++
        (if (!s.entryObserved e && s.endReached e) = true
          then [.sessionEnded (endedFields ⟨e.fix, s.counted e⟩ s.now .schedule)] else []) ++
        (if s.unseen e = true then [releasedNotice e] else []))
      ((if overLimit e = true then s.endReports e else []) ++
        (if s.endReached e = true then
          (if s.entryObserved e = true then [.entryStateChange e.fix.ref (entrySegs e) false] else s.endReports e) else []) ++
        (if s.unseen e = true then [.entryStateChange e.fix.ref (entrySegs e) false] else [])) := by
  obtain ⟨reached, due⟩ := State.steps_active ha s
  have fate : s.minuteFate e = s.lasts e := by
    unfold State.minuteFate
    rw [if_pos ha, State.endedBy_lone he]
    rfl
  rw [State.minute_lone he, fate, reached, due]
  simp only [Bool.false_eq_true, if_false, List.append_nil]

/-- A lone entry ahead of its start. -/
theorem State.minute_lone_ahead {s : State} {e : Entry} (he : s.bt.table = [e]) (idle : isActive e = false)
    (ahead : s.now < e.fix.start) :
    s.btMinute = s.treated [if s.prepareDue e = true then ⟨e.fix, s.preparing e⟩ else e] []
      (if s.prepareDue e = true then [.entryStateChange e.fix.ref (entrySegs e) false] else []) := by
  obtain ⟨limit, ended, unseen⟩ := State.steps_idle idle s
  have reached : s.startReached e = false := by
    rw [State.startReached, decide_eq_false (Nat.not_le.2 ahead), Bool.and_false]
  have fate : (s.minuteFate e).toList = [if s.prepareDue e = true then ⟨e.fix, s.preparing e⟩ else e] := by
    unfold State.minuteFate
    rw [if_neg (by rw [idle]; exact Bool.false_ne_true), if_neg (Nat.not_le.2 ahead)]
    split <;> rfl
  rw [State.minute_lone he, fate, limit, ended, unseen, reached, Bool.and_false]
  simp only [Bool.false_eq_true, if_false, List.nil_append]

/-! ### The event -/

/-- What the minute event makes of the clock and of AL at the minute n, before BT's steps. -/
def State.roundAt (s : State) (n : Nat) : State :=
  ({ s.take .minuteEvent with tb := ⟨n, 0, true, 0, false⟩ } : State).evalAll

theorem minuteEvent_runs {s : State} {n : Nat} (ha : s.alive = true) (hv : s.tb.valid = true) (hr : s.inRun = true)
    (hn : n = min 4294967295 (s.tb.minutes + 1)) : exec .minuteEvent s = .next (s.roundAt n).btMinute.drive := by
  rw [hn]
  exact congrArg Host.Outcome.next ((State.event_taken ha .minuteEvent _).trans
    (congrArg State.drive ((State.minuteEvent_taken hv).trans (if_pos hr))))

theorem State.roundAt_notified (s : State) (n : Nat) (ns : List Notice) :
    ((s.roundAt n).notifyAll ns).nq = (({ s with tb := ⟨n, 0, true, 0, false⟩ } : State).notifyAll ns).nq :=
  State.notifyAll_nq (s := { s with tb := ⟨n, 0, true, 0, false⟩ }) (u := s.roundAt n) rfl rfl ns

/-- Where no entry has left, the image stands. -/
theorem State.treated_bt_kept (s : State) {table : List Entry} (h : ¬ table.length < s.bt.table.length)
    (notices : List Notice) (reports : List Instr) :
    (s.treated table notices reports).bt = { s.bt with table := table } := by
  rw [State.treated_bt, if_neg h]

theorem State.treated_bt_gone (s : State) {table : List Entry} (h : table.length < s.bt.table.length)
    (notices : List Notice) (reports : List Instr) :
    (s.treated table notices reports).bt = { s.bt with table := table, stored := table.map (·.fix) } := by
  rw [State.treated_bt, if_pos h]

theorem State.tempError_eq (s : State) (g : Segs) (p : Nat) :
    s.tempError g p = if s.okTemps g = [] then none else
      some (((2 * (s.okTemps g).sum + (s.okTemps g).length) / (2 * (s.okTemps g).length) - (p : Int)).natAbs) := by
  unfold State.tempError
  rw [meanTemp?_eq]
  split <;> rfl

theorem State.notifyAll_one (s : State) (n : Notice) :
    (s.notifyAll [n]).nq.list.getLast? = some ⟨s.nq.counter, s.stampMinute, n⟩ := List.getLast?_concat

/-- Two sessions that start at one minute share no segment of a sound table (R11). -/
theorem State.startsApart_of_apart {s : State} (h : Apart (s.bt.table.map (·.fix))) : s.StartsApart := by
  refine (List.pairwise_map.1 h).imp fun {a b} clear startsA startsB => ?_
  obtain ⟨-, beginA, aheadA⟩ := State.startRole_starts.1 (State.startsNow_iff.1 startsA)
  obtain ⟨-, beginB, aheadB⟩ := State.startRole_starts.1 (State.startsNow_iff.1 startsB)
  have meet : clash a.fix b.fix = segsMeet (entrySegs a) (entrySegs b) := by
    unfold clash
    rw [decide_eq_true (Nat.lt_of_le_of_lt beginA aheadB), decide_eq_true (Nat.lt_of_le_of_lt beginB aheadA),
      Bool.and_true, Bool.and_true]
    rfl
  exact meet.symm.trans clear

theorem uniqueRefs_of_ordered {s : State} (h : Ordered (s.bt.table.map (·.fix))) : s.UniqueRefs :=
  List.pairwise_map.2 ((List.pairwise_map.1 h).imp fun {_ _} k => k.2)

/-- In a table whose image is stored the image goes with it. -/
theorem State.treated_bt_stored {s : State} (stored : s.StoredImage) {table : List Entry}
    (thin : Thinned table s.bt.table) (notices : List Notice) (reports : List Instr) :
    (s.treated table notices reports).bt = { s.bt with table := table, stored := table.map (·.fix) } := by
  rw [State.treated_bt]
  have image : (if table.length < s.bt.table.length then table.map (·.fix) else s.bt.stored) = table.map (·.fix) := by
    split
    · rfl
    · next h =>
      rw [stored]
      refine (List.Sublist.eq_of_length thin ?_).symm
      have le := Thinned.length_le thin
      rw [List.length_map, List.length_map]
      omega
  rw [image]

theorem State.minuteFate_fix {s : State} {e x : Entry} (h : s.minuteFate e = some x) : x.fix = e.fix := by
  unfold State.minuteFate at h
  split at h
  · next ha =>
    split at h
    · exact nomatch h
    · exact (State.lasts_some ha h).2
  · split at h
    · split at h
      · cases h
        rfl
      · exact nomatch h
    · split at h <;> cases h <;> rfl

/-- The first clause: a lone entry, not active, its start reached. -/
theorem lone_reached {s : State} {e : Entry} {n : Nat} (ha : s.alive = true) (hv : s.tb.valid = true)
    (hr : s.inRun = true) (he : s.bt.table = [e]) (idle : isActive e = false)
    (hn : n = min 4294967295 (s.tb.minutes + 1)) (begun : e.fix.start ≤ n) :
    ∃ t, exec .minuteEvent s = .next t ∧
      (n < e.fix.stop →
        t.bt = { s.bt with table :=
          [{ e with vol := begunVolatile s.comm e.fix n .schedule (s.entryObserved e) e.vol }] } ∧
        t.nq.list.getLast? = some ⟨s.nq.counter, n, .sessionStarted ⟨e.fix.ref, e.fix.kind,
          ⟨e.fix.first, e.fix.span⟩, e.fix.start, e.fix.stop, n, .schedule⟩⟩ ∧
        t.reports.getLast? = some (.entryStateChange e.fix.ref ⟨e.fix.first, e.fix.span⟩ true)) ∧
      (e.fix.stop ≤ n →
        t.bt = { s.bt with table := [], stored := [] } ∧
        t.nq.list.getLast? = some ⟨s.nq.counter, n, .missed e.fix.ref e.fix.kind
          ⟨e.fix.first, e.fix.span⟩ e.fix.start e.fix.stop .timePassed⟩) := by
  refine ⟨_, minuteEvent_runs ha hv hr hn, ?_⟩
  have minute := State.minute_lone_reached (s := s.roundAt n) he idle begun
  generalize (s.roundAt n).btMinute = w at minute
  have lone : (s.roundAt n).bt.table.length = 1 := congrArg List.length he
  refine ⟨fun (ahead : (s.roundAt n).now < e.fix.stop) => ?_, fun (past : e.fix.stop ≤ (s.roundAt n).now) => ?_⟩
  · rw [if_pos ahead, if_neg (Nat.not_le.2 ahead), if_neg (Nat.not_le.2 ahead)] at minute
    have bt := congrArg State.bt minute
    rw [State.treated_bt_kept _ (by rw [lone]; exact Nat.lt_irrefl 1)] at bt
    refine ⟨bt, ?_, ?_⟩
    · rw [minute]
      exact State.notifyAll_one _ _
    · rw [minute]
      exact List.getLast?_concat
  · rw [if_neg (Nat.not_lt.2 past), if_pos past, if_pos past] at minute
    have bt := congrArg State.bt minute
    rw [State.treated_bt_gone _ (by rw [lone]; exact Nat.zero_lt_one)] at bt
    refine ⟨bt, ?_⟩
    rw [minute]
    exact State.notifyAll_one _ _

/-- What the minute n leaves of a lone entry, the notices all told and some of the reports. -/
def Becomes (s : State) (n : Nat) (table : List Entry) (notices : List Notice) (reports : List Instr) : Prop :=
  ∃ t, exec .minuteEvent s = .next t ∧ t.bt.table = table ∧ t.bt.rates = s.bt.rates ∧
    (table = [] → t.bt.stored = []) ∧
    t.nq = (({ s with tb := ⟨n, 0, true, 0, false⟩ } : State).notifyAll notices).nq ∧
    ∀ c ∈ reports, c ∈ t.reports

theorem becomes_of {s : State} {n : Nat} {e : Entry} (ha : s.alive = true) (hv : s.tb.valid = true)
    (hr : s.inRun = true) (he : s.bt.table = [e]) (hn : n = min 4294967295 (s.tb.minutes + 1)) {table : List Entry}
    {notices : List Notice} {reports : List Instr}
    (h : (s.roundAt n).btMinute = (s.roundAt n).treated table notices reports) : Becomes s n table notices reports := by
  refine ⟨_, minuteEvent_runs ha hv hr hn, ?_⟩
  generalize (s.roundAt n).btMinute = w at h
  have lone : (s.roundAt n).bt.table.length = 1 := congrArg List.length he
  refine ⟨by rw [h]; rfl, by rw [h]; rfl, fun gone => ?_, ?_, fun c hc => ?_⟩
  · have bt := congrArg State.bt h
    rw [State.treated_bt_gone _ (by rw [lone, gone]; exact Nat.zero_lt_one)] at bt
    exact (congrArg Bt.stored bt).trans (by rw [gone]; rfl)
  · rw [h]
    exact s.roundAt_notified n notices
  · rw [h]
    exact List.mem_append_right _ hc

/-- A lone OVERRUN entry (R49). -/
theorem becomes_overrun {s : State} {n : Nat} {e : Entry} (ha : s.alive = true) (hv : s.tb.valid = true)
    (hr : s.inRun = true) (he : s.bt.table = [e]) (hn : n = min 4294967295 (s.tb.minutes + 1))
    (running : e.vol.state = .overrun) :
    (119 ≤ e.vol.overrunMinutes.getD 0 →
      Becomes s n [] [.sessionEnded (endedFields ⟨e.fix, s.counted e⟩ n .overrunLimit)] (s.endReports e)) ∧
    (e.vol.overrunMinutes.getD 0 < 119 → Becomes s n [⟨e.fix, s.counted e⟩] [] []) := by
  have minute := State.minute_lone_active (s := s.roundAt n) he (isActive_of_overrun running)
  obtain ⟨limit, ended, unseen⟩ := State.steps_overrun running (s.roundAt n)
  rw [State.lasts_overrun running, ended, unseen, limit, Bool.and_false] at minute
  refine ⟨fun long => becomes_of ha hv hr he hn ?_, fun short => becomes_of ha hv hr he hn ?_⟩
  · rw [decide_eq_true long] at minute
    exact minute
  · rw [decide_eq_false (Nat.not_le.2 short)] at minute
    exact minute

/-- A lone IN_SESSION entry (R43, R44). -/
theorem becomes_inSession {s : State} {n : Nat} {e : Entry} (ha : s.alive = true) (hv : s.tb.valid = true)
    (hr : s.inRun = true) (he : s.bt.table = [e]) (hn : n = min 4294967295 (s.tb.minutes + 1))
    (session : e.vol.state = .inSession) :
    (e.fix.stop ≤ n →
      (s.entryObserved e = true → Becomes s n [⟨e.fix, overrunning (s.counted e)⟩] []
        [.entryStateChange e.fix.ref (entrySegs e) false]) ∧
      (s.entryObserved e = false →
        Becomes s n [] [.sessionEnded (endedFields ⟨e.fix, s.counted e⟩ n .schedule)] (s.endReports e))) ∧
    (n < e.fix.stop →
      ((s.roundAt n).absent e = true →
        Becomes s n [] [releasedNotice e] [.entryStateChange e.fix.ref (entrySegs e) false]) ∧
      ((s.roundAt n).absent e = false → Becomes s n [⟨e.fix, s.counted e⟩] [] [])) := by
  have minute := State.minute_lone_active (s := s.roundAt n) he (isActive_of_inSession session)
  obtain ⟨ended, unseen⟩ := State.steps_inSession session (s.roundAt n)
  rw [State.lasts_inSession session, ended, unseen, not_overLimit_of_inSession session] at minute
  refine ⟨fun (past : e.fix.stop ≤ (s.roundAt n).now) => ?_, fun (ahead : (s.roundAt n).now < e.fix.stop) => ?_⟩
  · rw [if_pos past, decide_eq_true past, decide_eq_false (Nat.not_lt.2 past)] at minute
    refine ⟨fun (seen : (s.roundAt n).entryObserved e = true) => becomes_of ha hv hr he hn ?_,
      fun (unseen : (s.roundAt n).entryObserved e = false) => becomes_of ha hv hr he hn ?_⟩
    · rw [seen] at minute
      exact minute
    · rw [unseen] at minute
      exact minute
  · rw [if_neg (Nat.not_le.2 ahead), decide_eq_false (Nat.not_le.2 ahead), decide_eq_true ahead, Bool.and_false,
      Bool.true_and] at minute
    refine ⟨fun gone => becomes_of ha hv hr he hn ?_, fun stays => becomes_of ha hv hr he hn ?_⟩
    · rw [gone] at minute
      exact minute
    · rw [stays] at minute
      exact minute

/-- A lone entry ahead of its start (R33, R34). -/
theorem becomes_ahead {s : State} {n : Nat} {e : Entry} (ha : s.alive = true) (hv : s.tb.valid = true)
    (hr : s.inRun = true) (he : s.bt.table = [e]) (hn : n = min 4294967295 (s.tb.minutes + 1))
    (idle : isActive e = false) (ahead : n < e.fix.start) :
    ((s.roundAt n).prepareDue e = true → Becomes s n [⟨e.fix, (s.roundAt n).preparing e⟩] []
      [.entryStateChange e.fix.ref (entrySegs e) false]) ∧
    ((s.roundAt n).prepareDue e = false → Becomes s n [e] [] []) := by
  have minute := State.minute_lone_ahead (s := s.roundAt n) he idle ahead
  refine ⟨fun due => becomes_of ha hv hr he hn ?_, fun due => becomes_of ha hv hr he hn ?_⟩
  · rw [due] at minute
    exact minute
  · rw [due] at minute
    exact minute

/-- The clause of two entries, of which an OVERRUN one gives way. -/
theorem pair_gives_way {s : State} {a b : Entry} {n : Nat} (hab : s.bt.table = [a, b]) (refs : a.fix.ref ≠ b.fix.ref)
    (running : a.vol.state = .overrun)
    (short : a.vol.overrunMinutes.getD 0 < 119) (idle : isActive b = false) (begun : b.fix.start ≤ n)
    (ahead : n < b.fix.stop) (meets : segsMeet (entrySegs a) (entrySegs b) = true) :
    (s.roundAt n).btMinute = (s.roundAt n).treated
      [{ b with vol := begunVolatile s.comm b.fix n .schedule (s.entryObserved b) b.vol }]
      [.sessionEnded (endedFields ⟨a.fix, s.counted a⟩ n .nextBooking), .sessionStarted (startedFields b.fix n .schedule)]
      (s.roundAt n).minuteReports := by
  generalize hu : s.roundAt n = u
  have table : u.bt.table = [a, b] := by rw [← hu]; exact hab
  have now : u.now = n := by rw [← hu]; rfl
  have active := isActive_of_overrun running
  have startsB : u.startsNow b = true := by
    rw [State.startsNow, idle, now, decide_eq_true begun, decide_eq_true ahead]; rfl
  have startsA : u.startsNow a = false := by rw [State.startsNow, active]; rfl
  have apart : u.StartsApart := by
    rw [State.StartsApart, table]
    refine List.pairwise_pair.2 fun starts => ?_
    exact absurd starts (by rw [startsA]; exact Bool.false_ne_true)
  have uniq : u.UniqueRefs := by
    rw [State.UniqueRefs, table]
    exact List.nodup_cons.2 ⟨fun h => refs (List.mem_singleton.1 h), List.nodup_singleton _⟩
  have endedA : u.endedBy a = some b := by
    unfold State.endedBy
    rw [if_pos active, table, List.find?_cons_of_neg (by rw [startsA]; exact Bool.false_ne_true),
      List.find?_cons_of_pos (by rw [startsB, segsMeet_comm, meets]; rfl)]
  have lastsA : u.lasts a = some ⟨a.fix, u.counted a⟩ := by
    rw [State.lasts_overrun running, overLimit, decide_eq_false (Nat.not_le.2 short), Bool.and_false]
    rfl
  have fateA : u.minuteFate a = none := by
    unfold State.minuteFate
    rw [if_pos active, endedA]
    rfl
  have fateB : u.minuteFate b = some (u.begunBy .schedule b) := by
    unfold State.minuteFate
    rw [if_neg (by rw [idle]; exact Bool.false_ne_true), now, if_pos begun, if_pos ahead]
  have left : u.bt.table.filterMap u.minuteFate = [u.begunBy .schedule b] := by
    rw [table, List.filterMap_cons_none fateA, List.filterMap_cons_some fateB]
    rfl
  have given : u.givenWay b = [⟨a.fix, u.counted a⟩] := by
    unfold State.givenWay
    rw [table, List.filter_cons_of_pos (by rw [endedA]; exact beq_self_eq_true _),
      List.filter_cons_of_neg (by rw [State.endedBy_idle idle]; exact Bool.false_ne_true), List.filter_nil,
      List.filterMap_cons_some lastsA]
    rfl
  have told : u.minuteNotices = [.sessionEnded (endedFields ⟨a.fix, u.counted a⟩ u.now .nextBooking),
      .sessionStarted (startedFields b.fix u.now .schedule)] := by
    obtain ⟨limitA, endedA, unseenA⟩ := State.steps_overrun running u
    obtain ⟨limitB, endedB, unseenB⟩ := State.steps_idle idle u
    rw [decide_eq_false (Nat.not_le.2 short)] at limitA
    have reachedA := (State.steps_active active u).1
    have reachedB : u.startReached b = true := by rw [State.startReached, idle, now, decide_eq_true begun]; rfl
    unfold State.minuteNotices State.judgedNotices State.startNotices
    simp only [table, List.filter_cons, List.filter_nil, limitA, limitB, endedA, endedB, unseenA, unseenB, reachedA,
      reachedB, Bool.false_eq_true, if_false, if_true, List.flatMap_singleton, given, now, Nat.not_le.2 ahead]
    rfl
  rw [State.btMinute_eq uniq apart, left, told, now, ← hu]
  rfl

/-- Settles O5: the lone entry, the sound table and the pair by the whole minute; any table by what a round leaves. -/
theorem minuteEventTreatsTheTable : Obligations.MinuteEventTreatsTheTable := by
  refine ⟨fun s e n ha hv hr he idle hn begun => lone_reached ha hv hr he idle hn begun, fun s n ha hv hr hn => ?_,
    fun s a b n ha hv hr hab refs hn running short idle begun ahead meets => ?_, fun c f now cause seen v => ?_⟩
  · intro table segs change seen ran counted overruns ended released ends becomes absent temps error rate lead due prepared begun
    have error_eq (e : Entry) (g : Segs) : (s.roundAt n).tempError g (storedSetpoint s.comm e.fix) = error e g := by
      rw [State.tempError_eq, State.okTemps_eq]
      rfl
    have lead_eq (e : Entry) : (s.roundAt n).leadOf e.fix = lead e := by
      have own : (s.roundAt n).tempError (fixedSegs e.fix) (storedSetpoint (s.roundAt n).comm e.fix) = error e (segs e) :=
        error_eq e (segs e)
      simp only [lead]
      unfold State.leadOf
      rw [own]
      cases e.fix.lead with
      | some l => rfl
      | none => cases error e (segs e) <;> rfl
    have due_eq (e : Entry) : (s.roundAt n).prepareDue e = due e := by
      unfold State.prepareDue
      rw [lead_eq]
      rfl
    have prepared_eq (e : Entry) : ⟨e.fix, (s.roundAt n).preparing e⟩ = prepared e := by
      have own : (s.roundAt n).tempError ((s.roundAt n).homeGroup e.fix) (storedSetpoint (s.roundAt n).comm e.fix) =
          error e (s.homeGroup e.fix) := error_eq e (s.homeGroup e.fix)
      unfold State.preparing
      rw [lead_eq, own]
      rfl
    refine ⟨fun e he => ⟨becomes_overrun ha hv hr he hn, fun session past => ?_, fun session ahead =>
      (becomes_inSession ha hv hr he hn session).2 ahead, fun planned ahead => ?_, fun prep ahead => ?_⟩, ?_⟩
    · obtain ⟨seen, unseen⟩ := (becomes_inSession ha hv hr he hn session).1 past
      have minutes : (s.counted e).overrunMinutes = e.vol.overrunMinutes :=
        if_neg (by rw [session]; exact EntryState.noConfusion)
      rw [overrunning, minutes] at seen
      exact ⟨seen, unseen⟩
    · have idle := planned_idle (beq_iff_eq.2 planned)
      obtain ⟨isDue, notDue⟩ := becomes_ahead ha hv hr he hn idle ahead
      rw [due_eq, prepared_eq] at isDue
      rw [due_eq] at notDue
      exact ⟨isDue, notDue⟩
    · have idle : isActive e = false := by
        refine Bool.eq_false_iff.2 fun active => ?_
        rcases active_cases active with h | h <;> rw [isPrepared, h] at prep <;> exact Bool.noConfusion prep
      refine (becomes_ahead ha hv hr he hn idle ahead).2 (State.prepareDue_other fun planned => ?_)
      rw [isPrepared, planned] at prep
      exact Bool.noConfusion prep
    · intro starts endedBy lasts fate
      have fate_eq (e : Entry) : (s.roundAt n).minuteFate e = fate e := by
        unfold State.minuteFate
        rw [due_eq, prepared_eq]
        rfl
      have leaves := fun uniq e he => State.btMinute_leaves (s := s.roundAt n) uniq (e := e) he
      have keeps := fun uniq e he => State.btMinute_keeps (s := s.roundAt n) uniq (e := e) he
      have whole := fun ordered apart => State.btMinute_eq (s := s.roundAt n) (uniqueRefs_of_ordered ordered)
        (State.startsApart_of_apart apart)
      have runs := minuteEvent_runs ha hv hr hn
      generalize (s.roundAt n).btMinute = w at leaves keeps whole runs
      refine ⟨_, runs, fun uniq => ⟨fun e he => leaves uniq e he, fun e he kept => keeps uniq e he ((fate_eq e).trans kept)⟩,
        fun ⟨stored, _, ordered, apart, _⟩ => ?_⟩
      intro limited judged unseen reached givenWay
      have minute := whole ordered apart
      have left : (s.roundAt n).bt.table.filterMap (s.roundAt n).minuteFate = table.filterMap fate :=
        List.filterMap_congr fun e _ => fate_eq e
      have thin : Thinned (table.filterMap fate) (s.roundAt n).bt.table := by
        rw [← left]
        exact thinned_filterMap fun _ _ _ h => State.minuteFate_fix h
      have dueTable : table.filter due = (s.roundAt n).bt.table.filter (s.roundAt n).prepareDue :=
        List.filter_congr fun e _ => (due_eq e).symm
      rw [left] at minute
      refine ⟨?_, ?_, ?_⟩
      · have bt := congrArg State.bt minute
        rw [State.treated_bt_stored (s := s.roundAt n) stored thin] at bt
        exact bt
      · have nq : w.nq = ((s.roundAt n).notifyAll (s.roundAt n).minuteNotices).nq := by rw [minute]; rfl
        exact nq.trans (s.roundAt_notified n _)
      · have al : w.al = (s.roundAt n).al := by rw [minute]; rfl
        have reports : w.reports = (s.roundAt n).reports ++ (s.roundAt n).minuteReports := by rw [minute]; rfl
        unfold State.minuteReports State.judgedReports at reports
        rw [← dueTable, ← List.append_assoc, ← List.append_assoc, ← List.append_assoc, ← List.append_assoc] at reports
        show w.reports = s.reports.erase .minuteEvent ++ [.demandUpdate (demandFigs w.al.loops)] ++
          settledReports s.al.loops w.al.loops ++ _ ++ _ ++ _ ++ _ ++ _
        rw [al]
        exact reports
  · have minute := pair_gives_way hab refs running short idle begun ahead meets
    refine ⟨_, endedFields ⟨a.fix, s.counted a⟩ n .nextBooking, minuteEvent_runs ha hv hr hn, ?_⟩
    generalize (s.roundAt n).btMinute = w at minute
    have overrun : (s.counted a).overrunMinutes = some (a.vol.overrunMinutes.getD 0 + 1) := if_pos running
    refine ⟨by rw [minute]; rfl, rfl, rfl, ?_, rfl, ?_⟩
    · exact congrArg (Option.getD · 0) overrun
    · rw [minute]
      exact s.roundAt_notified n _
  · unfold begunVolatile storedSetpoint bookedScene
    cases v.liveSetpoint <;> rfl

end Sys2Proof.Machine

/-! The partitions read and accepted at once (R71, R74, R88), and the blocks that a restart rebuilds (R193). -/

namespace Sys2Proof.Machine

/-! ### Partitions read afresh -/

/-- A position as the first check of its fault leaves it (R74). -/
def Partition.checked (r : Partition) : Partition := { r with reported := r.accepted == .fault }

/-- A position read and accepted at once, its fault reported (R71, R74). -/
def State.foundPart (s : State) (p : Part) : Partition := (s.readPart p).checked

def State.foundParts (s : State) : Three Partition := ⟨s.foundPart 0, s.foundPart 1, s.foundPart 2⟩

theorem State.foundParts_get (s : State) (p : Part) : s.foundParts.get p = s.foundPart p := by
  fin_cases p <;> rfl

/-- The notice of a position found FAULT (R74). -/
def faultOf (p : Part) (r : Partition) : List Notice :=
  if r.accepted == .fault then [.partitionFault p .fault] else []

def State.faultsRead (s : State) : List Notice := allParts.flatMap fun p => faultOf p (s.readPart p)

theorem State.readPart_reported (s : State) (p : Part) : (s.readPart p).reported = false := by
  unfold State.readPart
  split
  · dsimp only
    cases readingOf (s.lm.parts.get p).closedMade (s.lm.parts.get p).openMade <;> rfl
  · rfl

theorem Three.set_get {α : Type} (v : Three α) (p : Part) : v.set p (v.get p) = v := by
  fin_cases p <;> rfl

theorem State.faultCheck_unreported {s : State} {p : Part} (h : (s.lm.parts.get p).reported = false) :
    s.faultCheck p = { s with
      lm := { s.lm with parts := s.lm.parts.set p (s.lm.parts.get p).checked }
      nq := (s.notifyAll (faultOf p (s.lm.parts.get p))).nq } := by
  by_cases fault : (s.lm.parts.get p).accepted = .fault
  · have checked : s.faultCheck p = s.reportFault p := by unfold State.faultCheck; rw [fault]
    rw [checked, State.reportFault, if_neg (by rw [h]; exact Bool.false_ne_true), faultOf, Partition.checked, fault]
    rfl
  · have stands : s.faultCheck p = s := by
      unfold State.faultCheck
      split
      · contradiction
      · rfl
    have same : (s.lm.parts.get p).checked = s.lm.parts.get p := by
      rw [Partition.checked, beq_eq_false_iff_ne.2 fault, ← h]
    rw [stands, faultOf, if_neg (mt beq_iff_eq.1 fault), same, Three.set_get]
    rfl

/-- The partitions and the notices given. -/
def State.withParts (s : State) (parts : Three Partition) (ns : List Notice) : State :=
  { s with lm := { s.lm with parts := parts }, nq := (s.notifyAll ns).nq }

theorem State.withParts_faultCheck {s : State} {parts : Three Partition} {ns : List Notice} {p : Part}
    (h : (parts.get p).reported = false) : (s.withParts parts ns).faultCheck p =
      s.withParts (parts.set p (parts.get p).checked) (ns ++ faultOf p (parts.get p)) := by
  refine (State.faultCheck_unreported h).trans ?_
  unfold State.withParts
  rw [State.notifyAll_append, State.notifyAll_nq (s := s.notifyAll ns)
    (u := { s with lm := { s.lm with parts := parts }, nq := (s.notifyAll ns).nq }) rfl
    (by rw [State.notifyAll_frame s ns])]

theorem State.readParts_eq (s : State) : s.readParts = s.withParts s.foundParts s.faultsRead := by
  have notices : s.faultsRead =
      [] ++ faultOf 0 (s.readPart 0) ++ faultOf 1 (s.readPart 1) ++ faultOf 2 (s.readPart 2) := by
    simp [State.faultsRead, allParts]
  let parts : Three Partition := ⟨s.readPart 0, s.readPart 1, s.readPart 2⟩
  let second := parts.set 0 (parts.get 0).checked
  let third := second.set 1 (second.get 1).checked
  calc s.readParts = (((s.withParts parts []).faultCheck 0).faultCheck 1).faultCheck 2 := rfl
    _ = s.withParts s.foundParts s.faultsRead := by
      rw [State.withParts_faultCheck (parts := parts) (p := 0) (s.readPart_reported 0),
        State.withParts_faultCheck (parts := second) (p := 1) (s.readPart_reported 1),
        State.withParts_faultCheck (parts := third) (p := 2) (s.readPart_reported 2), notices]
      rfl

theorem State.foundPart_configured {s : State} {p : Part} (h : s.partConfigured p = true) :
    s.foundPart p = { s.lm.parts.get p with
      accepted := readingOf (s.lm.parts.get p).closedMade (s.lm.parts.get p).openMade
      pending := none
      settle := none
      between := if readingOf (s.lm.parts.get p).closedMade (s.lm.parts.get p).openMade = .between then some 2400
        else none
      reported := readingOf (s.lm.parts.get p).closedMade (s.lm.parts.get p).openMade == .fault } := by
  unfold State.foundPart State.readPart
  rw [if_pos h]
  dsimp only
  cases readingOf (s.lm.parts.get p).closedMade (s.lm.parts.get p).openMade <;> rfl

theorem State.foundPart_absent {s : State} {p : Part} (h : s.partConfigured p = false) :
    s.foundPart p = { s.lm.parts.get p with
      accepted := .closed, pending := none, settle := none, between := none, reported := false } := by
  unfold State.foundPart State.readPart
  rw [if_neg (by rw [h]; exact Bool.false_ne_true)]
  rfl

theorem State.partConfigured_congr {s t : State} (h : t.cs.effective = s.cs.effective) :
    t.partConfigured = s.partConfigured := by
  funext p
  rw [State.partConfigured, State.partConfigured, State.segCount, State.segCount, h]

theorem State.foundParts_found {s t : State} (h : t.cs.effective = s.cs.effective) (parts : t.lm.parts = s.foundParts) :
    s.PartitionsFound t := by
  intro p
  rw [State.partConfigured_congr h, parts, State.foundParts_get]
  exact ⟨State.foundPart_configured, State.foundPart_absent⟩

theorem State.faultsRead_found {s t : State} (h : t.cs.effective = s.cs.effective)
    (parts : t.lm.parts = s.foundParts) : s.faultsRead = t.faultsFound := by
  unfold State.faultsRead State.faultsFound
  rw [State.partConfigured_congr h, parts, List.map_eq_flatMap, ← flatMap_if]
  refine congrArg (allParts.flatMap ·) (funext fun p => ?_)
  rw [State.foundParts_get]
  cases hp : s.partConfigured p with
  | true =>
    rw [Bool.true_and, faultOf]
    rfl
  | false =>
    rw [Bool.false_and, faultOf, State.readPart, if_neg (by rw [hp]; exact Bool.false_ne_true)]
    rfl

/-! ### The blocks rebuilt -/

/-- The runs that the partitions read afresh form. -/
def State.setsFound (s : State) : List Segs := (s.withParts s.foundParts []).formGroups

theorem State.lmRestart_eq (s : State) : s.lmRestart = { s with
    lm := ⟨s.foundParts, s.setsFound.map GroupRec.initial, []⟩, nq := (s.notifyAll s.faultsRead).nq } := by
  unfold State.lmRestart
  rw [State.readParts_eq]
  rfl

/-- A restart before the re-entry evaluation. -/
def State.rebuilt (s : State) (cause : RestartCause) : State :=
  ((((((s.cleared cause).notify (.restarted cause)).lmRestart).siRestart).otRestart.lbuRestart.reportSources).alRestart
    ).adRestart

theorem State.restart_eq (s : State) (cause : RestartCause) : s.restart cause =
    (if (s.rebuilt cause).tb.valid then (s.rebuilt cause).reenter else s.rebuilt cause).drive := rfl

/-- The blocks of a restart as LM, SI, OT and LBU leave them. -/
def State.relaid (s : State) (cause : RestartCause) : State :=
  let c := s.cleared cause
  let sets := c.setsFound
  { c with
    lm := ⟨c.foundParts, sets.map GroupRec.initial, []⟩
    nq := (c.notifyAll (.restarted cause :: c.faultsRead)).nq
    si :=
      { sensors := (Four.all ()).mapIdx fun i _ => freshSensors (c.configured i)
        polls := (Four.all ()).mapIdx fun i _ => freshPoll (c.configured i)
        outstanding := none, presenceSource := Four.all none, daylightSource := Four.all none }
    ot := ⟨Four.all Occ.initial, sets.map fun g => ⟨g, .none, false, none⟩⟩
    lbu := ⟨sets.map fun g => ⟨g, none, .none⟩, sets.map fun g => ⟨g, false, false, false⟩,
      (Four.all ()).mapIdx fun i _ => if c.configured i then LbuSeg.initial (c.segRec i) else LbuSeg.absent⟩
    reports := c.configuredSegs.map fun i => .daylightSourceReport i none }

theorem State.rebuilt_eq (s : State) (cause : RestartCause) :
    s.rebuilt cause = (s.relaid cause).alRestart.adRestart := by
  unfold State.rebuilt State.relaid
  rw [State.lmRestart_eq]
  unfold State.siRestart State.otRestart State.lbuRestart State.reportSources State.raiseAll
  simp only [List.map_map, Function.comp_def, GroupRec.initial]
  rfl

/-! ### What a restart leaves, whatever the re-entry evaluation does -/

theorem State.okTemps_none {s : State} {g : Segs} (h : ∀ i, (s.si.sensors.get i).temperature.health ≠ .ok) :
    s.okTemps g = [] := by
  rw [State.okTemps_eq, List.filterMap_eq_nil_iff]
  exact fun i _ => if_neg (mt beq_iff_eq.1 (h i))

theorem freshSensors_cold (configured : Bool) : (freshSensors configured).temperature.health ≠ .ok := by
  cases configured <;> exact (nomatch ·)

/-- A loop record as a restart forms it (R108, R130). -/
theorem State.evaluate_initial {s : State} {g : Segs} (run : s.inRun = true)
    (cold : ∀ i, (s.si.sensors.get i).temperature.health ≠ .ok) :
    s.evaluate (Loop.initial g (s.minOf g)) =
      { Loop.initial g (s.minOf g) with people := s.peopleOf (Loop.initial g (s.minOf g)) } := by
  rw [State.evaluate_parked run rfl, State.readings, State.okTemps_none cold]
  rfl

theorem State.minOf_congr {s t : State} (h : t.cs.effective = s.cs.effective) : t.minOf = s.minOf := by
  funext g
  unfold State.minOf State.segRec
  rw [h]

theorem State.maxOf_congr {s t : State} (h : t.cs.effective = s.cs.effective) : t.maxOf = s.maxOf := by
  funext g
  unfold State.maxOf State.segRec
  rw [h]

theorem State.alRestart_loops {s : State} (run : s.inRun = true)
    (cold : ∀ i, (s.si.sensors.get i).temperature.health ≠ .ok) :
    ∃ people : Segs → Nat, s.alRestart.al.loops = (s.lm.groups.map (·.segs)).map fun g =>
      { Loop.initial g (s.minOf g) with people := people g } := by
  let sets := s.lm.groups.map (·.segs)
  let u : State := { s with al := ⟨[], sets.map fun g => ⟨g, false, false, false⟩,
    if s.tb.valid then none else some (Config.seconds 60), none, false⟩ }
  exact ⟨fun g => u.peopleOf (Loop.initial g (u.minOf g)),
    List.map_congr_left fun g _ => State.evaluate_initial (s := u) (g := g) run cold⟩

theorem State.relaid_cold (s : State) (cause : RestartCause) (i : Seg) :
    ((s.relaid cause).si.sensors.get i).temperature.health ≠ .ok := by
  have fresh : (s.relaid cause).si.sensors.get i = freshSensors ((s.cleared cause).configured i) := Four.get_mapIdx _ _ i
  rw [fresh]
  exact freshSensors_cold _

theorem map_map_self {α β : Type} {f : α → β} {k : β → α} (h : ∀ a, k (f a) = a) (l : List α) : (l.map f).map k = l := by
  rw [List.map_map, show k ∘ f = id from funext h, List.map_id]

theorem State.restarted_notices {s u : State} {cause : RestartCause} {ns : List Notice} (tb : u.tb = (s.cleared cause).tb)
    (effective : u.cs.effective = (s.cleared cause).cs.effective) (parts : u.lm.parts = (s.cleared cause).foundParts)
    (nq : u.nq = ((s.relaid cause).notifyAll ns).nq) :
    u.nq = (({ u with nq := ⟨[], false, 0⟩ } : State).notifyAll (.restarted cause :: u.faultsFound ++ ns)).nq := by
  have frame : ((s.cleared cause).notifyAll (.restarted cause :: (s.cleared cause).faultsRead)).tb = (s.cleared cause).tb := by
    rw [State.notifyAll_frame]
  rw [nq, ← State.faultsRead_found effective parts, State.notifyAll_nq (s := s.cleared cause)
    (u := { u with nq := ⟨[], false, 0⟩ }) rfl tb, State.notifyAll_append]
  exact State.notifyAll_nq (s := (s.cleared cause).notifyAll (.restarted cause :: (s.cleared cause).faultsRead))
    (u := s.relaid cause) rfl frame.symm ns

/-- The part after a restart, BT having acted: every block but the table, the notices and the reports it makes. -/
theorem State.rebuilt_blocks {s u : State} {cause : RestartCause} (acts : (s.rebuilt cause).BtActs u) :
    RestartedBlocks s u.drive cause := by
  obtain ⟨table, stored, ns, more, rfl, -⟩ := acts
  obtain ⟨people, loops⟩ := State.alRestart_loops (s := s.relaid cause) rfl (s.relaid_cold cause)
  rw [State.rebuilt_eq]
  let read := (s.cleared cause).withParts (s.cleared cause).foundParts []
  refine ⟨State.foundParts_found (s := s.cleared cause) rfl rfl, ⟨ns, ?_⟩, ?_, rfl, rfl, rfl, rfl, rfl, rfl, rfl, rfl,
    rfl, rfl, rfl, rfl, ?_, ?_, ?_, ?_, ?_, ?_, ?_, ?_, ?_, ?_, ?_, ?_, ?_, rfl, rfl, rfl, rfl, rfl, rfl⟩
  · exact State.restarted_notices rfl rfl rfl (State.notifyAll_nq (s := s.relaid cause)
      (u := (s.relaid cause).alRestart.adRestart) rfl rfl ns)
  · intro i hi
    exact (Four.get_mapIdx _ _ i).trans (congrArg freshPoll hi)
  · intro g hg
    obtain ⟨x, -, rfl⟩ := List.mem_map.1 hg
    exact ⟨rfl, rfl, rfl, rfl⟩
  · exact (map_map_self (fun _ => rfl) _).trans (State.formGroups_congr (s := read) rfl rfl).symm
  · exact (map_map_self (fun _ => rfl) _).trans (State.formGroups_congr (s := read) rfl rfl).symm
  · exact ((congrArg (List.map (·.segs)) loops).trans (map_map_self (fun _ => rfl) _)).trans
      ((map_map_self (fun _ => rfl) _).trans (State.formGroups_congr (s := read) rfl rfl).symm)
  · exact (List.map_map.trans (map_map_self (fun _ => rfl) _)).trans (State.formGroups_congr (s := read) rfl rfl).symm
  · exact congrArg (List.map _) (State.formGroups_congr (s := read) rfl rfl).symm
  · intro i hi
    refine ⟨(Four.get_mapIdx _ _ i).trans (congrArg freshSensors hi), Four.get_all _ i, Four.get_all _ i,
      (Four.get_mapIdx _ _ i).trans (if_pos hi), (Four.get_mapIdx _ _ i).trans (if_pos hi)⟩
  · exact Four.get_all _
  · intro g hg
    obtain ⟨x, -, rfl⟩ := List.mem_map.1 hg
    rfl
  · intro l hl
    obtain ⟨g, -, rfl⟩ := List.mem_map.1 (Eq.mp (congrArg (l ∈ ·) loops) hl)
    exact ⟨rfl, rfl, rfl, rfl, rfl, rfl, rfl⟩
  · exact List.mem_append_left _ (List.mem_append_right _ (List.mem_singleton.2 rfl))
  · intro i hi
    exact List.mem_append_left _ (List.mem_append_left _ (List.mem_map.2 ⟨i, List.mem_filter.2
      ⟨by fin_cases i <;> decide, hi⟩, rfl⟩))
  · intro g hg
    obtain ⟨x, -, rfl⟩ := List.mem_map.1 hg
    rfl


/-! ### A queue with room -/

/-- Notices that fit join at the end, and none is lost. -/
theorem State.notifyAll_fits (ns : List Notice) : ∀ s : State, s.nq.list.length + ns.length ≤ 32 →
    ∃ more, (s.notifyAll ns).nq.list = s.nq.list ++ more ∧ more.map (·.notice) = ns ∧
      (s.notifyAll ns).nq.overflow = s.nq.overflow := by
  induction ns with
  | nil => exact fun s _ => ⟨[], (List.append_nil _).symm, rfl, rfl⟩
  | cons n ns ih =>
    intro s room
    rw [List.length_cons] at room
    have one : (s.notify n).nq = ⟨s.nq.list ++ [⟨s.nq.counter, s.stampMinute, n⟩], s.nq.overflow,
        (s.nq.counter + 1) % 65536⟩ := by
      have short : ¬ Config.noticeCapacity ≤ s.nq.list.length := by
        show ¬ 32 ≤ _
        omega
      unfold State.notify
      simp only [if_neg short]
    obtain ⟨more, list, notices, overflow⟩ := ih (s.notify n) (by rw [one, List.length_append]; simp; omega)
    refine ⟨⟨s.nq.counter, s.stampMinute, n⟩ :: more, ?_, congrArg (n :: ·) notices, ?_⟩
    · rw [State.notifyAll_cons, list, one, List.append_assoc]
      rfl
    · rw [State.notifyAll_cons, overflow, one]

theorem State.faultsFound_length (t : State) : t.faultsFound.length ≤ 3 := by
  rw [State.faultsFound, List.length_map]
  exact List.length_filter_le _ _

/-- The notice that joined last, with its minute. -/
theorem State.notify_last (s : State) (n : Notice) :
    (s.notify n).nq.list.getLast?.map (fun r => (r.minute, r.notice)) = some (s.stampMinute, n) := by
  have last : (s.notify n).nq.list.getLast? = some ⟨s.nq.counter, s.stampMinute, n⟩ := List.getLast?_concat
  rw [last]
  rfl

/-! ### The three triggers -/

theorem State.restart_stopped {s : State} {cause : RestartCause} (h : (s.clockAfter cause).valid = false) :
    s.restart cause = (s.rebuilt cause).drive := by
  have stands : (s.rebuilt cause).tb.valid = false := by rw [State.rebuilt_eq]; exact h
  rw [State.restart_eq, if_neg (by rw [stands]; exact Bool.false_ne_true)]

theorem State.restart_invalid {s : State} {cause : RestartCause} (h : (s.clockAfter cause).valid = false) :
    Restarted s (s.restart cause) cause := by
  rw [State.restart_stopped h]
  have blocks := State.rebuilt_blocks (s := s) (cause := cause) (.refl _)
  have faults : (s.cleared cause).faultsRead = (s.rebuilt cause).drive.faultsFound := by
    rw [State.rebuilt_eq]
    exact State.faultsRead_found rfl rfl
  have nq : (s.rebuilt cause).drive.nq =
      (((s.cleared cause).notify (.restarted cause)).notifyAll (s.rebuilt cause).drive.faultsFound).nq := by
    rw [← faults, State.rebuilt_eq]
    rfl
  have room := (s.rebuilt cause).drive.faultsFound_length
  obtain ⟨more, list, notices, overflow⟩ := State.notifyAll_fits (s.rebuilt cause).drive.faultsFound
    ((s.cleared cause).notify (.restarted cause)) (by
      show 1 + _ ≤ 32
      omega)
  have stamp : (s.cleared cause).stampMinute = 0 := if_neg (by rw [show (s.cleared cause).tb.valid = false from h]; decide)
  have first : ((s.cleared cause).notify (.restarted cause)).nq.list =
      [⟨0, (s.cleared cause).stampMinute, .restarted cause⟩] := rfl
  rw [first, stamp] at list
  refine ⟨by rw [State.rebuilt_eq]; rfl, by rw [nq, list]; rfl, by rw [nq, overflow]; rfl, ?_, ?_, blocks⟩
  · rw [nq, list, ← notices]
    rfl
  · rw [State.rebuilt_eq]
    exact if_neg (by rw [show (s.relaid cause).tb.valid = false from h]; exact Bool.false_ne_true)

/-- The re-entry evaluation of a restart that keeps a valid clock. -/
theorem State.restart_running {s : State} (h : s.tb.valid = true) :
    s.restart .request = (s.rebuilt .request).reenter.drive := by
  have stands : (s.rebuilt .request).tb.valid = true := by rw [State.rebuilt_eq]; exact h
  rw [State.restart_eq, if_pos stands]

theorem State.restart_acts {s : State} (cause : RestartCause) :
    ∃ u, s.restart cause = u.drive ∧ (s.rebuilt cause).BtActs u :=
  ⟨_, rfl, .ite (fun _ => State.reenter_acts _) fun _ => .refl _⟩

/-- A table of planned entries under a valid clock. -/
theorem State.rebuilt_bt (s : State) (cause : RestartCause) : (s.rebuilt cause).bt =
    ⟨s.bt.stored.map fun f => ⟨f, Volatile.planned⟩, s.bt.stored, 4294901760, s.bt.rates⟩ := by
  rw [State.rebuilt_eq]
  rfl

theorem State.rebuilt_unique {s : State} {cause : RestartCause} (h : (s.bt.stored.map (·.ref)).Nodup) :
    (s.rebuilt cause).UniqueRefs := by
  rw [State.UniqueRefs, State.rebuilt_bt, List.map_map]
  exact h

/-- No segment is observed occupied after a restart (R98). -/
theorem State.rebuilt_entryObserved (s : State) (cause : RestartCause) (e : Entry) :
    (s.rebuilt cause).entryObserved e = false := by
  have segs : (s.rebuilt cause).ot.segs = Four.all Occ.initial := by rw [State.rebuilt_eq]; rfl
  rw [State.entryObserved, List.any_eq_false]
  intro i _
  rw [State.observed, segs, Four.get_all]
  exact Bool.false_ne_true

/-- What the re-entry evaluation of a restart leaves in a table of any length (R52). -/
theorem State.rebuilt_reenter {s : State} (refs : (s.bt.stored.map (·.ref)).Nodup) (n : Nat)
    (now : (s.rebuilt .request).now = n) :
    (∀ f ∈ s.bt.stored, n < f.start → n < f.stop → ⟨f, Volatile.planned⟩ ∈ (s.rebuilt .request).reenter.bt.table) ∧
    ∀ e ∈ (s.rebuilt .request).reenter.bt.table, e.fix ∈ s.bt.stored ∧ n < e.fix.stop ∧
      (e.vol.state = .planned → n < e.fix.start) := by
  have unique := State.rebuilt_unique (cause := .request) refs
  have bt := s.rebuilt_bt .request
  generalize s.rebuilt .request = b at *
  have table : b.bt.table = s.bt.stored.map fun f => ⟨f, Volatile.planned⟩ := by rw [bt]
  have planned {x : Entry} (hx : x ∈ b.bt.table) : x.fix ∈ s.bt.stored ∧ x.vol.state = .planned := by
    rw [table] at hx
    obtain ⟨f, hf, rfl⟩ := List.mem_map.1 hx
    exact ⟨hf, rfl⟩
  refine ⟨fun f hf begins ends => ?_, fun e he => ?_⟩
  · refine State.round_keeps b.reenter_casts (State.reentryRole_still.2 ⟨now ▸ ends, fun ⟨_, begun⟩ => ?_⟩) b.refs b
      (.refl b) unique (by rw [table]; exact List.mem_map_of_mem hf) fun x _ _ => rfl
    exact absurd (now ▸ begun) (Nat.not_le.2 begins)
  · rcases State.round_leaves b.reenter_casts b.refs b (.refl b) unique unique e he with ⟨stood, still⟩ | ⟨x, hx, starts, rfl⟩
    · obtain ⟨ahead, stays⟩ := State.reentryRole_still.1 (still (List.mem_map_of_mem stood))
      exact ⟨(planned stood).1, now ▸ ahead, fun hp => Nat.not_le.1 fun begun => stays ⟨hp, now ▸ begun⟩⟩
    · exact ⟨(planned hx).1, now ▸ (State.reentryRole_starts.1 starts).2.2, (nomatch ·)⟩

/-- The last notice and the last report of a state, as the re-entry evaluation of one entry leaves them (R52). -/
def EndsWith (t : State) (n : Nat) (notice : Notice) (report : Instr) : Prop :=
  t.nq.list.getLast?.map (fun r => (r.minute, r.notice)) = some (n, notice) ∧ t.reports.getLast? = some report

theorem State.treated_ends {b : State} {n : Nat} (stamp : b.stampMinute = n) (table : List Entry) (notice : Notice)
    (report : Instr) : EndsWith (b.treated table [notice] [report]).drive n notice report := by
  refine ⟨?_, List.getLast?_concat⟩
  rw [← stamp]
  exact b.notify_last notice

/-- The treatment of a lone stored entry (R52). -/
theorem State.rebuilt_lone {s : State} {f : Fixed} {n : Nat} (stored : s.bt.stored = [f]) (hv : s.tb.valid = true)
    (hn : s.tb.minutes = n) :
    (f.stop ≤ n → (s.restart .request).bt.table = [] ∧ (s.restart .request).bt.stored = [] ∧
      EndsWith (s.restart .request) n (.missed f.ref f.kind ⟨f.first, f.span⟩ f.start f.stop .timePassed)
        (.entryStateChange f.ref ⟨f.first, f.span⟩ false)) ∧
    (f.start ≤ n → n < f.stop → (s.restart .request).bt.stored = [f] ∧
      (s.restart .request).bt.table =
        [⟨f, begunVolatile (s.restart .request).comm f n .resumed false Volatile.planned⟩] ∧
      EndsWith (s.restart .request) n
        (.sessionStarted ⟨f.ref, f.kind, ⟨f.first, f.span⟩, f.start, f.stop, n, .resumed⟩)
        (.entryStateChange f.ref ⟨f.first, f.span⟩ true)) ∧
    (n < f.start → n < f.stop → (s.restart .request).bt.table = [⟨f, Volatile.planned⟩] ∧
      (s.restart .request).bt.stored = [f]) := by
  have bt := s.rebuilt_bt .request
  have tb : (s.rebuilt .request).tb = s.tb := by rw [State.rebuilt_eq]; rfl
  have seen := s.rebuilt_entryObserved .request ⟨f, Volatile.planned⟩
  rw [State.restart_running hv]
  generalize s.rebuilt .request = b at *
  have now : b.now = n := by rw [State.now, tb, hn]
  have stamp : b.stampMinute = n := by rw [State.stampMinute, tb, hv, if_pos rfl, hn]
  have lone : b.bt.table = [⟨f, Volatile.planned⟩] := by rw [bt, stored]; rfl
  have image : b.bt.stored = [f] := by rw [bt, stored]
  have round := State.round_lone b.reenter_casts lone
  refine ⟨fun past => ?_, fun begun ahead => ?_, fun begins ahead => ?_⟩
  · have role : b.reentryRole ⟨f, Volatile.planned⟩ = _ := (if_pos (now ▸ past)).trans (if_neg Bool.false_ne_true)
    rw [role] at round
    have made : b.reenter = b.treated [] [.missed f.ref f.kind ⟨f.first, f.span⟩ f.start f.stop .timePassed]
      [.entryStateChange f.ref ⟨f.first, f.span⟩ false] := round
    have left : (b.reenter).bt = { b.bt with table := [], stored := [] } := by
      rw [made]
      exact State.treated_bt_gone b (by rw [lone]; exact Nat.zero_lt_one) _ _
    exact ⟨congrArg Bt.table left, congrArg Bt.stored left, made ▸ State.treated_ends stamp _ _ _⟩
  · have role : b.reentryRole ⟨f, Volatile.planned⟩ = .starts := State.reentryRole_starts.2 ⟨rfl, now ▸ begun, now ▸ ahead⟩
    rw [role] at round
    have made : b.reenter = b.treated [b.begunBy .resumed ⟨f, Volatile.planned⟩]
      [.sessionStarted ⟨f.ref, f.kind, ⟨f.first, f.span⟩, f.start, f.stop, b.now, .resumed⟩]
      [.entryStateChange f.ref ⟨f.first, f.span⟩ true] := round
    have begins : b.begunBy .resumed ⟨f, Volatile.planned⟩ =
        ⟨f, begunVolatile b.comm f n .resumed false Volatile.planned⟩ := by rw [State.begunBy, seen, now]; rfl
    rw [now, begins] at made
    have left : (b.reenter).bt = { b.bt with table := [⟨f, begunVolatile b.comm f n .resumed false Volatile.planned⟩] } := by
      rw [made]
      exact State.treated_bt_kept b (by rw [lone]; exact Nat.lt_irrefl 1) _ _
    refine ⟨(congrArg Bt.stored left).trans image, ?_, made ▸ State.treated_ends stamp _ _ _⟩
    exact (congrArg Bt.table left).trans (by rw [b.reenter_acts.ground]; rfl)
  · have role : b.reentryRole ⟨f, Volatile.planned⟩ = .still :=
      State.reentryRole_still.2 ⟨now ▸ ahead, fun ⟨_, begun⟩ => absurd (now ▸ begun) (Nat.not_le.2 begins)⟩
    rw [role] at round
    have left : (b.reenter).bt = { b.bt with table := [⟨f, Volatile.planned⟩] } :=
      (congrArg State.bt round).trans (State.treated_bt_kept b (by rw [lone]; exact Nat.lt_irrefl 1) _ _)
    exact ⟨congrArg Bt.table left, (congrArg Bt.stored left).trans image⟩

/-- The blocks do not depend on the reply that was sent before the restart. -/
theorem restartedBlocks_of_port {s t : State} {cause : RestartCause} (w : Wp)
    (h : RestartedBlocks { s with wp := w } t cause) : RestartedBlocks s t cause := h

theorem restarted_of_port {s t : State} {cause : RestartCause} (w : Wp) (h : Restarted { s with wp := w } t cause) :
    Restarted s t cause := h

/-- Settles O7: every block rebuilt, whichever trigger restarts the part, and the re-entry evaluation behind it. -/
theorem restartTriggersRestoreEveryBlock : Obligations.RestartTriggersRestoreEveryBlock := by
  refine ⟨fun s => ?_, fun s low powered long => ?_, fun s hs => ?_⟩
  · let p := s.setPins true s.pins.resetLow
    have made : p.restart .power = (p.rebuilt .power).drive := State.restart_stopped rfl
    have invalid : Restarted s (p.restart .power) .power := State.restart_invalid (s := p) rfl
    have again : (p.restart .power).drive = p.restart .power := by rw [made, State.drive_again]
    have pins : (p.restart .power).pins = p.pins := (State.restart_kept p .power).2
    have tb : (p.restart .power).tb = ⟨0, 0, false, 0, false⟩ := by rw [made, State.rebuilt_eq]; rfl
    have sent : (p.restart .power).wp.lastSent = none := by rw [made, State.rebuilt_eq]; rfl
    have run : exec .powerOn s = .next (p.restart .power).driveOrHold := rfl
    generalize p.restart .power = r at *
    have alive : r.alive = !s.pins.resetLow := by rw [State.alive, pins]; rfl
    cases low : s.pins.resetLow with
    | false =>
      have up : r.driveOrHold = r := by rw [State.driveOrHold, alive, low]; exact again
      exact ⟨r, run.trans (congrArg Host.Outcome.next up), tb, pins, sent, fun _ => invalid, (nomatch ·)⟩
    | true =>
      have held : r.driveOrHold = r.holdOutputs := by rw [State.driveOrHold, alive, low]; rfl
      refine ⟨r.holdOutputs, run.trans (congrArg Host.Outcome.next held), tb, pins, sent, (nomatch ·), fun _ => ⟨?_, rfl⟩⟩
      have whole : ({ r.holdOutputs with os := r.holdOutputs.drive.os } : State) = r.drive := rfl
      rw [whole, again]
      exact invalid
  · let p := s.setPins s.pins.powered false
    have made : p.restart .line = (p.rebuilt .line).drive := State.restart_stopped rfl
    have taken : (p.alive && decide (1000 ≤ low)) = true := by
      rw [decide_eq_true long, Bool.and_true]
      exact (Bool.and_true _).trans powered
    exact ⟨_, congrArg Host.Outcome.next (if_pos taken), State.restart_invalid (s := p) rfl,
      by rw [made, State.rebuilt_eq]; rfl, (State.restart_kept p .line).2⟩
  · obtain ⟨alive, free⟩ := hs
    let p : State := { s with wp := { s.wp with lastSent := some (s.replyOf 0x5F .ok []) } }
    obtain ⟨u, made, acts⟩ := State.restart_acts (s := p) .request
    have run : exec (.restart (.fields ())) s = .next (p.restart .request) :=
      congrArg Host.Outcome.next (if_pos (by rw [alive, free]; rfl))
    have ground := acts.ground
    have blocks : RestartedBlocks p (p.restart .request) .request := by
      rw [made]
      exact State.rebuilt_blocks acts
    refine ⟨_, run, ?_, restartedBlocks_of_port p.wp blocks, ?_, (State.restart_kept p .request).2, fun valid => ?_, fun invalid => ?_, fun valid => ?_⟩
    · rw [made, ground, State.rebuilt_eq]
      rfl
    · rw [made, ground, State.rebuilt_eq]
      rfl
    · rw [made, ground, State.rebuilt_eq]
      exact if_pos (by exact valid)
    · exact restarted_of_port p.wp (State.restart_invalid (s := p) invalid)
    · intro n
      refine ⟨fun refs => ?_, fun f stored => State.rebuilt_lone (s := p) stored valid rfl⟩
      rw [State.restart_running (s := p) valid]
      exact State.rebuilt_reenter (s := p) refs n (by rw [State.rebuilt_eq]; rfl)

end Sys2Proof.Machine

/-! SERVICE exit (R191): what LM's exit, the other blocks and the re-entry evaluation leave. -/

namespace Sys2Proof.Machine

/-! ### LM at the exit (R88) -/

/-- The records of the groups as LM forms and resolves them at the exit. -/
def State.exitGroups (s : State) : List GroupRec :=
  let r := s.withParts s.foundParts s.faultsRead
  r.resolveGroups (fun _ => true) (r.formGroups.map GroupRec.initial)

theorem State.lmExit_eq (s : State) : ∃ governs, s.lmExit = { s with
    lm := ⟨s.foundParts, s.exitGroups, governs⟩
    nq := (s.notifyAll s.faultsRead).nq
    reports := s.reports ++ ({ s with lm := ⟨s.foundParts, s.exitGroups, []⟩ } : State).governsChanges ++
      exitReports s.exitGroups } := by
  unfold State.lmExit
  rw [State.readParts_eq]
  exact ⟨_, rfl⟩

/-- What a record says of its group's standing. -/
def GroupRec.standing (r : GroupRec) : Segs × Option Nat × Level := (r.segs, r.governing, r.level)

theorem State.reshare_standing (s : State) (touched : Entry → Bool) (groups : List GroupRec) :
    (s.reshare touched groups).map GroupRec.standing = groups.map GroupRec.standing :=
  List.map_map.trans (List.map_congr_left fun _ _ => rfl)

theorem State.resolveAll_standing (s : State) (sets : List Segs) :
    (s.resolveGroups (fun _ => true) (sets.map GroupRec.initial)).map GroupRec.standing = sets.map fun g =>
      (g, (governingOf s.bt.table g).map (·.fix.ref), levelOf (governingOf s.bt.table g)) := by
  unfold State.resolveGroups
  rw [State.reshare_standing, List.map_map, List.map_map]
  exact List.map_congr_left fun _ _ => rfl

theorem sessionsOf_idle {table : List Entry} (idle : ∀ e ∈ table, isActive e = false) (g : Segs) : sessionsOf table g = [] := by
  have none : (candidatesOf table g).filter isActive = [] := by
    rw [List.filter_eq_nil_iff]
    intro e he
    rw [idle e (List.mem_of_mem_filter he)]
    exact Bool.false_ne_true
  rw [sessionsOf, none]
  rfl

theorem State.resolveAll_idle {s : State} (idle : ∀ e ∈ s.bt.table, isActive e = false) (sets : List Segs) :
    ∀ r ∈ s.resolveGroups (fun _ => true) (sets.map GroupRec.initial), r.sessions = [] ∧ r.people = 0 := by
  intro r hr
  obtain ⟨x, hx, rfl⟩ := List.mem_map.1 hr
  obtain ⟨y, -, rfl⟩ := List.mem_map.1 hx
  have none := sessionsOf_idle idle y.segs
  dsimp only
  rw [if_pos rfl]
  simp only [none, List.map_nil, List.sum_nil, and_self]

/-! ### Resolution and a change that entries' places and states survive -/

/-- f keeps what the resolution reads of an entry (R78). -/
structure KeepsPlace (f : Entry → Entry) : Prop where
  ref : ∀ e, (f e).fix.ref = e.fix.ref
  segs : ∀ e, entrySegs (f e) = entrySegs e
  state : ∀ e, (f e).vol.state = e.vol.state

theorem KeepsPlace.first {f : Entry → Entry} (h : KeepsPlace f) (e : Entry) : (f e).fix.first = e.fix.first :=
  congrArg Segs.first (h.segs e)

theorem KeepsPlace.active {f : Entry → Entry} (h : KeepsPlace f) (e : Entry) : isActive (f e) = isActive e := by
  rw [isActive, h.state, ← isActive]

theorem KeepsPlace.prepared {f : Entry → Entry} (h : KeepsPlace f) (e : Entry) : isPrepared (f e) = isPrepared e := by
  rw [isPrepared, h.state, ← isPrepared]

theorem foldl_map_option {α β : Type} (f : α → β) {k : Option β → β → Option β} {k' : Option α → α → Option α}
    (h : ∀ b e, k (b.map f) (f e) = (k' b e).map f) (l : List α) (b : Option α) :
    (l.map f).foldl k (b.map f) = (l.foldl k' b).map f := by
  induction l generalizing b with
  | nil => rfl
  | cons e l ih => rw [List.map_cons, List.foldl_cons, List.foldl_cons, h, ih]

theorem KeepsPlace.lowestFirst {f : Entry → Entry} (h : KeepsPlace f) (l : List Entry) :
    lowestFirst (l.map f) = (lowestFirst l).map f := by
  refine foldl_map_option f (fun b e => ?_) l none
  cases b with
  | none => rfl
  | some b =>
    show (if (f e).fix.first < (f b).fix.first then some (f e) else some (f b)) =
      (if e.fix.first < b.fix.first then some e else some b).map f
    rw [h.first, h.first]
    split <;> rfl

theorem KeepsPlace.governingOf {f : Entry → Entry} (h : KeepsPlace f) (table : List Entry) (g : Segs) :
    governingOf (table.map f) g = (governingOf table g).map f := by
  have candidates (p : Entry → Bool) (hp : ∀ e, p (f e) = p e) :
      (candidatesOf (table.map f) g).filter p = ((candidatesOf table g).filter p).map f := by
    simp only [candidatesOf, List.filter_map, Function.comp_def, h.segs, hp]
  unfold Machine.governingOf
  rw [candidates isActive h.active, candidates isPrepared h.prepared, h.lowestFirst, h.lowestFirst]
  cases Machine.lowestFirst ((candidatesOf table g).filter isActive) <;> rfl

theorem KeepsPlace.levelOf {f : Entry → Entry} (h : KeepsPlace f) (e : Option Entry) : levelOf (e.map f) = levelOf e := by
  cases e with
  | none => rfl
  | some e => exact congrArg (fun b => if b = true then Level.session else .prepare) (h.active e)

/-! ### The other blocks at the exit -/

/-- An entry as the exit clamps and prunes it (R10, R168). -/
def exitClamped (c : Commission) (e : Entry) : Entry where
  fix := { e.fix with headcount := min (min e.fix.headcount 400) (seatsOf c (entrySegs e)) }
  vol := { e.vol with savedScene :=
    if e.vol.currentScene.any (fun i => (c.scene i).temporary) = true then e.vol.savedScene else none }

theorem exitClamped_place (c : Commission) : KeepsPlace (exitClamped c) := ⟨fun _ => rfl, fun _ => rfl, fun _ => rfl⟩

/-- The part as every block but LM and BT has left SERVICE (R191). -/
def State.departed (s : State) : State :=
  let run := { s.takePending with cs := { s.takePending.cs with mode := .run } }
  ((((((run.clampHeadcounts.siExit s.segCount).otLeave s.segCount).alLeave).adLeave s.segCount).lbuLeave s.segCount).rlLeave)

theorem State.leaveService_eq (s : State) : s.leaveService = s.departed.lmExit.reenterExit := rfl

theorem State.departed_table (s : State) :
    s.departed.bt.table = s.bt.table.map (exitClamped (s.cs.effective.takePending s.cs.pending)) :=
  List.map_map

/-! ### The re-entry evaluation at the exit (R53) -/

/-- The role of an entry: removed where it no longer fits, else treated once the clock is valid. -/
def State.exitRole (s : State) (e : Entry) : Role :=
  if s.segCount < e.fix.first + e.fix.span then
    .leaves [.missed e.fix.ref e.fix.kind (entrySegs e) e.fix.start e.fix.stop .suiteChanged]
      [.entryStateChange e.fix.ref (entrySegs e) false]
  else if s.tb.valid then s.reentryRole e
  else .still

theorem State.Ground.exitRole {s u : State} (h : s.Ground u) (e : Entry) : u.exitRole e = s.exitRole e := by
  unfold State.exitRole
  rw [h.reentryRole, h]
  rfl

theorem State.reenterAtExit_played (s : State) (e : Entry) :
    State.reenterAtExit e s = s.played .resumed e (s.exitRole e) := by
  unfold State.reenterAtExit State.exitRole
  split
  · exact s.missed_turn e .suiteChanged
  · split
    · exact s.reenterEntry_played e
    · rfl

theorem State.exitRole_starts {s : State} {e : Entry} : s.exitRole e = .starts ↔
    e.fix.first + e.fix.span ≤ s.segCount ∧ s.tb.valid = true ∧ e.vol.state = .planned ∧ e.fix.start ≤ s.now ∧
      s.now < e.fix.stop := by
  unfold State.exitRole
  split_ifs with out valid
  · exact ⟨(nomatch ·), fun h => absurd h.1 (Nat.not_le.2 out)⟩
  · rw [State.reentryRole_starts]
    exact ⟨fun h => ⟨Nat.not_lt.1 out, valid, h⟩, fun h => h.2.2⟩
  · exact ⟨(nomatch ·), fun h => absurd h.2.1 valid⟩

theorem State.exitRole_still {s : State} {e : Entry} : s.exitRole e = .still ↔
    e.fix.first + e.fix.span ≤ s.segCount ∧ (s.tb.valid = true → s.now < e.fix.stop ∧
      ¬ (e.vol.state = .planned ∧ e.fix.start ≤ s.now)) := by
  unfold State.exitRole
  split_ifs with out valid
  · exact ⟨(nomatch ·), fun h => absurd h.1 (Nat.not_le.2 out)⟩
  · rw [State.reentryRole_still]
    exact ⟨fun h => ⟨Nat.not_lt.1 out, fun _ => h⟩, fun h => h.2 valid⟩
  · exact ⟨fun _ => ⟨Nat.not_lt.1 out, fun h => absurd h valid⟩, fun _ => rfl⟩

theorem State.reenterExit_casts (s : State) : s.Casts .resumed State.reenterAtExit s.exitRole :=
  ⟨fun u e h _ _ => by rw [State.reenterAtExit_played, h.exitRole],
    fun e h => planned_idle (beq_iff_eq.2 (State.exitRole_starts.1 h).2.2.1)⟩

theorem State.reenterExit_acts (s : State) : s.BtActs s.reenterExit :=
  .forEntries (fun e s => .ite (fun _ => ((s.notify_acts _).trans (State.dropEntry_acts _ _)).trans
    (State.change_acts _ _ _ _)) fun _ => .ite (fun _ => State.reenterEntry_acts e s) fun _ => .refl s) _ s

theorem State.notifyAll_after {s u : State} {ns : List Notice} (nq : u.nq = (s.notifyAll ns).nq) (tb : u.tb = s.tb)
    (more : List Notice) : (u.notifyAll more).nq = (s.notifyAll (ns ++ more)).nq := by
  rw [State.notifyAll_append]
  exact State.notifyAll_nq nq (by rw [tb, State.notifyAll_frame]) more

/-- The part as it has left SERVICE, but for what BT's re-entry evaluation makes of the table. -/
theorem State.leaveService_frame (s : State) : ∃ table stored governs ns more queue, s.leaveService = { s.departed with
      bt := { s.bt with table := table, stored := stored }
      lm := ⟨s.departed.foundParts, s.departed.exitGroups, governs⟩
      nq := queue
      reports := s.reports ++
        ({ s.departed with lm := ⟨s.departed.foundParts, s.departed.exitGroups, []⟩ } : State).governsChanges ++
        exitReports s.departed.exitGroups ++ more } ∧
    queue = (s.notifyAll (s.departed.faultsRead ++ ns)).nq := by
  obtain ⟨governs, lm⟩ := s.departed.lmExit_eq
  obtain ⟨table, stored, ns, more, acts, -⟩ := s.departed.lmExit.reenterExit_acts
  have tb : s.departed.lmExit.tb = s.tb := by rw [lm]; rfl
  have read : s.departed.lmExit.nq = (s.notifyAll s.departed.faultsRead).nq := by
    rw [lm]
    exact State.notifyAll_nq (s := s) (u := s.departed) rfl rfl _
  refine ⟨table, stored, governs, ns, more, _, ?_, State.notifyAll_after read tb ns⟩
  rw [State.leaveService_eq, acts, lm]
  rfl

/-- The part as the re-entry evaluation at the exit finds it. -/
structure AtExit (s w : State) : Prop where
  table : w.bt.table = s.bt.table.map (exitClamped (s.cs.effective.takePending s.cs.pending))
  tb : w.tb = s.tb
  effective : w.cs.effective = s.cs.effective.takePending s.cs.pending

theorem State.lmExit_atExit (s : State) : AtExit s s.departed.lmExit := by
  obtain ⟨governs, lm⟩ := s.departed.lmExit_eq
  rw [lm]
  exact ⟨s.departed_table, rfl, rfl⟩

theorem AtExit.unique {s w : State} (h : AtExit s w) (unique : s.UniqueRefs) : w.UniqueRefs := by
  rw [State.UniqueRefs, h.table, List.map_map]
  exact unique

/-- What stands in the table after the exit, of any length (R53). -/
theorem AtExit.bounds {s w : State} (h : AtExit s w) (unique : s.UniqueRefs) : ∀ e ∈ w.reenterExit.bt.table,
    e.fix.first + e.fix.span ≤ w.segCount ∧ e.fix.headcount ≤ seatsOf w.comm (entrySegs e) ∧
    (s.tb.valid = true → s.tb.minutes < e.fix.stop ∧ (e.vol.state = .planned → s.tb.minutes < e.fix.start)) := by
  have clamped {x : Entry} (hx : x ∈ w.bt.table) : x.fix.headcount ≤ seatsOf w.comm (entrySegs x) := by
    rw [h.table] at hx
    obtain ⟨y, -, rfl⟩ := List.mem_map.1 hx
    rw [State.comm, h.effective]
    exact Nat.min_le_right _ _
  intro e he
  rcases State.round_leaves w.reenterExit_casts w.refs w (.refl w) (h.unique unique) (h.unique unique) e he with
    ⟨stood, still⟩ | ⟨x, hx, starts, rfl⟩
  · obtain ⟨fits, ahead⟩ := State.exitRole_still.1 (still (List.mem_map_of_mem stood))
    rw [State.now, h.tb] at ahead
    exact ⟨fits, clamped stood, fun valid => ⟨(ahead valid).1, fun planned =>
      Nat.not_le.1 fun begun => (ahead valid).2 ⟨planned, begun⟩⟩⟩
  · obtain ⟨fits, -, -, -, ahead⟩ := State.exitRole_starts.1 starts
    rw [State.now, h.tb] at ahead
    have seated := clamped hx
    exact ⟨fits, seated, fun _ => ⟨ahead, (nomatch ·)⟩⟩

theorem AtExit.keeps {s w : State} (h : AtExit s w) (unique : s.UniqueRefs) {e : Entry} (he : e ∈ s.bt.table)
    (idle : isActive e = false) (role : w.exitRole (exitClamped w.comm e) = .still) :
    exitClamped w.comm e ∈ w.reenterExit.bt.table := by
  refine State.round_keeps w.reenterExit_casts role w.refs w (.refl w) (h.unique unique) ?_ fun x _ _ => ?_
  · rw [h.table, State.comm, h.effective]
    exact List.mem_map.2 ⟨e, he, rfl⟩
  · rw [yields, (exitClamped_place _).active, idle, Bool.false_and]

/-- A lone entry that is not active, at the exit (R53). -/
theorem AtExit.lone {s w : State} (h : AtExit s w) {e : Entry} (one : s.bt.table = [e]) :
    w.reenterExit = w.treated (w.roleFate .resumed (exitClamped w.comm e) (w.exitRole (exitClamped w.comm e))).toList
      (w.roleNotices .resumed (exitClamped w.comm e) [] (w.exitRole (exitClamped w.comm e)))
      (w.roleReports (exitClamped w.comm e) [] (w.exitRole (exitClamped w.comm e))) := by
  have lone : w.bt.table = [exitClamped w.comm e] := by rw [h.table, one, State.comm, h.effective]; rfl
  exact State.round_lone w.reenterExit_casts lone

/-! ### The two ways out of SERVICE -/

/-- A part as the request or the release of the line finds it: the port, the waiting reports and the level apart. -/
def State.withPort (s : State) (w : Wp) (reports : List Instr) (line : Bool) : State :=
  { s with wp := w, reports := reports, cs := { s.cs with serviceLine := line } }

theorem State.cameToGovern_raised {s : State} {groups : List GroupRec} {e : Entry} (he : e ∈ s.bt.table)
    (prepared : isPrepared e = true) (governs : governsHome groups e = true) (parts : Three Partition) :
    .cameToGovern e.fix.ref ∈ ({ s with lm := ⟨parts, groups, []⟩ } : State).governsChanges := by
  refine List.mem_filterMap.2 ⟨e, List.mem_filter.2 ⟨he, prepared⟩, ?_⟩
  exact if_pos (by rw [show governsHome ({ s with lm := ⟨parts, groups, []⟩ } : State).lm.groups e = true from governs]; rfl)

theorem clampNat_within {low high n : Nat} (h : low ≤ high) : low ≤ clampNat low high n ∧ clampNat low high n ≤ high := by
  unfold clampNat
  omega

/-- AD's targets as it leaves SERVICE (R138). -/
theorem State.departed_targets (s : State) {i : Seg} (hi : s.departed.configured i = true)
    (fits : (s.departed.segRec i).airMin ≤ (s.departed.segRec i).airMax) :
    (s.departed.segRec i).airMin ≤ s.departed.ad.targets.get i ∧
      s.departed.ad.targets.get i ≤ (s.departed.segRec i).airMax := by
  have target : s.departed.ad.targets.get i =
      if (!s.departed.configured i) = true then 0
      else if i.val < s.segCount then
        clampNat (s.departed.segRec i).airMin (s.departed.segRec i).airMax (s.ad.targets.get i)
      else (s.departed.segRec i).airMin := Four.get_mapIdx _ _ i
  rw [target, hi, if_neg (by decide)]
  split
  · exact clampNat_within fits
  · exact ⟨Nat.le_refl _, fits⟩

/-- The standings of the groups at the exit are those of the table as it stood (R78, R79). -/
theorem State.exitGroups_standing (s : State) : s.departed.exitGroups.map GroupRec.standing =
    (s.departed.withParts s.departed.foundParts s.departed.faultsRead).formGroups.map fun g =>
      (g, (governingOf s.bt.table g).map (·.fix.ref), levelOf (governingOf s.bt.table g)) := by
  refine (State.resolveAll_standing _ _).trans (List.map_congr_left fun g _ => ?_)
  have table : (s.departed.withParts s.departed.foundParts s.departed.faultsRead).bt.table = _ := s.departed_table
  rw [table, (exitClamped_place _).governingOf, (exitClamped_place _).levelOf, Option.map_map]
  rfl

theorem State.exitGroups_idle {s : State} (idle : ∀ e ∈ s.bt.table, isActive e = false) :
    ∀ r ∈ s.departed.exitGroups, r.sessions = [] ∧ r.people = 0 := by
  refine State.resolveAll_idle (s := s.departed.withParts s.departed.foundParts s.departed.faultsRead) (fun e he => ?_) _
  have table : (s.departed.withParts s.departed.foundParts s.departed.faultsRead).bt.table = _ := s.departed_table
  rw [table] at he
  obtain ⟨x, hx, rfl⟩ := List.mem_map.1 he
  rw [(exitClamped_place _).active, idle x hx]

/-- The notice and the report that stand last. -/
def State.Newest (t : State) (n : Notice) (c : Instr) : Prop :=
  t.nq.list.getLast?.map (·.notice) = some n ∧ t.reports.getLast? = some c

theorem State.treated_newest (s : State) (table : List Entry) (n : Notice) (c : Instr) :
    (s.treated table [n] [c]).Newest n c := by
  have last := congrArg (Option.map Prod.snd) (s.notify_last n)
  rw [Option.map_map] at last
  exact ⟨last, List.getLast?_concat⟩

/-- A lone entry that leaves at the exit (R53). -/
theorem AtExit.lone_gone {s w : State} (h : AtExit s w) {e : Entry} (one : s.bt.table = [e]) {n : Notice} {c : Instr}
    (role : w.exitRole (exitClamped w.comm e) = .leaves [n] [c]) :
    w.reenterExit.bt.table = [] ∧ w.reenterExit.bt.stored = [] ∧ w.reenterExit.Newest n c := by
  have lone := h.lone one
  have table : w.bt.table.length = 1 := by rw [h.table, one]; rfl
  rw [role] at lone
  have left := (congrArg State.bt lone).trans (State.treated_bt_gone w (by rw [table]; exact Nat.zero_lt_one) _ _)
  exact ⟨congrArg Bt.table left, congrArg Bt.stored left, lone ▸ w.treated_newest [] n c⟩

theorem State.exitRole_passed {s : State} {e : Entry} (fits : e.fix.first + e.fix.span ≤ s.segCount)
    (valid : s.tb.valid = true) (past : e.fix.stop ≤ s.now) (idle : isActive e = false) :
    s.exitRole e = .leaves [.missed e.fix.ref e.fix.kind (entrySegs e) e.fix.start e.fix.stop .timePassed]
      [.entryStateChange e.fix.ref (entrySegs e) false] := by
  refine (if_neg (Nat.not_lt.2 fits)).trans ((if_pos valid).trans ((if_pos past).trans (if_neg ?_)))
  rw [idle]
  exact Bool.false_ne_true

/-- A lone entry that begins at the exit (R53). -/
theorem AtExit.lone_begun {s w : State} (h : AtExit s w) {e : Entry} (one : s.bt.table = [e])
    (role : w.exitRole (exitClamped w.comm e) = .starts) :
    w.reenterExit.bt.table = [w.begunBy .resumed (exitClamped w.comm e)] ∧
      w.reenterExit.Newest (.sessionStarted (startedFields e.fix w.now .resumed)) (.entryStateChange e.fix.ref (entrySegs e) true) := by
  have lone := h.lone one
  have table : w.bt.table.length = 1 := by rw [h.table, one]; rfl
  rw [role] at lone
  have stays := (congrArg State.bt lone).trans (State.treated_bt_kept w (by rw [table]; exact Nat.lt_irrefl 1) _ _)
  exact ⟨congrArg Bt.table stays, lone ▸ w.treated_newest _ _ _⟩

theorem AtExit.lone_stays {s w : State} (h : AtExit s w) {e : Entry} (one : s.bt.table = [e])
    (role : w.exitRole (exitClamped w.comm e) = .still) : w.reenterExit.bt.table = [exitClamped w.comm e] := by
  have lone := h.lone one
  have table : w.bt.table.length = 1 := by rw [h.table, one]; rfl
  rw [role] at lone
  exact congrArg Bt.table ((congrArg State.bt lone).trans
    (State.treated_bt_kept w (by rw [table]; exact Nat.lt_irrefl 1) _ _))

/-- The roles at the exit, by the clock as it stood. -/
theorem AtExit.starts {s w : State} (h : AtExit s w) {e : Entry} (fits : e.fix.first + e.fix.span ≤ w.segCount)
    (begun : s.tb.valid = true ∧ e.vol.state = .planned ∧ e.fix.start ≤ s.tb.minutes ∧ s.tb.minutes < e.fix.stop) :
    w.exitRole (exitClamped w.comm e) = .starts := by
  rw [← h.tb] at begun
  exact State.exitRole_starts.2 ⟨fits, begun⟩

theorem AtExit.still {s w : State} (h : AtExit s w) {e : Entry} (fits : e.fix.first + e.fix.span ≤ w.segCount)
    (ahead : ¬ (s.tb.valid = true ∧ e.fix.stop ≤ s.tb.minutes))
    (waits : ¬ (s.tb.valid = true ∧ e.vol.state = .planned ∧ e.fix.start ≤ s.tb.minutes ∧ s.tb.minutes < e.fix.stop)) :
    w.exitRole (exitClamped w.comm e) = .still := by
  rw [← h.tb] at ahead waits
  refine State.exitRole_still.2 ⟨fits, fun valid => ?_⟩
  have later : w.now < e.fix.stop := Nat.not_le.1 fun past => ahead ⟨valid, past⟩
  exact ⟨later, fun begun => waits ⟨valid, begun.1, begun.2, later⟩⟩

theorem AtExit.passed {s w : State} (h : AtExit s w) {e : Entry} (fits : e.fix.first + e.fix.span ≤ w.segCount)
    (past : s.tb.valid = true ∧ e.fix.stop ≤ s.tb.minutes) (idle : isActive e = false) :
    w.exitRole (exitClamped w.comm e) =
      .leaves [.missed e.fix.ref e.fix.kind (entrySegs e) e.fix.start e.fix.stop .timePassed]
        [.entryStateChange e.fix.ref (entrySegs e) false] := by
  rw [← h.tb] at past
  exact State.exitRole_passed fits past.1 past.2 (((exitClamped_place _).active e).trans idle)

theorem State.modeRun_stays {s : State} (force : Bool) (h : s.inRun = true) : s.modeRun force = answerOk s := if_pos h

theorem State.modeRun_exits {s : State} (force : Bool) (h : s.inRun = false) :
    s.modeRun force = answerOk s.leaveService := if_neg (by rw [h]; exact Bool.false_ne_true)

theorem State.leaveService_ports (s : State) :
    s.leaveService.wp = s.wp ∧ s.leaveService.cs.serviceLine = s.cs.serviceLine := by
  obtain ⟨table, stored, governs, ns, more, queue, frame, -⟩ := s.leaveService_frame
  rw [frame]
  exact ⟨rfl, rfl⟩

/-- MODE SET RUN in SERVICE, but for the port and the outputs (R191). -/
theorem modeRun_leaves {s : State} (hs : s.TakesRequest) (service : s.inRun = false) (force : Bool) :
    ∃ t, exec (.modeSetRun (.fields force)) s = .next t ∧
      t = { (s.withPort { s.wp with rx := .hunt, held := some 0x50 } s.reports s.cs.serviceLine).leaveService with
        wp := t.wp, os := t.os } ∧ t.os = t.drive.os ∧
      t.wp = { s.wp with rx := .hunt, held := some 0x50, reply := some ⟨0x50, .ok, !t.nq.list.isEmpty, []⟩ } ∧
      t.cs.serviceLine = s.cs.serviceLine := by
  have answer : (s.hold 0x50).modeRun force = answerOk _ := State.modeRun_exits force service
  obtain ⟨port, line⟩ :=
    (s.withPort { s.wp with rx := .hunt, held := some 0x50 } s.reports s.cs.serviceLine).leaveService_ports
  have same : (s.hold 0x50).leaveService =
    (s.withPort { s.wp with rx := .hunt, held := some 0x50 } s.reports s.cs.serviceLine).leaveService := rfl
  rw [same] at answer
  generalize (s.withPort { s.wp with rx := .hunt, held := some 0x50 } s.reports s.cs.serviceLine).leaveService = u at *
  refine ⟨(putReply 0x50 (answerOk u)).drive, congrArg Host.Outcome.next ((State.request_taken hs 0x50 _).trans
    (congrArg (fun a => (putReply 0x50 a).drive) answer)), rfl, (State.drive_drive_os _).symm, ?_, line⟩
  show ({ u.wp with held := some 0x50, reply := some ⟨0x50, .ok, !u.nq.list.isEmpty, []⟩ } : Wp) = _
  rw [port]
  rfl

/-- SERVICE LINE RELEASE in SERVICE, but for the port and the outputs (R191, R169). -/
theorem serviceLineRelease_leaves {s : State} (alive : s.alive = true) (service : s.inRun = false) :
    ∃ t, exec .serviceLineRelease s = .next t ∧
      t = { (s.withPort s.wp (s.reports.erase .serviceLineRelease) false).leaveService with wp := t.wp, os := t.os } ∧
      t.os = t.drive.os ∧ t.wp = { s.wp with bitRate := t.suite.bitRate } ∧ t.cs.serviceLine = false := by
  obtain ⟨port, line⟩ := (s.withPort s.wp (s.reports.erase .serviceLineRelease) false).leaveService_ports
  have released : (s.withPort s.wp (s.reports.erase .serviceLineRelease) false).lineReleased = _ :=
    if_neg (by rw [show (s.withPort s.wp (s.reports.erase .serviceLineRelease) false).inRun = false from service]
               exact Bool.false_ne_true)
  have run : exec .serviceLineRelease s =
      .next ((s.withPort s.wp (s.reports.erase .serviceLineRelease) false).lineReleased).drive :=
    congrArg Host.Outcome.next (State.event_taken (s := s.setServiceLine false) alive _ _)
  generalize (s.withPort s.wp (s.reports.erase .serviceLineRelease) false).leaveService = u at *
  rw [released] at run
  refine ⟨_, run, rfl, (State.drive_drive_os _).symm, ?_, line⟩
  show ({ u.wp with bitRate := u.suite.bitRate } : Wp) = _
  rw [port]
  rfl

/-- Settles O28: the exit as every block makes it, and the re-entry evaluation round at its end. -/
theorem serviceExitTakesRecordsIntoEffect : Obligations.ServiceExitTakesRecordsIntoEffect := by
  intro s force alive follow leaves treats
  have leaving (w : Wp) (reports : List Instr) (line : Bool) (port : Wp) (os : Four Outs) (t : State)
      (made : t = { (s.withPort w reports line).leaveService with wp := port, os := os }) (driven : t.os = t.drive.os)
      (unique : s.UniqueRefs) : leaves t ∧ treats t := by
    let p := s.withPort w reports line
    obtain ⟨table, stored, governs, ns, more, queue, frame, queued⟩ := p.leaveService_frame
    have ht : t = { p.leaveService with wp := port, os := os } := made
    have exit := p.lmExit_atExit
    have lm : t.lm = ⟨p.departed.foundParts, p.departed.exitGroups, governs⟩ := by rw [ht, frame]
    have cs : t.cs = p.departed.cs := by rw [ht, frame]
    have tb : t.tb = s.tb := by rw [ht, frame]; rfl
    have bt : t.bt = p.departed.lmExit.reenterExit.bt := by rw [ht]; rfl
    have formed : t.formGroups = (p.departed.withParts p.departed.foundParts p.departed.faultsRead).formGroups :=
      State.formGroups_congr cs (by rw [lm]; rfl)
    have faults : p.departed.faultsRead = t.faultsFound :=
      State.faultsRead_found (congrArg Cs.effective cs) (congrArg Lm.parts lm)
    have comm : p.departed.lmExit.comm = t.comm := exit.effective.trans (by rw [State.comm, cs]; rfl)
    have count : p.departed.lmExit.segCount = t.segCount := congrArg (fun c : Commission => c.suite.segmentCount) comm
    refine ⟨⟨State.foundParts_found (s := p.departed) (congrArg Cs.effective cs) (congrArg Lm.parts lm), ⟨ns, ?_⟩, ?_, ?_, ?_, ?_,
      by rw [cs]; rfl, by rw [cs]; rfl, by rw [cs]; rfl, by rw [cs]; rfl, tb, by rw [ht, frame]; rfl, by rw [ht, frame]; rfl,
      by rw [ht, frame]; rfl, driven, ?_, ?_, ?_, ?_, ?_, ?_⟩, ?_⟩
    · rw [← faults, ht, frame, queued]
      exact State.notifyAll_nq (s := s) (u := p) rfl rfl _
    · rw [formed, lm]
      exact p.exitGroups_standing
    · intro idle
      rw [lm]
      exact State.exitGroups_idle (s := p) idle
    · intro b hb
      have sent : .exitReport b t.lm.groups ∈ exitReports p.departed.exitGroups := by
        rw [lm]
        exact List.mem_map_of_mem hb
      rw [show t.reports = _ from by rw [ht, frame]]
      exact List.mem_append_left _ (List.mem_append_right _ sent)
    · intro e he prepared governing
      rw [show t.reports = _ from by rw [ht, frame]]
      refine List.mem_append_left _ (List.mem_append_left _ (List.mem_append_right _ ?_))
      rw [lm] at governing
      exact State.cameToGovern_raised (s := p.departed) (e := exitClamped _ e)
        (by rw [p.departed_table]; exact List.mem_map.2 ⟨e, he, rfl⟩) prepared governing _
    · rw [show t.rl = p.departed.rl from by rw [ht, frame], State.configured_congr cs]
      rfl
    · rw [show t.ot = p.departed.ot from by rw [ht, frame], State.configured_congr cs]
      show s.ot.segs.mapIdx (fun i o => if (decide (i.val < s.segCount) && p.departed.configured i) = true
        then o else Occ.initial) = _
      refine congrArg (Four.mapIdx · s.ot.segs) (funext fun i => funext fun o => ?_)
      exact if_congr ((Bool.and_eq_true _ _).to_iff.trans and_comm) rfl rfl
    · intro g hg
      rw [show t.ad = p.departed.ad from by rw [ht, frame]] at hg
      obtain ⟨x, -, rfl⟩ := List.mem_map.1 hg
      rw [State.maxOf_congr (congrArg Cs.effective cs)]
      rfl
    · rw [show t.ad = p.departed.ad from by rw [ht, frame]]
      exact List.map_map.trans (List.map_congr_left fun _ _ => rfl)
    · intro i fits configured
      rw [show t.ad = p.departed.ad from by rw [ht, frame]]
      rw [State.segRec_congr cs] at fits ⊢
      rw [State.configured_congr cs] at configured
      exact p.departed_targets configured fits
    · have bounds := exit.bounds unique
      rw [bt, ← count, ← comm]
      exact bounds
    · unfold treats
      intro n clamped fits passed begins
      have clamps (e : Entry) : exitClamped p.departed.lmExit.comm e = clamped e := by rw [comm]; rfl
      have within {e : Entry} (inside : fits e) : e.fix.first + e.fix.span ≤ p.departed.lmExit.segCount := by
        rw [count]
        exact inside
      refine ⟨fun e he idle inside ahead waits => ?_, fun e one idle => ?_⟩
      · have kept := exit.keeps unique he idle (exit.still (within inside) ahead waits)
        rw [bt, ← clamps]
        exact kept
      · intro last goes
        have nq : t.nq = p.departed.lmExit.reenterExit.nq := by rw [ht]; rfl
        have reports : t.reports = p.departed.lmExit.reenterExit.reports := by rw [ht]; rfl
        have newest {n : Notice} {c : Instr} (h : p.departed.lmExit.reenterExit.Newest n c) :
            t.nq.list.getLast?.map (·.notice) = some n ∧ t.reports.getLast? = some c := by
          rw [nq, reports]
          exact h
        refine ⟨fun out => ?_, fun inside past => ?_, fun inside begun => ?_, fun inside ahead waits => ?_⟩
        · obtain ⟨table, stored, ends⟩ := exit.lone_gone one (if_pos (by rw [count]; exact Nat.not_le.1 out))
          exact ⟨(congrArg Bt.table bt).trans table, (congrArg Bt.stored bt).trans stored, newest ends⟩
        · obtain ⟨table, stored, ends⟩ := exit.lone_gone one (exit.passed (within inside) past idle)
          exact ⟨(congrArg Bt.table bt).trans table, (congrArg Bt.stored bt).trans stored, newest ends⟩
        · obtain ⟨table, ends⟩ := exit.lone_begun one (exit.starts (within inside) begun)
          have now : p.departed.lmExit.now = s.tb.minutes := congrArg Tb.minutes exit.tb
          have seen : t.entryObserved = p.departed.lmExit.entryObserved := by
            rw [ht]
            show p.departed.lmExit.reenterExit.entryObserved = _
            rw [p.departed.lmExit.reenterExit_acts.ground]
            rfl
          rw [now] at ends
          refine ⟨(congrArg Bt.table bt).trans (table.trans ?_), newest ends⟩
          rw [seen, ← comm, State.begunBy, now, clamps]
          rfl
        · exact (congrArg Bt.table bt).trans ((exit.lone_stays one (exit.still (within inside) ahead waits)).trans
            (congrArg (fun e => [e]) (clamps e)))
  refine ⟨fun run => ⟨fun free => ?_, ?_⟩, fun service unique => ⟨fun free => ?_, ?_⟩⟩
  · exact congrArg Host.Outcome.next (State.request_replied ⟨alive, free⟩ follow
      ((s.hold 0x50).modeRun_stays force run) rfl rfl)
  · exact State.event_makes (s := s.setServiceLine false) alive follow (if_pos run) rfl rfl
  · obtain ⟨t, run, made, driven, port, line⟩ := modeRun_leaves ⟨alive, free⟩ service force
    obtain ⟨left, treated⟩ := leaving _ _ _ _ _ t made driven unique
    exact ⟨t, run, left, treated, port, line⟩
  · obtain ⟨t, run, made, driven, port, line⟩ := serviceLineRelease_leaves alive service
    obtain ⟨left, treated⟩ := leaving _ _ _ _ _ t made driven unique
    exact ⟨t, run, left, treated, port, line⟩

end Sys2Proof.Machine

/-! SERVICE entry (R190): the settled reports taken, the sessions ended, the loops parked, the air at its minima
and the rows and blinds held. -/

namespace Sys2Proof.Machine

/-! ### Readiness moved by settled and lost reports -/

/-- What of an entry its readiness leaves alone. -/
def readinessApart (e : Entry) : Fixed × Volatile × Bool :=
  (e.fix, { e.vol with state := EntryState.planned }, isPrepared e)

def IsReadiness (n : Notice) : Prop :=
  ∃ ref, (∃ elapsed learnt, n = .ready ref elapsed learnt) ∨ n = .notReady ref .unsettled

/-- f moves prepared entries between PREPARING and READY, and each READY one that it moves has its notice. -/
structure Readying (table : List Entry) (f : Entry → Entry) (ns : List Notice) : Prop where
  apart : ∀ e ∈ table, readinessApart (f e) = readinessApart e
  idle : ∀ e ∈ table, isPrepared e = false → f e = e
  ready : ∀ e ∈ table, e.vol.state = .ready → f e = e ∨ .notReady e.fix.ref .unsettled ∈ ns
  notices : ∀ n ∈ ns, IsReadiness n

/-- t is s with the readiness of entries moved, the notices and the reports of it queued. -/
def State.Readies (s t : State) : Prop := ∃ f rates ns more, Readying s.bt.table f ns ∧ t = { s with
  bt := { s.bt with table := s.bt.table.map f, rates := rates }
  nq := (s.notifyAll ns).nq
  reports := s.reports ++ more }

theorem Readying.fix {table : List Entry} {f : Entry → Entry} {ns : List Notice} (h : Readying table f ns) {e : Entry}
    (he : e ∈ table) : (f e).fix = e.fix := congrArg Prod.fst (h.apart e he)

theorem Readying.trans {table : List Entry} {f g : Entry → Entry} {ns ms : List Notice} (h : Readying table f ns)
    (k : Readying (table.map f) g ms) : Readying table (g ∘ f) (ns ++ ms) where
  apart e he := (k.apart (f e) (List.mem_map_of_mem he)).trans (h.apart e he)
  idle e he hp := by
    have stays := h.idle e he hp
    have again := k.idle (f e) (List.mem_map_of_mem he) (by rw [stays]; exact hp)
    rw [Function.comp_apply, again, stays]
  ready e he hr := by
    rcases h.ready e he hr with stays | said
    · rcases k.ready (f e) (List.mem_map_of_mem he) (by rw [stays]; exact hr) with again | said
      · exact .inl (by rw [Function.comp_apply, again, stays])
      · exact .inr (List.mem_append_right _ (by rw [← h.fix he]; exact said))
    · exact .inr (List.mem_append_left _ said)
  notices n hn := (List.mem_append.1 hn).elim (h.notices n) (k.notices n)

namespace State.Readies

theorem refl (s : State) : s.Readies s :=
  ⟨id, s.bt.rates, [], [], ⟨fun _ _ => rfl, fun _ _ _ => rfl, fun _ _ _ => .inl rfl, fun _ h => nomatch h⟩, by
    rw [List.append_nil, List.map_id]
    rfl⟩

theorem trans {s t u : State} (h : s.Readies t) (k : t.Readies u) : s.Readies u := by
  obtain ⟨f, rates, ns, more, first, rfl⟩ := h
  obtain ⟨g, rates', ms, more', second, rfl⟩ := k
  refine ⟨g ∘ f, rates', ns ++ ms, more ++ more', first.trans second, ?_⟩
  rw [← State.notifyAll_after (s := s) (u := { s with
    bt := { s.bt with table := s.bt.table.map f, rates := rates }
    nq := (s.notifyAll ns).nq, reports := s.reports ++ more }) rfl rfl ms, ← List.map_map, ← List.append_assoc]

theorem unique {s t : State} (h : s.Readies t) (hu : s.UniqueRefs) : t.UniqueRefs := by
  obtain ⟨f, rates, ns, more, moves, rfl⟩ := h
  have refs : (s.bt.table.map f).map (·.fix.ref) = s.bt.table.map (·.fix.ref) :=
    List.map_map.trans (List.map_congr_left fun e he => congrArg Fixed.ref (moves.fix he))
  rw [State.UniqueRefs, refs]
  exact hu

theorem foldl {β : Type} {step : State → β → State} (h : ∀ (u : State) x, u.UniqueRefs → u.Readies (step u x)) :
    ∀ (l : List β) (s : State), s.UniqueRefs → s.Readies (l.foldl step s)
  | [], s, _ => refl s
  | x :: l, s, hu => (h s x hu).trans (foldl h l _ ((h s x hu).unique hu))

end State.Readies

theorem State.sweptWhere_readies {s : State} {p : Entry → Bool} {v : Entry → Volatile} {rates : Entry → Four Nat → Four Nat}
    {notice : Entry → Notice} {report : Entry → Instr} (prepared : ∀ e, p e = true → isPrepared e = true)
    (apart : ∀ e, p e = true → readinessApart { e with vol := v e } = readinessApart e)
    (ready : ∀ e, p e = true → e.vol.state = .ready → notice e = .notReady e.fix.ref .unsettled)
    (notices : ∀ e, p e = true → IsReadiness (notice e)) :
    s.Readies (s.sweptWhere p fun e => ⟨some { e with vol := v e }, rates e, [notice e], [report e]⟩) := by
  rw [State.sweptWhere_stays]
  refine ⟨fun e => if p e = true then { e with vol := v e } else e, _, _, _, ⟨fun e _ => ?_, fun e _ idle => ?_,
    fun e he hr => ?_, fun n hn => ?_⟩, rfl⟩
  · split
    · next h => exact apart e h
    · rfl
  · exact if_neg fun h => absurd (prepared e h) (by rw [idle]; exact Bool.false_ne_true)
  · by_cases h : p e = true
    · exact .inr (List.mem_map.2 ⟨e, List.mem_filter.2 ⟨he, h⟩, ready e h hr⟩)
    · exact .inl (if_neg h)
  · obtain ⟨e, he, rfl⟩ := List.mem_map.1 hn
    exact notices e (List.mem_filter.1 he).2

theorem isPrepared_iff {e : Entry} : isPrepared e = true ↔ e.vol.state = .preparing ∨ e.vol.state = .ready := by
  unfold isPrepared
  cases e.vol.state <;> decide

theorem isPrepared_state {f : Fixed} {v : Volatile} {x : EntryState} : isPrepared ⟨f, { v with state := x }⟩ =
    isPreparedState x := rfl

theorem State.takeSettled_readies {s : State} (hu : s.UniqueRefs) (g : Segs) : s.Readies (s.takeSettled g) := by
  rw [State.takeSettled_eq hu]
  have preparing {e : Entry} (h : (e.vol.state == .preparing && segHas g e.fix.first
      && s.lm.groups.any (fun r => r.segs == g && r.governing == some e.fix.ref)) = true) :
      e.vol.state = .preparing := by
    rw [Bool.and_eq_true, Bool.and_eq_true] at h
    exact beq_iff_eq.1 h.1.1
  refine State.sweptWhere_readies (fun e h => isPrepared_iff.2 (.inl (preparing h))) (fun e h => ?_)
    (fun e h hr => absurd (hr.symm.trans (preparing h)) (by decide)) fun e _ => ⟨_, .inl ⟨_, _, rfl⟩⟩
  rw [readinessApart, readinessApart, isPrepared_state, isPrepared_iff.2 (.inl (preparing h))]
  rfl

theorem State.takeLostSettled_readies {s : State} (hu : s.UniqueRefs) (g : Segs) : s.Readies (s.takeLostSettled g) := by
  rw [State.takeLostSettled_eq hu]
  have ready {e : Entry} (h : (e.vol.state == .ready && segHas g e.fix.first) = true) : e.vol.state = .ready := by
    rw [Bool.and_eq_true] at h
    exact beq_iff_eq.1 h.1
  refine State.sweptWhere_readies (fun e h => isPrepared_iff.2 (.inr (ready h))) (fun e h => ?_) (fun _ _ _ => rfl)
    fun e _ => ⟨_, .inr rfl⟩
  rw [readinessApart, readinessApart, isPrepared_state, isPrepared_iff.2 (.inr (ready h))]
  rfl

/-- A READY entry that a lost-settled report leaves READY lies outside its group (R36). -/
theorem State.takeLostSettled_ready {s : State} (hu : s.UniqueRefs) {g : Segs} {e : Entry}
    (he : e ∈ (s.takeLostSettled g).bt.table) (hr : e.vol.state = .ready) :
    e ∈ s.bt.table ∧ segHas g e.fix.first = false := by
  rw [State.takeLostSettled_eq hu] at he
  have he := (congrArg (e ∈ ·.bt.table) (State.sweptWhere_stays s _ _ (fun _ => id) _ _)).mp he
  obtain ⟨x, hx, rfl⟩ := List.mem_map.1 he
  split at hr
  · exact absurd (show EntryState.preparing = .ready from hr) (by decide)
  · next h =>
    rw [if_neg h]
    rw [hr] at h
    exact ⟨hx, Bool.eq_false_iff.2 fun has => h (by rw [has]; rfl)⟩

theorem State.lostAll_ready {loops : List Loop} : ∀ {s : State}, s.UniqueRefs → ∀ e,
    e ∈ (loops.foldl (fun (s : State) l => s.takeLostSettled l.segs) s).bt.table → e.vol.state = .ready →
      e ∈ s.bt.table ∧ ∀ l ∈ loops, segHas l.segs e.fix.first = false := by
  induction loops with
  | nil => exact fun _ e he _ => ⟨he, fun _ h => nomatch h⟩
  | cons l loops ih =>
    intro s hu e he hr
    obtain ⟨stood, rest⟩ := ih ((s.takeLostSettled_readies hu l.segs).unique hu) e he hr
    obtain ⟨there, out⟩ := State.takeLostSettled_ready hu stood hr
    exact ⟨there, fun x hx => (List.mem_cons.1 hx).elim (fun h => h ▸ out) (rest x)⟩

/-! ### Frames that need no unique references -/

theorem State.makeReady_ground (s : State) (e : Entry) : s.Ground (s.makeReady e) := by
  rw [State.makeReady_eq]
  rfl

theorem State.loseReady_acts (s : State) (e : Entry) (cause : NotReadyCause) : s.BtActs (s.loseReady e cause) :=
  ((s.mapVolatile_acts _ _).trans (State.notify_acts _ _)).trans (State.change_acts _ _ _ _)

theorem State.takeSettled_ground (s : State) (g : Segs) : s.Ground (s.takeSettled g) :=
  State.forEntries_keeps (s.Ground ·) _ (fun e u h => by
    split
    · exact h.trans (u.makeReady_ground e)
    · exact h) _ s (.refl s)

theorem State.takeLostSettled_acts (s : State) (g : Segs) : s.BtActs (s.takeLostSettled g) :=
  .forEntries (fun e u => .ite (fun _ => u.loseReady_acts e _) fun _ => .refl u) _ s

/-- Of the reports on their way, the settled ones (R35, R36). -/
def isSettledReport : Instr → Bool
  | .settledReport _ | .lostSettledReport _ => true
  | _ => false

/-- BT's answer to one settled report. -/
def State.takeReadiness (s : State) : Instr → State
  | .settledReport g => s.takeSettled g
  | .lostSettledReport g => s.takeLostSettled g
  | _ => s

theorem State.flushSettled_eq (s : State) : s.flushSettled = (s.reports.filter isSettledReport).foldl State.takeReadiness
    { s with reports := s.reports.filter fun c => !isSettledReport c } := by
  unfold State.flushSettled
  extract_lets isSettled mine s1
  have settled : isSettled = isSettledReport := by
    funext c
    cases c <;> rfl
  have begins : s1 = { s with reports := s.reports.filter fun c => !isSettledReport c } := by rw [← settled]
  have waiting : mine = s.reports.filter isSettledReport := by rw [← settled]
  rw [← begins, ← waiting]
  refine congrArg (fun k => mine.foldl k s1) (funext fun u => funext fun c => ?_)
  cases c <;> rfl

theorem State.takeReadiness_ground (s : State) (c : Instr) : s.Ground (s.takeReadiness c) := by
  cases c
  case settledReport g => exact s.takeSettled_ground g
  case lostSettledReport g => exact (s.takeLostSettled_acts g).ground
  all_goals exact .refl s

theorem State.takeReadiness_readies {s : State} (hu : s.UniqueRefs) (c : Instr) : s.Readies (s.takeReadiness c) := by
  cases c
  case settledReport g => exact State.takeSettled_readies hu g
  case lostSettledReport g => exact State.takeLostSettled_readies hu g
  all_goals exact .refl s

theorem State.Ground.foldl {β : Type} {step : State → β → State} (h : ∀ u x, State.Ground u (step u x)) :
    ∀ (l : List β) (s : State), s.Ground (l.foldl step s)
  | [], s => .refl s
  | x :: l, s => (h s x).trans (State.Ground.foldl h l (step s x))

theorem State.flushSettled_ground (s : State) : s.Ground s.flushSettled := by
  rw [State.flushSettled_eq]
  exact State.Ground.trans (t := { s with reports := s.reports.filter fun c => !isSettledReport c }) rfl
    (State.Ground.foldl State.takeReadiness_ground _ _)

/-! ### The sessions ended -/

theorem State.endAll_idle (refs : List Nat) : ∀ (s : State) (cause : EndCause),
    (∀ e ∈ s.bt.table, isActive e = true → e.fix.ref ∈ refs) →
    ∀ e ∈ (s.forEntries refs fun e s => s.endSession e cause).bt.table, isActive e = false := by
  induction refs with
  | nil => exact fun s _ h e he => Bool.eq_false_iff.2 fun active => nomatch h e he active
  | cons ref refs ih =>
    intro s cause h
    rw [State.forEntries_cons]
    cases found : s.entry? ref with
    | none =>
      refine ih s cause fun e he active => (List.mem_cons.1 (h e he active)).resolve_left fun eq => ?_
      exact State.entry?_none.1 found e he eq
    | some x =>
      obtain ⟨-, is⟩ := State.entry?_mem found
      refine ih _ cause fun e he active => ?_
      obtain ⟨stood, other⟩ := List.mem_filter.1 he
      exact (List.mem_cons.1 (h e stood active)).resolve_left fun eq => bne_iff_ne.1 other (eq.trans is.symm)

theorem State.endEvery_idle (s : State) (cause : EndCause) : ∀ e ∈ (s.endEvery cause).bt.table, isActive e = false :=
  State.endAll_idle _ s cause fun _ he active => List.mem_map_of_mem (List.mem_filter.2 ⟨he, active⟩)

theorem State.endEvery_acts (s : State) (cause : EndCause) : s.BtActs (s.endEvery cause) :=
  .forEntries (fun e u => u.endSession_acts e cause) _ s

theorem State.endEvery_treated {s : State} (hu : s.UniqueRefs) (cause : EndCause) :
    s.endEvery cause = s.treated (s.bt.table.filter fun e => !isActive e)
      ((s.bt.table.filter isActive).map fun e => .sessionEnded (endedFields e s.now cause))
      ((s.bt.table.filter isActive).flatMap s.endReports) := by
  have round := State.forEntries_where (P := s.Ground) (f := fun e u => u.endSession e cause)
    (k := fun e => .leaves [.sessionEnded (endedFields e s.now cause)] (s.endReports e)) isActive (.refl s) hu
    (fun u e h _ _ => h.turn e _) (fun u e h _ _ => ?_) (fun _ _ h => nomatch h) (fun _ => rfl)
  · refine round.trans ?_
    have table : (s.bt.table.filterMap fun y => if isActive y = true then (none : Option Entry) else some y) =
        s.bt.table.filter fun e => !isActive e := by
      rw [← List.filterMap_eq_filter]
      refine List.filterMap_congr fun y _ => ?_
      cases h : isActive y <;> simp [Option.guard, h]
    refine congrArg₂ (fun t ns => s.treated t ns _) table ?_
    exact (List.map_eq_flatMap ..).symm
  · rw [State.endSession_turn, h]
    rfl

/-! ### The blocks at SERVICE entry -/

/-- The settled reports taken and the mode set. -/
def State.silenced (s : State) : State :=
  { s.flushSettled with cs := { s.flushSettled.cs with mode := .service } }

/-- BT and the load at SERVICE entry. -/
def State.dismissed (s : State) : State := (s.silenced.endEvery .service).abortLoad .service

/-- Every loop parked, and the demand update handed on (R128). -/
def State.parkedAir (s : State) : State := (s.setLoops (s.al.loops.map fun l => s.evaluate (park l))).handOn

theorem State.BtActs.foldl {β : Type} {step : State → β → State} (h : ∀ u x, State.BtActs u (step u x)) :
    ∀ (l : List β) (s : State), s.BtActs (l.foldl step s)
  | [], s => .refl s
  | x :: l, s => (h s x).trans (State.BtActs.foldl h l (step s x))

theorem State.abortLoad_nq (s : State) (cause : AbortCause) : s.abortLoad cause = { s with
    load := none
    nq := (s.notifyAll (s.load.map fun l => .loadAborted l.lo l.hi cause l.staged.length).toList).nq } := by
  unfold State.abortLoad
  split
  · next h =>
    rw [h]
    show s = { s with load := none }
    rw [← h]
  · next l h =>
    rw [h]
    rfl

theorem State.silenced_ground (s : State) : ({ s with cs := { s.cs with mode := .service } } : State).Ground s.silenced := by
  have ground := s.flushSettled_ground
  unfold State.silenced State.Ground
  rw [ground]

/-- But for its table, notices and reports, the part that BT and the load have left is as it was, in SERVICE. -/
theorem State.dismissed_frame (s : State) : s.dismissed = { s with
    bt := { s.bt with table := s.dismissed.bt.table, stored := s.dismissed.bt.stored, rates := s.dismissed.bt.rates }
    nq := s.dismissed.nq
    reports := s.dismissed.reports
    load := none
    cs := { s.cs with mode := .service } } := by
  have ground := s.silenced_ground.trans (State.endEvery_acts s.silenced .service).ground
  unfold State.dismissed
  rw [State.abortLoad_nq]
  generalize s.silenced.endEvery .service = u at ground ⊢
  unfold State.Ground at ground
  rw [ground]

theorem State.dismissed_idle (s : State) : ∀ e ∈ s.dismissed.bt.table, isActive e = false := by
  unfold State.dismissed
  rw [State.abortLoad_nq]
  exact State.endEvery_idle _ _

theorem State.loseReady_idle {s : State} (e : Entry) (cause : NotReadyCause) (h : ∀ x ∈ s.bt.table, isActive x = false) :
    ∀ x ∈ (s.loseReady e cause).bt.table, isActive x = false := by
  intro x hx
  obtain ⟨y, hy, rfl⟩ := List.mem_map.1 hx
  split
  · rfl
  · exact h y hy

theorem State.takeLostSettled_idle {s : State} (g : Segs) (h : ∀ x ∈ s.bt.table, isActive x = false) :
    ∀ x ∈ (s.takeLostSettled g).bt.table, isActive x = false :=
  State.forEntries_keeps (fun u => ∀ x ∈ u.bt.table, isActive x = false) _ (fun e u hu => by
    split
    · exact State.loseReady_idle e _ hu
    · exact hu) _ s h

theorem State.lostAll_idle (loops : List Loop) : ∀ {s : State}, (∀ x ∈ s.bt.table, isActive x = false) →
    ∀ x ∈ (loops.foldl (fun (s : State) l => s.takeLostSettled l.segs) s).bt.table, isActive x = false := by
  induction loops with
  | nil => exact fun h => h
  | cons l loops ih => exact fun h => ih (State.takeLostSettled_idle l.segs h)

/-- The loops in SERVICE. -/
def State.parkedLoops (s : State) : List Loop := s.al.loops.map fun l => s.dismissed.evaluate (park l)

theorem State.dismissed_parkedAir (s : State) : s.dismissed.parkedAir = { s.dismissed with
    al := { s.al with loops := s.parkedLoops }
    reports := s.dismissed.reports ++ [.demandUpdate (demandFigs s.parkedLoops)] } := by
  have al : s.dismissed.al = s.al := by rw [s.dismissed_frame]
  have loops : (s.dismissed.al.loops.map fun l => s.dismissed.evaluate (park l)) = s.parkedLoops := by rw [al]; rfl
  unfold State.parkedAir State.handOn State.setLoops State.raise
  rw [loops, al]

theorem State.alService_acts (s : State) : s.parkedAir.BtActs s.alService :=
  .foldl (fun u (l : Loop) => u.takeLostSettled_acts l.segs) _ _

/-- But for its table, notices and reports, the part that AL has left too. -/
theorem State.alService_frame (s : State) : s.dismissed.alService = { s with
    bt := s.dismissed.alService.bt
    nq := s.dismissed.alService.nq
    reports := s.dismissed.alService.reports
    load := none
    cs := { s.cs with mode := .service }
    al := { s.al with loops := s.parkedLoops } } := by
  have ground := s.dismissed.alService_acts.ground
  rw [State.dismissed_parkedAir] at ground
  generalize s.dismissed.alService = u at ground ⊢
  have frame := s.dismissed_frame
  generalize s.parkedLoops = loops at ground ⊢
  generalize s.dismissed = d at ground frame
  unfold State.Ground at ground
  rw [frame] at ground
  generalize hbt : u.bt = bt at ground ⊢
  rw [ground] at hbt
  rw [ground, ← hbt]

/-- The part in SERVICE, but for its table, its notices and its reports (R128, R142, R167). -/
theorem State.enterService_frame (s : State) : s.enterService = { s with
    bt := s.dismissed.alService.bt
    nq := s.dismissed.alService.nq
    reports := s.dismissed.alService.reports
    load := none
    cs := { s.cs with mode := .service }
    al := { s.al with loops := s.parkedLoops }
    ad := { s.ad with
      total := sumOf (·.qmin) (s.ad.groups.map fun g => { g with short := false })
      groups := withAllocs (s.ad.groups.map fun g => { g with short := false })
        ((s.ad.groups.map fun g => ({ g with short := false } : AdGroup)).map (·.qmin))
      targets := s.minimaTargets }
    lbu := s.lbuService.lbu } := by
  have entered : s.enterService = ((s.dismissed.alService).adService).lbuService := rfl
  have frame := s.alService_frame
  rw [entered, State.adService, State.recompute_of_service (by rw [frame]; rfl)]
  generalize s.dismissed.alService = u at frame ⊢
  generalize u.bt = bt at frame ⊢
  generalize u.nq = nq at frame ⊢
  generalize u.reports = reports at frame ⊢
  rw [frame]
  rfl

theorem State.entered_idle (s : State) : ∀ e ∈ s.dismissed.alService.bt.table, isActive e = false :=
  State.lostAll_idle _ (s := s.dismissed.parkedAir) s.dismissed_idle

theorem State.entered_reports (s : State) :
    ∃ more, s.dismissed.alService.reports = s.dismissed.reports ++ .demandUpdate (demandFigs s.parkedLoops) :: more := by
  have acts := s.dismissed.alService_acts
  rw [State.dismissed_parkedAir] at acts
  obtain ⟨table, stored, ns, more, acts, -⟩ := acts
  refine ⟨more, ?_⟩
  rw [acts]
  exact List.append_assoc ..

/-- A loop as SERVICE parks it (R128). -/
theorem State.parkedLoop (s : State) {l : Loop} (h : l ∈ s.parkedLoops) : l.mode = .parked ∧ l.settled = false ∧
    l.reference = none ∧ l.qd = s.minOf l.segs ∧ l.qmin = s.minOf l.segs ∧ l.qvent = 0 ∧ l.reheat = 0 := by
  obtain ⟨x, -, rfl⟩ := List.mem_map.1 h
  have frame := s.dismissed_frame
  have least : s.dismissed.minOf = s.minOf := State.minOf_congr (by rw [frame])
  rw [State.evaluate_service (by rw [frame]; rfl), ← least]
  exact ⟨rfl, rfl, rfl, rfl, rfl, rfl, rfl⟩

theorem State.parkedLoops_segs (s : State) : s.parkedLoops.map (·.segs) = s.al.loops.map (·.segs) := by
  have run : s.dismissed.inRun = false := by rw [s.dismissed_frame]; rfl
  unfold State.parkedLoops
  rw [List.map_map]
  refine List.map_congr_left fun l _ => ?_
  rw [Function.comp_apply, State.evaluate_service run]
  rfl

/-! ### The table, the notices and the reports of SERVICE entry -/

theorem Readying.active {table : List Entry} {f : Entry → Entry} {ns : List Notice} (h : Readying table f ns) {e : Entry}
    (he : e ∈ table) : isActive (f e) = isActive e := by
  cases hp : isPrepared e with
  | false => rw [h.idle e he hp]
  | true =>
    have same : isPrepared (f e) = isPrepared e := congrArg (·.2.2) (h.apart e he)
    have idle {x : Entry} (hx : isPrepared x = true) : isActive x = false := by
      rcases isPrepared_iff.1 hx with h | h <;> rw [isActive, h] <;> rfl
    rw [idle hp, idle (same.trans hp)]

theorem Readying.actives {table : List Entry} {f : Entry → Entry} {ns : List Notice} (h : Readying table f ns) :
    (table.map f).filter isActive = table.filter isActive := by
  have same : table.filter (isActive ∘ f) = table.filter isActive := List.filter_congr fun e he => h.active he
  rw [List.filter_map, same]
  refine (List.map_congr_left fun e he => ?_).trans (List.map_id _)
  obtain ⟨there, is⟩ := List.mem_filter.1 he
  refine h.idle e there (Bool.eq_false_iff.2 fun hp => ?_)
  rcases isPrepared_iff.1 hp with h | h <;> rw [isActive, h] at is <;> exact Bool.false_ne_true is

theorem Readying.idles {table : List Entry} {f : Entry → Entry} {ns : List Notice} (h : Readying table f ns) :
    ((table.map f).filter fun e => !isActive e).map readinessApart =
      (table.filter fun e => !isActive e).map readinessApart := by
  have same : table.filter ((fun e => !isActive e) ∘ f) = table.filter fun e => !isActive e :=
    List.filter_congr fun e he => congrArg (!·) (h.active he)
  rw [List.filter_map, same, List.map_map]
  exact List.map_congr_left fun e he => h.apart e (List.mem_filter.1 he).1

/-- How SERVICE entry leaves the table, in the three parts of which it is made: the settled reports, the sessions
ended, the loops parked. -/
structure State.Entered (s u : State) (f g : Entry → Entry) (before behind : List Notice) : Prop where
  first : Readying s.bt.table f before
  second : Readying ((s.bt.table.map f).filter fun e => !isActive e) g behind
  table : u.bt.table = ((s.bt.table.map f).filter fun e => !isActive e).map g
  stored : s.bt.table.filter isActive ≠ [] →
    u.bt.stored = ((s.bt.table.map f).filter fun e => !isActive e).map (·.fix)
  nq : u.nq = (s.notifyAll (before ++
    (s.bt.table.filter isActive).map (fun e => .sessionEnded (endedFields e s.tb.minutes .service)) ++
    (s.load.map fun l => .loadAborted l.lo l.hi .service l.staged.length).toList ++ behind)).nq
  reports : ∀ e ∈ s.bt.table.filter isActive, ∀ c ∈ s.endReports e, c ∈ u.reports

theorem State.filter_shorter {table : List Entry} (h : table.filter isActive ≠ []) :
    (table.filter fun e => !isActive e).length < table.length := by
  rw [List.length_filter_lt_length_iff_exists]
  obtain ⟨e, he⟩ := List.exists_mem_of_ne_nil _ h
  obtain ⟨there, is⟩ := List.mem_filter.1 he
  exact ⟨e, there, by simp [is]⟩

/-- The settled reports taken (R35, R36). -/
theorem State.silenced_readies {s : State} (hu : s.UniqueRefs) : ∃ f rates before more, Readying s.bt.table f before ∧
    s.silenced = { s with
      bt := { s.bt with table := s.bt.table.map f, rates := rates }
      nq := (s.notifyAll before).nq
      reports := more
      cs := { s.cs with mode := .service } } := by
  have flushed : ({ s with reports := s.reports.filter fun c => !isSettledReport c } : State).Readies s.flushSettled := by
    rw [State.flushSettled_eq]
    exact .foldl (fun u c h => State.takeReadiness_readies h c) _ _ hu
  obtain ⟨f, rates, before, more, first, flush⟩ := flushed
  refine ⟨f, rates, before, (s.reports.filter fun c => !isSettledReport c) ++ more, first, ?_⟩
  unfold State.silenced
  rw [flush, State.notifyAll_nq (s := s)
    (u := { s with reports := s.reports.filter fun c => !isSettledReport c }) rfl rfl]

theorem State.silenced_unique {s : State} (hu : s.UniqueRefs) : s.silenced.UniqueRefs := by
  obtain ⟨f, rates, before, more, first, quiet⟩ := State.silenced_readies hu
  have same : (s.bt.table.map f).map (·.fix.ref) = s.bt.table.map (·.fix.ref) :=
    List.map_map.trans (List.map_congr_left fun e he => congrArg Fixed.ref (first.fix he))
  rw [State.UniqueRefs, quiet]
  exact same ▸ hu

theorem State.dismissed_unique {s : State} (hu : s.UniqueRefs) : s.dismissed.UniqueRefs := by
  have left : s.dismissed = (s.silenced.endEvery .service).abortLoad .service := rfl
  rw [left, State.endEvery_treated (State.silenced_unique hu), State.abortLoad_nq]
  exact List.Nodup.sublist (List.Sublist.map _ List.filter_sublist) (State.silenced_unique hu)

theorem State.entered {s : State} (hu : s.UniqueRefs) : ∃ f g before behind, s.Entered s.dismissed.alService f g before behind := by
  obtain ⟨f, rates, before, more, first, quiet⟩ := State.silenced_readies hu
  have ended := State.endEvery_treated (State.silenced_unique hu) .service
  have actives : s.silenced.bt.table.filter isActive = s.bt.table.filter isActive := by
    rw [quiet]
    exact first.actives
  have left : s.dismissed = (s.silenced.endEvery .service).abortLoad .service := rfl
  rw [ended, State.abortLoad_nq, actives] at left
  have table : s.dismissed.bt.table = (s.bt.table.map f).filter fun e => !isActive e := by
    rw [left, quiet]
    rfl
  have second : s.dismissed.parkedAir.Readies s.dismissed.alService :=
    .foldl (fun u (l : Loop) h => u.takeLostSettled_readies h l.segs) _ _ (State.dismissed_unique hu)
  obtain ⟨g, rates', behind, more', second, lost⟩ := second
  have read : s.silenced.nq = (s.notifyAll before).nq := by rw [quiet]
  have clock : s.silenced.tb = s.tb := by rw [quiet]
  have load : s.silenced.load = s.load := by rw [quiet]
  have now : s.silenced.now = s.tb.minutes := congrArg Tb.minutes clock
  have nq : s.dismissed.nq = (s.notifyAll (before ++
      (s.bt.table.filter isActive).map (fun e => .sessionEnded (endedFields e s.tb.minutes .service)) ++
      (s.load.map fun l => .loadAborted l.lo l.hi .service l.staged.length).toList)).nq := by
    have closed := State.notifyAll_after (s := s) read clock
      ((s.bt.table.filter isActive).map fun e => .sessionEnded (endedFields e s.tb.minutes .service))
    rw [left, ← load, now]
    exact State.notifyAll_after (s := s) (u := s.silenced.treated _ _ _) closed clock _
  refine ⟨f, g, before, behind, first, by rw [← table]; exact second, ?_, fun some => ?_, ?_, fun e he c hc => ?_⟩
  · rw [lost, ← table]
    rfl
  · rw [lost, ← table]
    show s.dismissed.bt.stored = _
    have fewer := State.filter_shorter (table := s.silenced.bt.table) (by rw [actives]; exact some)
    have gone := State.treated_bt_gone s.silenced fewer
      ((s.bt.table.filter isActive).map fun e => .sessionEnded (endedFields e s.silenced.now .service))
      ((s.bt.table.filter isActive).flatMap s.silenced.endReports)
    have stored := congrArg Bt.stored ((congrArg State.bt left).trans gone)
    have moved : s.silenced.bt.table = s.bt.table.map f := by rw [quiet]
    exact stored.trans (by rw [table, ← moved])
  · rw [lost]
    exact State.notifyAll_after (s := s) (u := s.dismissed.parkedAir) nq (by rw [State.dismissed_parkedAir, s.dismissed_frame]) _
  · rw [lost]
    refine List.mem_append_left _ (List.mem_append_left _ ?_)
    rw [left]
    refine List.mem_append_right _ (List.mem_flatMap.2 ⟨e, he, ?_⟩)
    rw [quiet]
    exact hc

/-- No READY entry is left in a group whose loop was SETTLED (R54, R128). -/
theorem State.entered_unsettled {s : State} (hu : s.UniqueRefs) : ∀ e ∈ s.dismissed.alService.bt.table,
    (e.vol.state == .ready && s.al.loops.any fun l => l.settled && segHas l.segs e.fix.first) = false := by
  intro e he
  rw [Bool.and_eq_false_iff, beq_eq_false_iff_ne, or_iff_not_imp_left, not_not]
  intro ready
  have out := (State.lostAll_ready (s := s.dismissed.parkedAir) (State.dismissed_unique hu) e he ready).2
  rw [List.any_eq_false]
  intro l hl both
  rw [Bool.and_eq_true] at both
  have al : s.dismissed.al = s.al := by rw [s.dismissed_frame]
  have never := out l (by rw [al]; exact List.mem_filter.2 ⟨hl, both.1⟩)
  rw [never] at both
  exact Bool.false_ne_true both.2

theorem serviceBlind_held (b : Blind) : (serviceBlind b).override = none ∧ (serviceBlind b).position = b.position ∧
    (b.driveUp = none → (serviceBlind b).motion = .stopped) := by
  unfold serviceBlind
  split
  · next up => exact ⟨rfl, rfl, fun none => absurd up (by rw [none]; exact Bool.false_ne_true)⟩
  · exact ⟨rfl, rfl, fun _ => rfl⟩

/-- Settles O27: the checks passed, BT's part in its three turns, and each block as SERVICE leaves it. -/
theorem serviceEntryHoldsTheSuite : Obligations.ServiceEntryHoldsTheSuite := by
  intro s force hs run line lock forced
  have judged : State.modeService force (s.hold 0x50) = answerOk (s.hold 0x50).enterService := by
    rw [State.modeService_eq, if_neg (by rw [show (s.hold 0x50).inRun = true from run]; decide),
      if_neg (by rw [show (s.hold 0x50).cs = s.cs from rfl, line]; decide),
      if_neg (by rw [show (s.hold 0x50).cs = s.cs from rfl, lock]; decide), if_neg]
    rintro ⟨active, unforced⟩
    rw [forced active] at unforced
    exact absurd unforced (by decide)
  have exec_eq : exec (.modeSetService (.fields force)) s =
      .next (putReply 0x50 (answerOk (s.hold 0x50).enterService)).drive :=
    congrArg Host.Outcome.next ((State.request_taken hs 0x50 _).trans (congrArg (fun a => (putReply 0x50 a).drive) judged))
  let p := s.hold 0x50
  have frame := p.enterService_frame
  have idle := p.entered_idle
  obtain ⟨more, reports⟩ := p.entered_reports
  have loops {l : Loop} (hl : l ∈ p.parkedLoops) := p.parkedLoop hl
  have segs := p.parkedLoops_segs
  have entered (hu : s.UniqueRefs) := State.entered (s := p) hu
  have unsettled (hu : s.UniqueRefs) := State.entered_unsettled (s := p) hu
  rw [frame] at exec_eq
  generalize p.dismissed.alService = u at *
  generalize p.parkedLoops = after at *
  refine ⟨_, exec_eq, rfl, idle, fun hu => ?_, rfl, segs, fun l hl => loops hl, ?_, fun i hi => ?_, fun i hi => ?_, ?_, fun g hg => ?_,
    rfl, rfl, rfl, rfl, rfl, rfl, rfl, rfl, rfl, (State.drive_drive_os _).symm⟩
  · intro kept actives unsettledIn readiness
    obtain ⟨f, g, before, behind, way⟩ := entered hu
    refine ⟨?_, unsettled hu, fun some => ?_, fun e he => ?_, before, behind, ?_, fun n hn => ?_, fun e he open_ => ?_⟩
    · show u.bt.table.map readinessApart = _
      rw [way.table, List.map_map]
      exact (List.map_congr_left fun e he => way.second.apart e he).trans way.first.idles
    · show u.bt.stored = u.bt.table.map (·.fix)
      rw [way.stored some, way.table, List.map_map]
      exact (List.map_congr_left fun e he => way.second.fix he).symm
    · exact ⟨way.reports e he _ List.mem_cons_self, way.reports e he _ (List.mem_cons_of_mem _ List.mem_cons_self)⟩
    · exact way.nq.trans (State.notifyAll_nq (s := s) (u := p) rfl rfl _)
    · exact (List.mem_append.1 hn).elim (way.first.notices n) (way.second.notices n)
    · have ready : e.vol.state = .ready := beq_iff_eq.1 (Bool.and_eq_true_iff.1 open_).1
      refine List.mem_append.2 ((way.first.ready e he ready).elim (fun stays => ?_) .inl)
      have there : e ∈ (s.bt.table.map f).filter fun e => !isActive e :=
        List.mem_filter.2 ⟨List.mem_map.2 ⟨e, he, stays⟩, by rw [isActive, ready]; rfl⟩
      refine (way.second.ready e there ready).elim (fun again => ?_) .inr
      have kept : e ∈ u.bt.table := by
        rw [way.table]
        exact List.mem_map.2 ⟨e, there, again⟩
      exact absurd open_ (by rw [show unsettledIn e = false from unsettled hu e kept]; exact Bool.false_ne_true)
  · show _ ∈ u.reports
    rw [reports]
    exact List.mem_append_right _ List.mem_cons_self
  · have held : p.lbuService.lbu.segs.get i = { s.lbu.segs.get i with
        window := serviceRow s.suite.serviceLevel, inner := serviceRow s.suite.serviceLevel
        blind := serviceBlind (s.lbu.segs.get i).blind } := (Four.get_mapIdx _ _ i).trans (if_pos hi)
    obtain ⟨bare, still, stops⟩ := serviceBlind_held (s.lbu.segs.get i).blind
    refine ⟨congrArg LbuSeg.window held, congrArg LbuSeg.inner held, (congrArg (·.blind.override) held).trans bare,
      (congrArg (·.blind.position) held).trans still, fun parked => (congrArg (·.blind.motion) held).trans (stops parked)⟩
  · exact (Four.get_mapIdx _ _ i).trans (if_pos hi)
  · exact (withAllocs_map (fun _ _ => rfl) (by simp)).trans (List.map_map.trans (List.map_congr_left fun _ _ => rfl))
  · have hg : g ∈ withAllocs (s.ad.groups.map fun g => ({ g with short := false } : AdGroup))
        ((s.ad.groups.map fun g => ({ g with short := false } : AdGroup)).map (·.qmin)) := hg
    rw [withAllocs_self] at hg
    obtain ⟨x, hx, rfl⟩ := List.mem_map.1 hg
    obtain ⟨y, -, rfl⟩ := List.mem_map.1 hx
    exact ⟨rfl, rfl⟩

end Sys2Proof.Machine

/-! BOOK CHANGE of an entry under way (R17 to R20): the entry in its new place, its live copies reloaded, and what
follows. -/

namespace Sys2Proof.Machine

/-! ### What a loop reads of the table -/

theorem State.evaluate_table {u : State} {b : Bt} (h : ({ u with bt := b } : State).liveSetpointOf = u.liveSetpointOf)
    (l : Loop) : ({ u with bt := b } : State).evaluate l = u.evaluate l := by
  have active : ({ u with bt := b } : State).activeSetpoint l = u.activeSetpoint l := by
    unfold State.activeSetpoint
    rw [h]
    rfl
  unfold State.evaluate
  rw [active]
  rfl

/-- A loop follows the live setpoints, and reads nothing else of the table (R109 to R111). -/
theorem State.loopFollowing_table {u : State} {b : Bt}
    (h : ({ u with bt := b } : State).liveSetpointOf = u.liveSetpointOf) (l : Loop) :
    ({ u with bt := b } : State).loopFollowing l = u.loopFollowing l := by
  have setpoint : ({ u with bt := b } : State).setpointFor l = u.setpointFor l := by
    have live : (l.governing.bind fun ref => ({ u with bt := b } : State).liveSetpointOf ref) =
        l.governing.bind fun ref => u.liveSetpointOf ref := by rw [h]
    unfold State.setpointFor
    split
    · rfl
    · exact live
  unfold State.loopFollowing
  simp only [setpoint, State.evaluate_table h]
  rfl

/-! ### An entry in a new place -/

/-- The entry in its new place, under fixed and volatile fields given. -/
def State.seats (u : State) (e : Entry) (g : Fixed) (v : Volatile) : State :=
  u.withTable (insertEntry ⟨g, v⟩ (u.bt.table.filter fun x => x.fix.ref != e.fix.ref))

theorem State.seats_fresh {u : State} {e : Entry} {g : Fixed} (hg : g.ref = e.fix.ref) :
    ∀ x ∈ u.bt.table.filter fun x => x.fix.ref != e.fix.ref, x.fix.ref ≠ g.ref := fun x hx => by
  rw [hg]
  exact bne_iff_ne.1 (List.mem_filter.1 hx).2

theorem State.seats_mapVolatile {u : State} {e : Entry} {g : Fixed} (hg : g.ref = e.fix.ref) (v : Volatile)
    (f : Volatile → Volatile) : (u.seats e g v).mapVolatile e.fix.ref f = u.seats e g (f v) := by
  have table := map_insertEntry_fresh (v := v) (State.seats_fresh (u := u) hg) f
  rw [hg] at table
  have stored : (insertEntry ⟨g, v⟩ (u.bt.table.filter fun x => x.fix.ref != e.fix.ref)).map (·.fix) =
      (insertEntry ⟨g, f v⟩ (u.bt.table.filter fun x => x.fix.ref != e.fix.ref)).map (·.fix) := by
    rw [map_fix_insertEntry, map_fix_insertEntry]
  unfold State.seats State.withTable State.mapVolatile
  simp only [table, stored]

theorem find?_insertEntry {α : Type} {k : Entry → α} {g : Fixed} {v w : Volatile} (h : k ⟨g, v⟩ = k ⟨g, w⟩) (ref : Nat)
    (t : List Entry) : ((insertEntry ⟨g, v⟩ t).find? fun x => x.fix.ref == ref).map k =
      ((insertEntry ⟨g, w⟩ t).find? fun x => x.fix.ref == ref).map k := by
  unfold insertEntry
  induction t with
  | nil =>
    simp only [insertBy, List.find?_cons, List.find?_nil]
    cases g.ref == ref
    · rfl
    · exact congrArg some h
  | cons x t ih =>
    simp only [insertBy]
    split
    · simp only [List.find?_cons]
      cases g.ref == ref
      · rfl
      · exact congrArg some h
    · simp only [List.find?_cons]
      cases x.fix.ref == ref
      · exact ih
      · rfl

theorem State.seats_live {u : State} {e : Entry} {g : Fixed} {v w : Volatile} (h : v.liveSetpoint = w.liveSetpoint) :
    (u.seats e g v).liveSetpointOf = (u.seats e g w).liveSetpointOf := by
  funext ref
  have read (o : Option Entry) : o.bind (·.vol.liveSetpoint) = (o.map (·.vol.liveSetpoint)).join := by cases o <;> rfl
  show Option.bind _ _ = Option.bind _ _
  rw [read, read]
  exact congrArg Option.join (find?_insertEntry (k := (·.vol.liveSetpoint)) (g := g) h ref _)

theorem State.seats_entry? {u : State} {e : Entry} {g : Fixed} (hg : g.ref = e.fix.ref) (v : Volatile) :
    (u.seats e g v).entry? e.fix.ref = some ⟨g, v⟩ := by
  cases found : (u.seats e g v).entry? e.fix.ref with
  | none => exact absurd hg (State.entry?_none.1 found ⟨g, v⟩ ((mem_insertBy _ _ _ _).2 (.inl rfl)))
  | some x =>
    obtain ⟨mem, is⟩ := State.entry?_mem found
    rcases (mem_insertBy _ _ _ _).1 mem with rfl | other
    · rfl
    · exact absurd (is.trans hg.symm) (State.seats_fresh hg x other)

theorem filter_insertEntry {p : Entry → Bool} {x : Entry} (h : p x = false) (t : List Entry) :
    (insertEntry x t).filter p = t.filter p := by
  unfold insertEntry
  induction t with
  | nil => simp [insertBy, h]
  | cons y t ih =>
    simp only [insertBy]
    split
    · exact List.filter_cons_of_neg (by rw [h]; exact Bool.false_ne_true)
    · rw [List.filter_cons, List.filter_cons, ih]

theorem State.seats_dropEntry {u : State} {e : Entry} {g : Fixed} (hg : g.ref = e.fix.ref) (v : Volatile) :
    (u.seats e g v).dropEntry e.fix.ref = u.withTable (u.bt.table.filter fun x => x.fix.ref != e.fix.ref) := by
  have others : (insertEntry ⟨g, v⟩ (u.bt.table.filter fun x => x.fix.ref != e.fix.ref)).filter
      (fun x => x.fix.ref != e.fix.ref) = u.bt.table.filter fun x => x.fix.ref != e.fix.ref := by
    rw [filter_insertEntry (by rw [hg]; exact bne_self_eq_false _), List.filter_filter]
    simp only [Bool.and_self]
  unfold State.dropEntry State.seats State.setTable State.withTable
  simp only [others]

/-! ### The reload (R20) -/

/-- The live copies reloaded where the derived values have altered. -/
def reloadedVol (c : Commission) (f g : Fixed) (v : Volatile) : Volatile := { v with
  liveSetpoint := if storedSetpoint c g = storedSetpoint c f then v.liveSetpoint else some (storedSetpoint c g)
  currentScene := if bookedScene c g = bookedScene c f then v.currentScene else some (bookedScene c g)
  savedScene := if bookedScene c g = bookedScene c f then v.savedScene else none }

/-- The loops once the entry's setpoint has been reloaded (R111). -/
def State.loopsReloaded (u : State) (e : Entry) (g : Fixed) : List Loop :=
  if storedSetpoint u.comm g = storedSetpoint u.comm e.fix then u.al.loops
  else u.al.loops.map fun l => if l.governing = some e.fix.ref
    then (u.seats e g (reloadedVol u.comm e.fix g e.vol)).loopFollowing l else l

/-- AL as the reload leaves it, with the reports it has made. -/
def State.reloadedAir (u : State) (e : Entry) (g : Fixed) : State := { u with
  al := { u.al with loops := u.loopsReloaded e g }
  reports := u.reports ++ loopReports u.al.loops (u.loopsReloaded e g) ++
    if bookedScene u.comm g = bookedScene u.comm e.fix then [] else [.sceneChange e.fix.ref] }

theorem State.seats_reload {u : State} {e : Entry} {g : Fixed} (hg : g.ref = e.fix.ref) :
    (u.seats e g e.vol).reload e g = (u.reloadedAir e g).seats e g (reloadedVol u.comm e.fix g e.vol) := by
  have first : (if (storedSetpoint u.comm e.fix != storedSetpoint u.comm g) = true then
      ((u.seats e g e.vol).mapVolatile e.fix.ref fun v =>
        { v with liveSetpoint := some (storedSetpoint u.comm g) }).alSetpointMoved e.fix.ref else u.seats e g e.vol) =
      ({ u with
        al := { u.al with loops := u.loopsReloaded e g }
        reports := u.reports ++ loopReports u.al.loops (u.loopsReloaded e g) } : State).seats e g { e.vol with
          liveSetpoint := (reloadedVol u.comm e.fix g e.vol).liveSetpoint } := by
    by_cases same : storedSetpoint u.comm g = storedSetpoint u.comm e.fix
    · rw [if_neg (by rw [same]; simp), State.loopsReloaded, if_pos same, loopReports_self, List.append_nil]
      unfold reloadedVol
      rw [if_pos same]
    · have moved : (reloadedVol u.comm e.fix g e.vol).liveSetpoint = some (storedSetpoint u.comm g) := if_neg same
      have loops : (u.al.loops.map fun l => if (l.governing == some e.fix.ref) = true then
          (u.seats e g { e.vol with liveSetpoint := some (storedSetpoint u.comm g) }).loopFollowing l else l) =
          u.loopsReloaded e g := by
        rw [State.loopsReloaded, if_neg same]
        refine List.map_congr_left fun l _ => if_congr beq_iff_eq ?_ rfl
        exact State.loopFollowing_table (u := u.seats e g (reloadedVol u.comm e.fix g e.vol))
          (State.seats_live (v := { e.vol with liveSetpoint := some (storedSetpoint u.comm g) }) moved.symm) l
      rw [if_pos (bne_iff_ne.2 fun h => same h.symm), State.seats_mapVolatile hg, State.alSetpointMoved, State.alReconcile_eq,
        moved, ← loops]
      rfl
  have reloaded : (u.seats e g e.vol).reload e g = if (bookedScene u.comm e.fix != bookedScene u.comm g) = true then
      (({ u with
        al := { u.al with loops := u.loopsReloaded e g }
        reports := u.reports ++ loopReports u.al.loops (u.loopsReloaded e g) } : State).seats e g { e.vol with
          liveSetpoint := (reloadedVol u.comm e.fix g e.vol).liveSetpoint }).mapVolatile e.fix.ref (fun v =>
            { v with currentScene := some (bookedScene u.comm g), savedScene := none }) |>.raise (.sceneChange e.fix.ref)
      else ({ u with
        al := { u.al with loops := u.loopsReloaded e g }
        reports := u.reports ++ loopReports u.al.loops (u.loopsReloaded e g) } : State).seats e g { e.vol with
          liveSetpoint := (reloadedVol u.comm e.fix g e.vol).liveSetpoint } := by
    rw [← first]
    rfl
  rw [reloaded]
  by_cases same : bookedScene u.comm g = bookedScene u.comm e.fix
  · rw [if_neg (by rw [same]; simp)]
    unfold State.reloadedAir reloadedVol
    rw [if_pos same, if_pos same, if_pos same, List.append_nil]
  · rw [if_pos (bne_iff_ne.2 fun h => same h.symm), State.seats_mapVolatile hg]
    unfold State.reloadedAir reloadedVol
    rw [if_neg same, if_neg same, if_neg same]
    rfl

/-! ### The change of an entry under way -/

theorem State.applyChange_moves {s : State} {c : ChangeWire} {e : Entry} (prepared : isPrepared e = true)
    (moves : movesEntry e.fix (candidate s.comm c e.fix) = true) :
    s.applyChange c e = ({ s with
      nq := if e.vol.state = .ready then (s.notify (.notReady e.fix.ref .changed)).nq else s.nq
      reports := s.reports ++ [.entryStateChange e.fix.ref (entrySegs e) false] } : State).seats e (candidate s.comm c e.fix)
        Volatile.planned := by
  have made : s.applyChange c e = (s.seats e (candidate s.comm c e.fix) e.vol).backToPlanned e := by
    unfold State.applyChange
    rcases isPrepared_iff.1 prepared with h | h <;> rw [h] <;> exact if_pos moves
  rw [made, State.backToPlanned, State.seats_mapVolatile (candidate_ref ..)]
  by_cases ready : e.vol.state = .ready
  · rw [if_pos ready, if_pos (beq_iff_eq.2 ready)]
    rfl
  · rw [if_neg ready, if_neg (mt beq_iff_eq.1 ready)]
    rfl

theorem State.applyChange_stays {s : State} {c : ChangeWire} {e : Entry} (prepared : isPrepared e = true)
    (stays : movesEntry e.fix (candidate s.comm c e.fix) = false) :
    s.applyChange c e = (s.reloadedAir e (candidate s.comm c e.fix)).seats e (candidate s.comm c e.fix)
      (reloadedVol s.comm e.fix (candidate s.comm c e.fix) e.vol) := by
  rw [← State.seats_reload (candidate_ref ..)]
  unfold State.applyChange
  rcases isPrepared_iff.1 prepared with h | h <;> rw [h] <;> exact if_neg (by rw [stays]; exact Bool.false_ne_true)

/-- AL as an active entry's change leaves it, with the reports made up to its end or its return (R18). -/
def State.changedAir (s : State) (e : Entry) (g : Fixed) : State := { s.reloadedAir e g with
  reports := (s.reloadedAir e g).reports ++
    if g.headcount = e.fix.headcount then [] else [.headcountChange e.fix.ref (entrySegs e)] }

theorem isActive_iff {e : Entry} : isActive e = true ↔ e.vol.state = .inSession ∨ e.vol.state = .overrun := by
  unfold isActive
  cases e.vol.state <;> decide

/-- The change of an active entry before its end is judged (R18, R19). -/
theorem State.applyChange_active {s : State} {c : ChangeWire} {e : Entry} (active : isActive e = true) :
    s.applyChange c e = if endsNow s c e = true then
        (((s.changedAir e (candidate s.comm c e.fix)).seats e (candidate s.comm c e.fix)
          (reloadedVol s.comm e.fix (candidate s.comm c e.fix) e.vol)).endSession
            ⟨candidate s.comm c e.fix, reloadedVol s.comm e.fix (candidate s.comm c e.fix) e.vol⟩ .supervisor)
      else ((s.changedAir e (candidate s.comm c e.fix)).seats e (candidate s.comm c e.fix)
        (reloadedVol s.comm e.fix (candidate s.comm c e.fix) e.vol)).resumeSession e (candidate s.comm c e.fix) := by
  have ref : (candidate s.comm c e.fix).ref = e.fix.ref := candidate_ref ..
  unfold State.applyChange
  extract_lets g s1 s2 s3
  have told : s3 = (s.changedAir e g).seats e g (reloadedVol s.comm e.fix g e.vol) := by
    have reloaded : s2 = _ := State.seats_reload (u := s) ref
    show (if (e.fix.headcount != g.headcount) = true then s2.raise (.headcountChange e.fix.ref (entrySegs e)) else s2) = _
    rw [reloaded]
    unfold State.changedAir
    by_cases same : g.headcount = e.fix.headcount
    · rw [if_neg (by rw [same]; simp), if_pos same, List.append_nil]
    · rw [if_pos (bne_iff_ne.2 fun h => same h.symm), if_neg same]
      rfl
  have found : s3.entry? e.fix.ref = some ⟨g, reloadedVol s.comm e.fix g e.vol⟩ := by
    rw [told]
    exact State.seats_entry? ref _
  rw [← told, found]
  rcases isActive_iff.1 active with h | h <;> rw [h]

/-- An end that BOOK CHANGE makes: the candidate's figures in the notice, the segments those of the entry (R19, R46). -/
theorem State.changed_ends {u : State} {e : Entry} {g : Fixed} {v : Volatile} (hg : g.ref = e.fix.ref)
    (segs : fixedSegs g = entrySegs e) : (u.seats e g v).endSession ⟨g, v⟩ .supervisor = { u with
      bt := (u.withTable (u.bt.table.filter fun x => x.fix.ref != e.fix.ref)).bt
      nq := (u.notify (.sessionEnded (endedFields ⟨g, v⟩ u.now .supervisor))).nq
      reports := u.reports ++ [.entryStateChange e.fix.ref (entrySegs e) false,
        .sessionEndOverrides e.fix.ref (u.governedBy e.fix.ref)] } := by
  have dropped := State.seats_dropEntry (u := u) hg v
  have bt : ((u.seats e g v).endSession ⟨g, v⟩ .supervisor).bt = ((u.seats e g v).dropEntry e.fix.ref).bt := by
    rw [← hg]
    rfl
  rw [dropped] at bt
  have made : (u.seats e g v).endSession ⟨g, v⟩ .supervisor = { u with
      bt := ((u.seats e g v).endSession ⟨g, v⟩ .supervisor).bt
      nq := (u.notify (.sessionEnded (endedFields ⟨g, v⟩ u.now .supervisor))).nq
      reports := u.reports ++ [.entryStateChange g.ref (fixedSegs g) false,
        .sessionEndOverrides g.ref (u.governedBy g.ref)] } := rfl
  rw [made, bt, hg, segs]

theorem State.changed_resumes {u : State} {e : Entry} {g : Fixed} {v : Volatile} (hg : g.ref = e.fix.ref) :
    (u.seats e g v).resumeSession e g =
      if e.vol.state = .overrun ∧ g.stop ≠ e.fix.stop ∧ u.now < g.stop then
        ({ u with reports := u.reports ++ [.entryStateChange e.fix.ref (entrySegs e) false] } : State).seats e g
          { v with state := .inSession }
      else u.seats e g v := by
  unfold State.resumeSession
  rw [State.seats_mapVolatile hg]
  refine if_congr ?_ rfl rfl
  simp only [Bool.and_eq_true, beq_iff_eq, bne_iff_ne, decide_eq_true_eq, and_assoc]
  exact and_congr_right fun _ => and_congr_left fun _ => ne_comm

theorem changeReason_segs {s : State} {c : ChangeWire} {e : Entry} (ok : changeReason s c e = .ok)
    (active : isActive e = true) : fixedSegs (candidate s.comm c e.fix) = entrySegs e := by
  have all := (firstFault_eq_ok (by simp [changeChecks])).mp ((firstFault_changeChecks s c e).trans ok)
  have kept := all (isActive e && altersActive e.fix (candidate s.comm c e.fix), .active) (by simp [changeChecks])
  simp only [active, altersActive, Bool.true_and, Bool.or_eq_false_iff, bne_eq_false_iff_eq] at kept
  obtain ⟨⟨⟨⟨⟨-, first⟩, span⟩, -⟩, -⟩, -⟩ := kept
  show (⟨_, _⟩ : Segs) = ⟨_, _⟩
  rw [first, span]

/-- An accepted change, but for what the entry makes of it. -/
theorem bookChange_applies {s u : State} {c : ChangeWire} {e : Entry} {table : List Entry} (hs : s.TakesRequest)
    (found : s.entry? c.ref = some e) (changes : allKept c = false) (ok : changeReason s c e = .ok)
    (made : (s.hold 0x11).applyChange c e = ({ u with bt := (s.withTable table).bt } : State).hold 0x11) :
    exec (.bookChange (.fields c)) s =
      .next (({ u with bt := (s.withTable table).bt } : State).replied 0x11 .ok []).drive := by
  have answer := State.bookChange_some (s := s.hold 0x11) (e := e) found
  rw [if_neg (by rw [changes]; exact Bool.false_ne_true), if_pos (show changeReason (s.hold 0x11) c e = .ok from ok),
    made] at answer
  exact congrArg Host.Outcome.next ((State.request_taken hs 0x11 _).trans
    (congrArg (fun a => (putReply 0x11 a).drive) answer))

/-- Settles O14: the entry in its new place, by the three ways a change of an entry under way takes. -/
theorem bookChangeReturnsToPlannedOrEndsSession : Obligations.BookChangeReturnsToPlannedOrEndsSession := by
  intro s c e hs found changes ok g others change becomes stored booked reloaded loops told resumes
  have ref : (candidate s.comm c e.fix).ref = e.fix.ref := candidate_ref ..
  have idle (prepared : isPrepared e = true) : isActive e = false := by
    rcases isPrepared_iff.1 prepared with h | h <;> rw [isActive, h] <;> rfl
  have told_active (active : isActive e = true) : (s.changedAir e g).reports = told := by
    have count : (if g.headcount = e.fix.headcount then [] else [Instr.headcountChange e.fix.ref (entrySegs e)]) =
        if isActive e = true ∧ g.headcount ≠ e.fix.headcount then [.headcountChange e.fix.ref (entrySegs e)] else [] := by
      by_cases same : g.headcount = e.fix.headcount
      · rw [if_pos same, if_neg fun h => h.2 same]
      · rw [if_neg same, if_pos ⟨active, same⟩]
    show (s.reloadedAir e g).reports ++ _ = _
    rw [count]
    rfl
  have told_prepared (prepared : isPrepared e = true) : (s.reloadedAir e g).reports = told := by
    have count : (if isActive e = true ∧ g.headcount ≠ e.fix.headcount
        then [Instr.headcountChange e.fix.ref (entrySegs e)] else []) = [] :=
      if_neg fun h => absurd h.1 (by rw [idle prepared]; exact Bool.false_ne_true)
    show _ = _ ++ _
    rw [count, List.append_nil]
    rfl
  refine ⟨fun prepared moves => ?_, fun active ends => ?_, fun way => ?_⟩
  · exact bookChange_applies hs found changes ok (State.applyChange_moves (s := s.hold 0x11) prepared moves)
  · have made := (State.applyChange_active (s := s.hold 0x11) (c := c) active).trans
      ((if_pos (show endsNow (s.hold 0x11) c e = true from ends)).trans (State.changed_ends ref (changeReason_segs ok active)))
    refine bookChange_applies hs found changes ok (made.trans ?_)
    rw [← told_active active]
    rfl
  · intro state
    rcases way with ⟨prepared, stays⟩ | ⟨active, lasts⟩
    · have rests : ¬ resumes := fun h => by
        rcases isPrepared_iff.1 prepared with p | p <;> exact absurd (p.symm.trans h.1) (by decide)
      have same : state = e.vol.state := if_neg rests
      refine bookChange_applies hs found changes ok ((State.applyChange_stays (s := s.hold 0x11) prepared stays).trans ?_)
      rw [if_neg rests, List.append_nil, ← told_prepared prepared, same]
      rfl
    · have kept := (State.applyChange_active (s := s.hold 0x11) (c := c) active).trans
        ((if_neg (show ¬ endsNow (s.hold 0x11) c e = true by
          rw [show endsNow (s.hold 0x11) c e = endsNow s c e from rfl, lasts]
          exact Bool.false_ne_true)).trans (State.changed_resumes ref))
      refine bookChange_applies hs found changes ok (kept.trans ?_)
      rw [← told_active active]
      by_cases back : resumes
      · rw [if_pos back, show state = .inSession from if_pos back]
        exact if_pos back
      · rw [if_neg back, List.append_nil, show state = e.vol.state from if_neg back]
        exact if_neg back

end Sys2Proof.Machine

/-! LM's records resolved: what a resolution makes of each record, of its list of sessions and of its shares (R78,
R79, R82 to R84). -/

namespace Sys2Proof.Machine

/-! ### The list of sessions (R82) -/

theorem mem_foldl_insertBy {α : Type} (before : α → α → Bool) (l : List α) : ∀ (t : List α) (x : α),
    x ∈ l.foldl (fun t a => insertBy before a t) t ↔ x ∈ t ∨ x ∈ l := by
  induction l with
  | nil => simp
  | cons a l ih =>
    intro t x
    rw [List.foldl_cons, ih, mem_insertBy, List.mem_cons]
    tauto

theorem pairwise_foldl_insertBy {α : Type} (before : α → α → Bool) (key : α → Nat)
    (h : ∀ a b, before a b = decide (key a < key b)) (l : List α) : ∀ t : List α,
      t.Pairwise (fun a b => key a ≤ key b) →
      (l.foldl (fun t a => insertBy before a t) t).Pairwise fun a b => key a ≤ key b := by
  induction l with
  | nil => exact fun _ ht => ht
  | cons a l ih =>
    intro t ht
    refine ih _ (pairwise_insertBy before (fun a b => key a ≤ key b) a t (fun _ _ _ => Nat.le_trans) (fun x _ hx => ?_)
      (fun x _ hx => ?_) ht)
    · rw [h, decide_eq_true_eq] at hx
      exact Nat.le_of_lt hx
    · rw [h, decide_eq_false_iff_not] at hx
      exact Nat.not_lt.1 hx

theorem mem_sessionsOf {table : List Entry} {g : Segs} {it : SessionItem} : it ∈ sessionsOf table g ↔
    ∃ e ∈ table, isActive e = true ∧ segsMeet (entrySegs e) g = true ∧ it = ⟨e.fix.ref, entrySegs e, 0⟩ := by
  have listed (e : Entry) : e ∈ ((candidatesOf table g).filter isActive).foldl
      (fun l e => insertBy (fun (a b : Entry) => a.fix.first < b.fix.first) e l) [] ↔
      e ∈ table ∧ isActive e = true ∧ segsMeet (entrySegs e) g = true := by
    rw [mem_foldl_insertBy, candidatesOf, List.mem_filter, List.mem_filter]
    simp only [List.not_mem_nil, false_or]
    tauto
  unfold sessionsOf
  simp only [List.mem_map, listed]
  exact ⟨fun ⟨e, ⟨he, active, on⟩, eq⟩ => ⟨e, he, active, on, eq.symm⟩,
    fun ⟨e, he, active, on, eq⟩ => ⟨e, ⟨he, active, on⟩, eq.symm⟩⟩

theorem sessionsOf_sorted (table : List Entry) (g : Segs) :
    ((sessionsOf table g).map (·.segs.first)).Pairwise (· ≤ ·) := by
  unfold sessionsOf
  rw [List.map_map, List.pairwise_map]
  exact pairwise_foldl_insertBy _ (fun e : Entry => e.fix.first) (fun _ _ => rfl) _ [] List.Pairwise.nil

/-! ### Shares formed anew (R83, R84) -/

/-- An item of a list as a reshare leaves it. -/
def State.sharedItem (s : State) (touched : Entry → Bool) (sets : List Segs) (g : Segs) (it : SessionItem) : SessionItem :=
  (s.entry? it.ref).elim it fun e => if touched e = true then { it with share := shareOf s.comm sets e g } else it

def State.shared (s : State) (touched : Entry → Bool) (sets : List Segs) (r : GroupRec) : GroupRec := { r with
  sessions := r.sessions.map (s.sharedItem touched sets r.segs)
  people := ((r.sessions.map (s.sharedItem touched sets r.segs)).map (·.share)).sum }

theorem State.reshare_eq (s : State) (touched : Entry → Bool) (groups : List GroupRec) :
    s.reshare touched groups = groups.map (s.shared touched (groups.map (·.segs))) := by
  refine List.map_congr_left fun r _ => ?_
  refine congrArg (fun l : List SessionItem => ({ r with sessions := l, people := (l.map (·.share)).sum } : GroupRec)) ?_
  refine List.map_congr_left fun it _ => ?_
  unfold State.sharedItem
  cases s.entry? it.ref <;> rfl

theorem State.sharedItem_place (s : State) (touched : Entry → Bool) (sets : List Segs) (g : Segs) (it : SessionItem) :
    (s.sharedItem touched sets g it).ref = it.ref ∧ (s.sharedItem touched sets g it).segs = it.segs := by
  unfold State.sharedItem
  cases s.entry? it.ref with
  | none => exact ⟨rfl, rfl⟩
  | some e =>
    show (if _ then _ else _ : SessionItem).ref = _ ∧ (if _ then _ else _ : SessionItem).segs = _
    split <;> exact ⟨rfl, rfl⟩

theorem State.sharedItem_some {s : State} {touched : Entry → Bool} {it : SessionItem} {e : Entry}
    (h : s.entry? it.ref = some e) (ht : touched e = true) (sets : List Segs) (g : Segs) :
    s.sharedItem touched sets g it = { it with share := shareOf s.comm sets e g } := by
  rw [State.sharedItem, h]
  exact if_pos ht

/-- What of a record a reshare leaves alone. -/
def listOf (r : GroupRec) : Segs × Option Nat × Level × List (Nat × Segs) :=
  (r.segs, r.governing, r.level, r.sessions.map fun it => (it.ref, it.segs))

theorem State.shared_list (s : State) (touched : Entry → Bool) (sets : List Segs) (r : GroupRec) :
    listOf (s.shared touched sets r) = listOf r := by
  have items : (r.sessions.map (s.sharedItem touched sets r.segs)).map (fun it => (it.ref, it.segs)) =
      r.sessions.map fun it => (it.ref, it.segs) := by
    rw [List.map_map]
    refine List.map_congr_left fun it _ => ?_
    obtain ⟨ref, segs⟩ := s.sharedItem_place touched sets r.segs it
    exact Prod.ext ref segs
  exact congrArg (fun l => (r.segs, r.governing, r.level, l)) items

/-- The share of an item whose entry is touched. -/
theorem State.shared_share {s : State} {touched : Entry → Bool} {sets : List Segs} {r : GroupRec} {it : SessionItem}
    (h : it ∈ (s.shared touched sets r).sessions) {e : Entry} (he : s.entry? it.ref = some e) (ht : touched e = true) :
    it.share = shareOf s.comm sets e r.segs := by
  obtain ⟨x, -, rfl⟩ := List.mem_map.1 h
  rw [(s.sharedItem_place touched sets r.segs x).1] at he
  rw [State.sharedItem_some he ht]

/-! ### The resolution (R78, R79) -/

/-- A record with its standing and its list as the table gives them. -/
def resolvedRec (table : List Entry) (r : GroupRec) : GroupRec := { r with
  governing := (governingOf table r.segs).map (·.fix.ref)
  level := levelOf (governingOf table r.segs)
  sessions := sessionsOf table r.segs }

/-- The entries that a resolution touches. -/
def touchedBy (hit : Segs → Bool) (sets : List Segs) (e : Entry) : Bool :=
  sets.any fun g => hit g && segsMeet g (entrySegs e)

/-- A record as a resolution of the groups hit leaves it. -/
def State.relisted (s : State) (hit : Segs → Bool) (sets : List Segs) (r : GroupRec) : GroupRec :=
  s.shared (touchedBy hit sets) sets (if hit r.segs = true then resolvedRec s.bt.table r else r)

theorem State.resolveGroups_eq (s : State) (hit : Segs → Bool) (groups : List GroupRec) :
    s.resolveGroups hit groups = groups.map (s.relisted hit (groups.map (·.segs))) := by
  have segs : (groups.map fun r => if hit r.segs = true then resolvedRec s.bt.table r else r).map (·.segs) =
      groups.map (·.segs) := by
    rw [List.map_map]
    refine List.map_congr_left fun r _ => ?_
    rw [Function.comp_apply]
    split <;> rfl
  have touched : (fun e => groups.any fun g => hit g.segs && segsMeet g.segs (entrySegs e)) =
      touchedBy hit (groups.map (·.segs)) := by
    funext e
    rw [touchedBy, List.any_map]
    rfl
  unfold State.resolveGroups
  rw [touched, State.reshare_eq]
  refine Eq.trans (congrArg (fun sets => (groups.map fun r => if hit r.segs = true then resolvedRec s.bt.table r
    else r).map (s.shared (touchedBy hit (groups.map (·.segs))) sets)) segs) ?_
  rw [List.map_map]
  rfl

theorem State.relisted_segs (s : State) (hit : Segs → Bool) (sets : List Segs) (r : GroupRec) :
    (s.relisted hit sets r).segs = r.segs := by
  unfold State.relisted
  split <;> rfl

theorem State.relisted_people (s : State) (hit : Segs → Bool) (sets : List Segs) (r : GroupRec) :
    (s.relisted hit sets r).people = ((s.relisted hit sets r).sessions.map (·.share)).sum := rfl

theorem State.relisted_passed {s : State} {hit : Segs → Bool} {r : GroupRec} (h : hit r.segs = false) (sets : List Segs) :
    listOf (s.relisted hit sets r) = listOf r := by
  rw [State.relisted, State.shared_list, if_neg (by rw [h]; exact Bool.false_ne_true)]

theorem State.relisted_standing {s : State} {hit : Segs → Bool} {r : GroupRec} (h : hit r.segs = true) (sets : List Segs) :
    (s.relisted hit sets r).governing = (governingOf s.bt.table r.segs).map (·.fix.ref) ∧
      (s.relisted hit sets r).level = levelOf (governingOf s.bt.table r.segs) := by
  rw [State.relisted, if_pos h]
  exact ⟨rfl, rfl⟩

theorem State.relisted_sorted {s : State} {hit : Segs → Bool} {r : GroupRec} (h : hit r.segs = true) (sets : List Segs) :
    ((s.relisted hit sets r).sessions.map (·.segs.first)).Pairwise (· ≤ ·) := by
  rw [State.relisted, if_pos h]
  show ((List.map _ (sessionsOf s.bt.table r.segs)).map _).Pairwise _
  rw [List.map_map]
  refine Eq.mpr (congrArg (List.Pairwise _) (List.map_congr_left fun it _ => ?_)) (sessionsOf_sorted s.bt.table r.segs)
  exact congrArg Segs.first (s.sharedItem_place (touchedBy hit sets) sets r.segs it).2

/-- The list of a resolved record: every active entry on the group with its share, in ascending first segment. -/
theorem State.relisted_lists {s : State} (hu : s.UniqueRefs) {hit : Segs → Bool} {sets : List Segs} {r : GroupRec}
    (h : hit r.segs = true) (hr : r.segs ∈ sets) : s.ListsSessions sets (s.relisted hit sets r) := by
  have item {e : Entry} (he : e ∈ s.bt.table) (on : segsMeet (entrySegs e) r.segs = true) :
      s.sharedItem (touchedBy hit sets) sets r.segs ⟨e.fix.ref, entrySegs e, 0⟩ =
        ⟨e.fix.ref, entrySegs e, shareOf s.comm sets e r.segs⟩ := by
    have touched : touchedBy hit sets e = true :=
      List.any_eq_true.2 ⟨r.segs, hr, by rw [h, segsMeet_comm, on]; rfl⟩
    exact State.sharedItem_some (State.entry?_of_mem hu he) touched sets r.segs
  refine ⟨?_, State.relisted_sorted h sets⟩
  rw [State.relisted, if_pos h]
  refine fun it => ⟨fun hit' => ?_, fun ⟨e, he, active, on, eq⟩ => ?_⟩
  · obtain ⟨x, hx, rfl⟩ := List.mem_map.1 hit'
    obtain ⟨e, he, active, on, rfl⟩ := mem_sessionsOf.1 hx
    exact ⟨e, he, active, on, item he on⟩
  · exact List.mem_map.2 ⟨_, mem_sessionsOf.2 ⟨e, he, active, on, rfl⟩, (item he on).trans eq.symm⟩

end Sys2Proof.Machine

/-! Partition readings and the regroup: a reading accepted, the records formed anew, BT's answers and the compare
of the layouts as sweeps of the table (R72 to R77, R85). -/

namespace Sys2Proof.Machine

/-! ### A reading accepted (R73, R74) -/

theorem Three.set_set {α : Type} (v : Three α) (p : Part) (a b : α) : (v.set p a).set p b = v.set p b := by
  match p with
  | 0 => rfl
  | 1 => rfl
  | 2 => rfl

/-- A partition as the reading r, accepted, leaves it, the fault report included. -/
def Partition.accepts (was : Partition) (r : Reading) : Partition := { was with
  accepted := r
  pending := none
  settle := none
  between := if r = .between then some 2400 else none
  reported := if r = .closed ∨ r = .opened then false else if r = .fault then true else was.reported }

/-- The notice of a reading accepted. -/
def faultAccepted (p : Part) (was : Partition) (r : Reading) : List Notice :=
  if r = .fault ∧ was.reported = false then [.partitionFault p .fault] else []

theorem State.reportFault_eq (s : State) (p : Part) : s.reportFault p = { s with
    lm := { s.lm with parts := s.lm.parts.set p { s.lm.parts.get p with reported := true } }
    nq := if (s.lm.parts.get p).reported = false
      then (s.notify (.partitionFault p (s.lm.parts.get p).accepted)).nq else s.nq } := by
  unfold State.reportFault
  by_cases told : (s.lm.parts.get p).reported = true
  · have same : ({ s.lm.parts.get p with reported := true } : Partition) = s.lm.parts.get p := by rw [← told]
    simp only [told, if_true, Bool.true_eq_false, if_false]
    rw [same, Three.set_get]
  · rw [Bool.not_eq_true] at told
    simp only [told, if_true, if_neg Bool.false_ne_true]
    rfl

theorem State.accepted_eq (s : State) (p : Part) (r : Reading) :
    (s.setPart p (acceptReading (s.lm.parts.get p) r)).faultCheck p = { s with
      lm := { s.lm with parts := s.lm.parts.set p ((s.lm.parts.get p).accepts r) }
      nq := (s.notifyAll (faultAccepted p (s.lm.parts.get p) r)).nq } := by
  generalize hw : s.lm.parts.get p = was
  have got (x : Partition) : (s.setPart p x).lm.parts.get p = x := Three.get_set_same _ _ _
  cases r with
  | fault =>
    have check : (s.setPart p (acceptReading was .fault)).faultCheck p =
        (s.setPart p (acceptReading was .fault)).reportFault p := by
      unfold State.faultCheck
      rw [got]
      rfl
    rw [check, State.reportFault_eq, got]
    cases told : was.reported with
    | true => simp [State.setPart, Three.set_set, acceptReading, Partition.accepts, faultAccepted, told, State.notifyAll]
    | false =>
      simp only [State.setPart, Three.set_set, acceptReading, Partition.accepts, faultAccepted, told, and_self, if_true]
      rfl
  | closed => unfold State.faultCheck; rw [got]; rfl
  | opened => unfold State.faultCheck; rw [got]; rfl
  | between => unfold State.faultCheck; rw [got]; rfl

/-! ### The records of a regroup (R77) -/

/-- No record stands of the set. -/
def State.isFresh (s : State) (g : Segs) : Bool := !(s.lm.groups.any fun r => r.segs == g)

/-- The record that stands of the set, else a new one. -/
def State.recordOf (s : State) (g : Segs) : GroupRec :=
  (s.lm.groups.find? fun r => r.segs == g).getD (GroupRec.initial g)

/-- LM's records as a regroup leaves them. -/
def State.regrouped (s : State) : List GroupRec := s.resolveGroups s.isFresh (s.formGroups.map s.recordOf)

theorem find?_isNone {α : Type} (p : α → Bool) (l : List α) : (l.find? p).isNone = !l.any p := by
  induction l with
  | nil => rfl
  | cons a l ih =>
    rw [List.find?_cons, List.any_cons]
    cases p a with
    | true => rfl
    | false => exact ih

theorem State.recordOf_segs (s : State) (g : Segs) : (s.recordOf g).segs = g := by
  unfold State.recordOf
  cases h : s.lm.groups.find? fun r => r.segs == g with
  | none => rfl
  | some r => exact beq_iff_eq.1 (List.find?_some h :)

theorem State.regrouped_eq (s : State) :
    s.regrouped = s.formGroups.map fun g => s.relisted s.isFresh s.formGroups (s.recordOf g) := by
  have segs : (s.formGroups.map s.recordOf).map (·.segs) = s.formGroups := by
    rw [List.map_map]
    exact (List.map_congr_left fun g _ => s.recordOf_segs g).trans (List.map_id _)
  unfold State.regrouped
  rw [State.resolveGroups_eq, segs, List.map_map]
  rfl

theorem State.mem_regrouped {s : State} {r : GroupRec} (h : r ∈ s.regrouped) :
    r.segs ∈ s.formGroups ∧ r = s.relisted s.isFresh s.formGroups (s.recordOf r.segs) := by
  rw [State.regrouped_eq] at h
  obtain ⟨g, hg, rfl⟩ := List.mem_map.1 h
  rw [State.relisted_segs, State.recordOf_segs]
  exact ⟨hg, rfl⟩

/-- A set of which a record stood keeps its governing entry, its level and its list. -/
theorem State.regrouped_kept {s : State} {r x : GroupRec} (h : r ∈ s.regrouped)
    (was : (s.lm.groups.find? fun x => x.segs == r.segs) = some x) : listOf r = listOf x := by
  obtain ⟨-, eq⟩ := State.mem_regrouped h
  have stood : s.isFresh (s.recordOf r.segs).segs = false := by
    rw [State.recordOf_segs, State.isFresh, ← find?_isNone, was]
    rfl
  rw [eq, State.relisted_passed stood]
  exact congrArg listOf ((congrArg (Option.getD · _) was :))

/-- A set of which none stood is resolved. -/
theorem State.regrouped_formed {s : State} (hu : s.UniqueRefs) {r : GroupRec} (h : r ∈ s.regrouped)
    (was : s.isFresh r.segs = true) : r.governing = (governingOf s.bt.table r.segs).map (·.fix.ref) ∧
      r.level = levelOf (governingOf s.bt.table r.segs) ∧ s.ListsSessions s.formGroups r := by
  obtain ⟨mem, eq⟩ := State.mem_regrouped h
  have segs := s.recordOf_segs r.segs
  have standing := State.relisted_standing (s := s) (r := s.recordOf r.segs) (by rw [segs]; exact was) s.formGroups
  have lists := State.relisted_lists hu (r := s.recordOf r.segs) (by rw [segs]; exact was) (by rw [segs]; exact mem)
  rw [← eq, segs] at standing
  rw [← eq] at lists
  exact ⟨standing.1, standing.2, lists⟩

/-- The people figure is the sum of the shares, and an entry on a formed group has its shares formed anew. -/
theorem State.regrouped_people {s : State} {r : GroupRec} (h : r ∈ s.regrouped) :
    r.people = (r.sessions.map (·.share)).sum ∧
    ∀ it ∈ r.sessions, ∀ e, s.entry? it.ref = some e →
      (s.regrouped.filter fun r => s.isFresh r.segs).any (fun x => segsMeet x.segs (entrySegs e)) = true →
      it.share = shareOf s.comm s.formGroups e r.segs := by
  obtain ⟨-, eq⟩ := State.mem_regrouped h
  refine ⟨by rw [eq]; exact State.relisted_people .., fun it hit e he formed => ?_⟩
  have touched : touchedBy s.isFresh s.formGroups e = true := by
    obtain ⟨x, hx, on⟩ := List.any_eq_true.1 formed
    obtain ⟨hx, fresh⟩ := List.mem_filter.1 hx
    exact List.any_eq_true.2 ⟨x.segs, (State.mem_regrouped hx).1, Bool.and_eq_true_iff.2 ⟨fresh, on⟩⟩
  rw [eq] at hit
  have share := State.shared_share hit he touched
  rwa [show (if s.isFresh (s.recordOf r.segs).segs = true then resolvedRec s.bt.table (s.recordOf r.segs)
    else s.recordOf r.segs).segs = r.segs by split <;> exact s.recordOf_segs _] at share

/-! ### BT's answers (R35, R36) -/

/-- A treatment of the entries listed, given as they stood, is a treatment of the table. -/
theorem State.foldl_forEntries {P : State → Prop} {f : Entry → State → State} {p : Entry → Bool} {k : Entry → Turn}
    (hP : ∀ u e, P u → P (u.turn e (k e)))
    (hf : ∀ u e, P u → u.UniqueRefs → e ∈ u.bt.table → f e u = if p e = true then u.turn e (k e) else u)
    (hk : ∀ e, (k e).Of e) : ∀ (l : List Entry) (s : State), P s → s.UniqueRefs → (∀ e ∈ l, e ∈ s.bt.table) →
      (l.map (·.fix.ref)).Nodup → l.foldl (fun u e => f e u) s = s.forEntries (l.map (·.fix.ref)) f
  | [], _, _, _, _, _ => rfl
  | e :: l, s, hs, hu, hmem, hn => by
    obtain ⟨fresh, hn⟩ := List.nodup_cons.1 hn
    have he := hmem e List.mem_cons_self
    have first : s.forEntries ((e :: l).map (·.fix.ref)) f = (f e s).forEntries (l.map (·.fix.ref)) f := by
      unfold State.forEntries
      rw [List.map_cons, List.foldl_cons, State.entry?_of_mem hu he]
    rw [first, List.foldl_cons]
    refine State.foldl_forEntries hP hf hk l _ ?_ ?_ (fun y hy => ?_) hn
    · rw [hf s e hs hu he]
      split
      · exact hP s e hs
      · exact hs
    · rw [hf s e hs hu he]
      split
      · exact State.turn_unique hu (hk e)
      · exact hu
    · rw [hf s e hs hu he]
      split
      · exact State.mem_turn_of_other _ (hmem y (List.mem_cons_of_mem _ hy)) fun h =>
          fresh (List.mem_map.2 ⟨y, hy, h⟩)
      · exact hmem y (List.mem_cons_of_mem _ hy)

/-- LM noted that the entry governs the group of its first segment. -/
def State.governed (s : State) (e : Entry) : Bool := s.lm.governsFirst.contains e.fix.ref

/-- The entry becomes READY as it comes to govern. -/
def State.gains (s : State) (e : Entry) : Bool :=
  e.vol.state == .preparing && governsHome s.lm.groups e && !s.governed e &&
    (s.loop? (s.homeGroup e.fix)).any (·.settled)

/-- The entry returns to PREPARING as it ceases to govern. -/
def State.losesHome (s : State) (e : Entry) : Bool :=
  e.vol.state == .ready && !governsHome s.lm.groups e && s.governed e

/-- BT's answer to the governing report, if any, of an entry in the state s. -/
def State.answered (s : State) (e : Entry) (u : State) : State :=
  if (isPrepared e && governsHome s.lm.groups e && !s.governed e) = true then u.takeCame e.fix.ref
  else if (isPrepared e && !governsHome s.lm.groups e && s.governed e) = true then u.takeCeased e.fix.ref
  else u

theorem State.settleGoverns_eq (s : State) :
    s.settleGoverns = s.bt.table.foldl (fun u e => s.answered e u) s.noteGoverns := by
  have answers (l : List Entry) : ∀ u : State, ((l.filter isPrepared).filterMap fun e =>
      if (governsHome s.lm.groups e && !s.governed e) = true then some (Instr.cameToGovern e.fix.ref)
      else if (!governsHome s.lm.groups e && s.governed e) = true then some (Instr.ceasedToGovern e.fix.ref)
      else none).foldl State.answerGoverns u = l.foldl (fun u e => s.answered e u) u := by
    induction l with
    | nil => exact fun _ => rfl
    | cons e l ih =>
      intro u
      rw [List.foldl_cons, ← ih]
      unfold State.answered
      cases hp : isPrepared e with
      | false => rw [List.filter_cons_of_neg (by rw [hp]; exact Bool.false_ne_true)]; rfl
      | true =>
        rw [List.filter_cons_of_pos hp, List.filterMap_cons]
        cases governsHome s.lm.groups e <;> cases s.governed e <;> rfl
  exact answers s.bt.table _

theorem State.takeCame_ground (s : State) (ref : Nat) : s.Ground (s.takeCame ref) := by
  unfold State.takeCame
  cases s.entry? ref with
  | none => exact .refl s
  | some e =>
    show s.Ground (if _ then _ else _)
    split
    · exact State.makeReady_ground s e
    · exact .refl s

theorem State.takeCeased_ground (s : State) (ref : Nat) : s.Ground (s.takeCeased ref) := by
  unfold State.takeCeased
  cases s.entry? ref with
  | none => exact .refl s
  | some e =>
    show s.Ground (if _ then _ else _)
    split
    · exact rfl
    · exact .refl s

theorem State.settleGoverns_ground (s : State) : s.noteGoverns.Ground s.settleGoverns := by
  rw [State.settleGoverns_eq]
  refine State.Ground.foldl (fun u e => ?_) _ _
  unfold State.answered
  split
  · exact u.takeCame_ground _
  · split
    · exact u.takeCeased_ground _
    · exact .refl u

/-- The turn of an entry that BT answers for. -/
def State.answerTurn (s : State) (e : Entry) : Turn :=
  ⟨some { e with vol := { e.vol with state := if s.gains e then .ready else .preparing } },
    fun r => if s.gains e = true then s.ratesAfter r e else r,
    [if s.gains e then s.readyNotice e else .notReady e.fix.ref .notGoverning],
    [.entryStateChange e.fix.ref (entrySegs e) false]⟩

theorem State.answered_turn {s u : State} (h : s.noteGoverns.Ground u) (hu : u.UniqueRefs) {e : Entry}
    (he : e ∈ u.bt.table) :
    s.answered e u = if (s.gains e || s.losesHome e) = true then u.turn e (s.answerTurn e) else u := by
  have found := State.entry?_of_mem hu he
  have settled : (u.loop? (u.homeGroup e.fix)).any (·.settled) = (s.loop? (s.homeGroup e.fix)).any (·.settled) := by
    rw [h]; rfl
  have notice : u.readyNotice e = s.readyNotice e := h.readyNotice e
  have rates : (fun r => u.ratesAfter r e) = fun r => s.ratesAfter r e := funext fun r => h.ratesAfter r e
  unfold State.answered
  cases now : governsHome s.lm.groups e with
  | true =>
    cases before : s.governed e with
    | true => simp [State.gains, State.losesHome, now, before]
    | false =>
      by_cases ready : s.gains e = true
      · have preparing : e.vol.state = .preparing ∧ (s.loop? (s.homeGroup e.fix)).any (·.settled) = true := by
          simpa [State.gains, now, before] using ready
        rw [if_pos (by rw [isPrepared_iff.2 (.inl preparing.1)]; rfl), ready, Bool.true_or, if_pos rfl,
          State.takeCame_some found preparing.1 (settled.trans preparing.2), State.makeReady_turn hu he, notice, rates]
        unfold State.answerTurn
        simp only [ready, if_true]
      · have none : s.losesHome e = false := by simp [State.losesHome, now]
        have same : u.takeCame e.fix.ref = u := State.takeCame_none fun x hx prep => by
          obtain rfl : e = x := Option.some.inj (found.symm.trans hx)
          rw [settled]
          simpa [State.gains, now, before, prep] using ready
        rw [Bool.eq_false_iff.2 ready, none]
        simp [same]
  | false =>
    have no : s.gains e = false := by simp [State.gains, now]
    cases before : s.governed e with
    | false => simp [no, State.losesHome, before]
    | true =>
      by_cases ready : e.vol.state = .ready
      · have loses : s.losesHome e = true := by simp [State.losesHome, now, before, ready]
        rw [if_neg (by simp), if_pos (by rw [isPrepared_iff.2 (.inr ready)]; rfl), loses, Bool.or_true, if_pos rfl,
          State.takeCeased_some found ready, State.loseReady_turn hu he]
        unfold State.answerTurn Turn.becomes
        simp only [no, Bool.false_eq_true, if_false]
        rfl
      · have same : u.takeCeased e.fix.ref = u := State.takeCeased_none fun x hx => by
          obtain rfl : e = x := Option.some.inj (found.symm.trans hx)
          exact ready
        have none : s.losesHome e = false := by simp [State.losesHome, ready]
        simp [no, none, same]

theorem State.settleGoverns_swept {s : State} (hu : s.UniqueRefs) :
    s.settleGoverns = s.noteGoverns.sweptWhere (fun e => s.gains e || s.losesHome e) s.answerTurn := by
  have turns : ∀ u e, s.noteGoverns.Ground u → u.UniqueRefs → e ∈ u.bt.table →
      s.answered e u = if (s.gains e || s.losesHome e) = true then u.turn e (s.answerTurn e) else u :=
    fun _ _ h uniq he => State.answered_turn h uniq he
  have stays : ∀ e, (s.answerTurn e).Of e := fun e x hx => by cases hx; rfl
  rw [State.settleGoverns_eq, State.foldl_forEntries (s := s.noteGoverns) (P := s.noteGoverns.Ground)
    (fun u e h => h.turn e _) turns stays s.bt.table (.refl _) hu (fun _ h => h) hu]
  exact State.forEntries_sweptWhere (s := s.noteGoverns) (P := s.noteGoverns.Ground) (.refl _) hu
    (fun u e h => h.turn e _) turns stays

/-! ### The compare (R85) -/

/-- The group that holds the first segment of an active entry. -/
def State.foundLayout (s : State) (e : Entry) : Option Segs :=
  if isActive e then (s.groupOf? e.fix.first).map (·.segs) else none

/-- The layout last seen, once the group found has been compared. -/
def layoutSeen (found : Option Segs) (e : Entry) : Option Segs :=
  found.elim e.vol.lastLayout fun g => if g = entrySegs e then none else some g

/-- The group found is news: not the entry's own segments, and not the layout last seen. -/
def layoutNews (found : Option Segs) (e : Entry) : Bool :=
  found.any fun g => g != entrySegs e && e.vol.lastLayout != some g

/-- The turn of an entry compared. -/
def State.layoutTurn (s : State) (e : Entry) : Turn :=
  .becomes e { e.vol with lastLayout := layoutSeen (s.foundLayout e) e }
    (if layoutNews (s.foundLayout e) e = true
      then [.layoutMismatch e.fix.ref (entrySegs e) ((s.foundLayout e).getD (entrySegs e))] else []) []

theorem State.compareLayout_ground (e : Entry) (s : State) : s.Ground (s.compareLayout e) := by
  unfold State.compareLayout
  split
  · cases s.groupOf? e.fix.first with
    | none => exact .refl s
    | some g =>
      show s.Ground (if _ then _ else _)
      split
      · exact rfl
      · split
        · exact .refl s
        · exact rfl
  · exact .refl s

theorem State.compareLayout_turn {s : State} (hu : s.UniqueRefs) {e : Entry} (he : e ∈ s.bt.table) :
    s.compareLayout e = s.turn e (s.layoutTurn e) := by
  have still {v : Volatile} (h : v = e.vol) : s.turn e (.becomes e v [] []) = s := by
    rw [h]
    exact State.turn_still hu he
  unfold State.compareLayout State.layoutTurn State.foundLayout
  cases active : isActive e with
  | false => exact (still rfl).symm
  | true =>
    cases s.groupOf? e.fix.first with
    | none => exact (still rfl).symm
    | some g =>
      by_cases own : g.segs = entrySegs e
      · simp only [if_true, Option.map_some, layoutSeen, layoutNews, Option.elim_some, Option.any_some, own, bne_self_eq_false,
          Bool.false_and, if_neg Bool.false_ne_true]
        exact State.mapVolatile_turn hu he _
      · by_cases seen : e.vol.lastLayout = some g.segs
        · simp only [if_true, Option.map_some, layoutSeen, layoutNews, Option.elim_some, Option.any_some, own, if_false, seen,
            bne_self_eq_false, Bool.and_false, if_neg Bool.false_ne_true]
          exact (still (by rw [← seen])).symm
        · simp only [if_true, Option.map_some, layoutSeen, layoutNews, Option.elim_some, Option.any_some, own, if_false, seen,
            bne_iff_ne.2 own, bne_iff_ne.2 seen, Bool.and_true, Option.getD_some]
          unfold State.turn Turn.becomes
          rw [← fated_mapVolatile hu he (fun v => { v with lastLayout := some g.segs })]
          unfold State.moved
          rw [List.append_nil]
          rfl

/-- Every entry compared, in table order. -/
theorem State.compareAll_eq {s : State} (hu : s.UniqueRefs) : s.forEntries s.refs State.compareLayout = { s with
    bt := { s.bt with table := s.bt.table.map fun e => { e with vol := { e.vol with
      lastLayout := layoutSeen (s.foundLayout e) e } } }
    nq := (s.notifyAll ((s.bt.table.filter fun e => layoutNews (s.foundLayout e) e).map fun e =>
      .layoutMismatch e.fix.ref (entrySegs e) ((s.foundLayout e).getD (entrySegs e)))).nq } := by
  have sweep := State.forEntries_treated (P := s.Ground) (f := State.compareLayout) (k := s.layoutTurn) (.refl s) hu
    (fun u e h _ _ => h.turn e _) (fun u e h uniq he => by
      have found : u.foundLayout e = s.foundLayout e := by rw [h]; rfl
      rw [State.compareLayout_turn uniq he, State.layoutTurn, State.layoutTurn, found])
    (fun e x hx => by cases hx; rfl) fun _ => rfl
  have table : (s.bt.table.filterMap fun y => (s.layoutTurn y).fate) = s.bt.table.map fun e =>
      { e with vol := { e.vol with lastLayout := layoutSeen (s.foundLayout e) e } } :=
    congrFun List.filterMap_eq_map _
  have notices : (s.bt.table.flatMap fun e => (s.layoutTurn e).notices) =
      (s.bt.table.filter fun e => layoutNews (s.foundLayout e) e).map fun e =>
        .layoutMismatch e.fix.ref (entrySegs e) ((s.foundLayout e).getD (entrySegs e)) :=
    (flatMap_if _ _ _).trans List.map_eq_flatMap.symm
  have reports : (s.bt.table.flatMap fun e => (s.layoutTurn e).reports) = [] := List.flatMap_eq_nil_iff.2 fun _ _ => rfl
  rw [sweep, table, notices, reports]
  unfold State.treated State.moved
  rw [List.length_map, decide_eq_false (lt_irrefl _), List.append_nil]
  rfl

/-! ### The regroup -/

/-- LM's records formed anew and the report sent to the five receivers. -/
def State.reformed (s : State) : State :=
  (s.setGroups s.regrouped).raiseAll (regroupReports ((s.lm.groups.map (·.segs)).filter fun g => !s.formGroups.contains g)
    (s.regrouped.filter fun r => s.isFresh r.segs))

theorem State.regroup_eq (s : State) :
    s.regroup = s.reformed.settleGoverns.forEntries s.reformed.settleGoverns.refs State.compareLayout := rfl

theorem State.regroup_ground (s : State) : s.reformed.noteGoverns.Ground s.regroup := by
  rw [State.regroup_eq]
  refine (State.settleGoverns_ground _).trans ?_
  exact State.forEntries_keeps (State.Ground _) _ (fun e u h => h.trans (u.compareLayout_ground e)) _ _ (.refl _)

/-- The entries that BT answers for. -/
def State.answers (s : State) (e : Entry) : Bool := s.gains e || s.losesHome e

/-- An entry's state once BT has answered. -/
def State.answeredState (s : State) (e : Entry) : EntryState :=
  if s.gains e then .ready else if s.losesHome e then .preparing else e.vol.state

theorem isActive_prepared {e : Entry} {x : EntryState} (h : isPrepared e = true) (hx : x = .preparing ∨ x = .ready) :
    isActive { e with vol := { e.vol with state := x } } = isActive e := by
  have idle : isActive e = false := by
    rcases isPrepared_iff.1 h with h | h <;> rw [isActive, h] <;> rfl
  rw [idle]
  rcases hx with rfl | rfl <;> rfl

theorem State.answers_prepared {s : State} {e : Entry} (h : s.answers e = true) : isPrepared e = true := by
  rcases Bool.or_eq_true_iff.1 h with h | h
  · simp only [State.gains, Bool.and_eq_true, beq_iff_eq] at h
    exact isPrepared_iff.2 (.inl h.1.1.1)
  · simp only [State.losesHome, Bool.and_eq_true, beq_iff_eq] at h
    exact isPrepared_iff.2 (.inr h.1.1)

/-- An entry once BT has answered. -/
def State.answeredEntry (s : State) (e : Entry) : Entry := { e with vol := { e.vol with state := s.answeredState e } }

theorem State.answeredEntry_eq (s : State) (e : Entry) : (if s.answers e = true then
    { e with vol := { e.vol with state := if s.gains e then .ready else .preparing } } else e) = s.answeredEntry e := by
  unfold State.answers State.answeredEntry State.answeredState
  cases s.gains e <;> cases s.losesHome e <;> rfl

theorem State.answeredEntry_active (s : State) (e : Entry) : isActive (s.answeredEntry e) = isActive e := by
  rw [← State.answeredEntry_eq]
  split
  · next h =>
    refine isActive_prepared (State.answers_prepared h) ?_
    split
    · exact .inr rfl
    · exact .inl rfl
  · rfl

/-- The table, notices, rates and reports that BT's answers make. -/
theorem State.settleGoverns_eqs {s : State} (hu : s.UniqueRefs) : s.settleGoverns = { s.noteGoverns with
    bt := { s.bt with
      table := s.bt.table.map s.answeredEntry
      rates := (s.bt.table.filter s.gains).foldl s.ratesAfter s.bt.rates }
    nq := (s.notifyAll ((s.bt.table.filter s.answers).map fun e =>
      if s.gains e then s.readyNotice e else .notReady e.fix.ref .notGoverning)).nq
    reports := s.reports ++ (s.bt.table.filter s.answers).map fun e => .entryStateChange e.fix.ref (entrySegs e) false } := by
  have rates : (s.bt.table.filter s.answers).foldl (fun r e => if s.gains e = true then s.ratesAfter r e else r) s.bt.rates =
      (s.bt.table.filter s.gains).foldl s.ratesAfter s.bt.rates := by
    rw [foldl_if, List.filter_filter]
    refine congrArg (fun l : List Entry => l.foldl s.ratesAfter s.bt.rates) (List.filter_congr fun e _ => ?_)
    unfold State.answers
    cases s.gains e <;> rfl
  have queue := State.notifyAll_nq (s := s) (u := s.noteGoverns) rfl rfl ((s.bt.table.filter s.answers).map fun e =>
    if s.gains e then s.readyNotice e else .notReady e.fix.ref .notGoverning)
  refine (State.settleGoverns_swept hu).trans ((State.sweptWhere_stays _ _ (fun e => { e.vol with
    state := if s.gains e then .ready else .preparing }) (fun e r => if s.gains e = true then s.ratesAfter r e else r)
    (fun e => if s.gains e then s.readyNotice e else .notReady e.fix.ref .notGoverning)
    fun e => .entryStateChange e.fix.ref (entrySegs e) false).trans ?_)
  rw [← queue, ← rates, ← List.map_congr_left fun e _ => s.answeredEntry_eq e]
  rfl

theorem State.foundLayout_answered (s w : State) (e : Entry) : s.foundLayout (w.answeredEntry e) = s.foundLayout e := by
  unfold State.foundLayout
  rw [State.answeredEntry_active]
  rfl

/-- The regroup as sweeps of the table. -/
theorem State.regroup_swept {s : State} (hu : s.UniqueRefs) : ∀ w, s.reformed = w → s.regroup = { w with
    lm := { w.lm with governsFirst := (s.bt.table.filter fun e => isPrepared e && governsHome w.lm.groups e).map (·.fix.ref) }
    bt := { w.bt with
      table := w.bt.table.map fun e => { e with vol := { e.vol with
        state := w.answeredState e
        lastLayout := layoutSeen (w.foundLayout e) e } }
      rates := (w.bt.table.filter w.gains).foldl w.ratesAfter w.bt.rates }
    nq := (w.notifyAll (((w.bt.table.filter w.answers).map fun e =>
        if w.gains e then w.readyNotice e else .notReady e.fix.ref .notGoverning) ++
      (w.bt.table.filter fun e => layoutNews (w.foundLayout e) e).map fun e =>
        .layoutMismatch e.fix.ref (entrySegs e) ((w.foundLayout e).getD (entrySegs e)))).nq
    reports := w.reports ++ (w.bt.table.filter w.answers).map fun e => .entryStateChange e.fix.ref (entrySegs e) false } := by
  rintro w rfl
  generalize hw : s.reformed = w
  have uniq : w.UniqueRefs := by rw [← hw]; exact hu
  rw [State.regroup_eq, hw]
  have answered := State.settleGoverns_eqs uniq
  generalize w.settleGoverns = x at answered
  have table : x.bt.table = w.bt.table.map w.answeredEntry := by rw [answered]
  have distinct : x.UniqueRefs := by
    unfold State.UniqueRefs
    rw [table, List.map_map]
    exact uniq
  have found (e : Entry) : x.foundLayout (w.answeredEntry e) = w.foundLayout e := by
    rw [State.foundLayout_answered, answered]
    rfl
  have seen : (x.bt.table.map fun e => ({ e with vol := { e.vol with lastLayout := layoutSeen (x.foundLayout e) e } } : Entry)) =
      w.bt.table.map fun e => { e with vol := { e.vol with
        state := w.answeredState e
        lastLayout := layoutSeen (w.foundLayout e) e } } := by
    rw [table, List.map_map]
    exact List.map_congr_left fun e _ => by rw [Function.comp_apply, found]; rfl
  have news : ((x.bt.table.filter fun e => layoutNews (x.foundLayout e) e).map fun e =>
        Notice.layoutMismatch e.fix.ref (entrySegs e) ((x.foundLayout e).getD (entrySegs e))) =
      (w.bt.table.filter fun e => layoutNews (w.foundLayout e) e).map fun e =>
        .layoutMismatch e.fix.ref (entrySegs e) ((w.foundLayout e).getD (entrySegs e)) := by
    rw [table, List.filter_map, List.map_map,
      List.filter_congr (q := fun e => layoutNews (w.foundLayout e) e) fun e _ => by rw [Function.comp_apply, found]; rfl]
    exact List.map_congr_left fun e _ => by rw [Function.comp_apply, found]; rfl
  have queue := State.notifyAll_after (s := w) (u := x) (by rw [answered]) (by rw [answered]; rfl)
    ((w.bt.table.filter fun e => layoutNews (w.foundLayout e) e).map fun e =>
      .layoutMismatch e.fix.ref (entrySegs e) ((w.foundLayout e).getD (entrySegs e)))
  rw [State.compareAll_eq distinct, seen, news, queue, answered, ← hw]
  unfold State.noteGoverns
  simp only [List.filter_filter, Bool.and_comm]
  rfl

end Sys2Proof.Machine

/-! The partitions' obligation: contacts, the settling of a reading, the regroup that follows it, and the between
timer (R72 to R77). -/

namespace Sys2Proof.Machine

/-- What the regroup made of the state v makes of the state s before the event. -/
theorem regrouped_of {s v : State} {c : Instr} {first : List Notice} {parts : Three Partition} (hu : s.UniqueRefs)
    (hv : v = { s.take c with lm := { s.lm with parts := parts }, nq := (s.notifyAll first).nq }) :
    Regrouped s v.regroup c first := by
  have uniq : v.UniqueRefs := by rw [hv]; exact hu
  have old : v.lm.groups = s.lm.groups := by rw [hv]
  have bt : v.bt = s.bt := by rw [hv]; rfl
  have comm : v.comm = s.comm := by rw [hv]; rfl
  have entry (ref : Nat) : v.entry? ref = s.entry? ref := by rw [hv]; rfl
  have fresh (g : Segs) : v.isFresh g = (s.lm.groups.find? fun x => x.segs == g).isNone := by
    rw [find?_isNone, ← old]
    rfl
  have after := State.regroup_swept uniq v.reformed rfl
  have groups : v.regroup.lm.groups = v.regrouped := by rw [after]; rfl
  have same : v.regroup.lm.groups = v.reformed.lm.groups := groups
  have home (f : Fixed) : v.regroup.homeGroup f = v.reformed.homeGroup f := by
    unfold State.homeGroup State.groupOf?
    rw [same]
  have sets : v.regroup.formGroups = v.formGroups := State.formGroups_congr (by rw [after]; rfl) (by rw [after]; rfl)
  unfold Regrouped
  intro sets' was gone formed now before settled gains loses found differs answered
  have formed_eq : formed = v.regrouped.filter fun r => v.isFresh r.segs := by
    unfold formed was
    rw [groups]
    exact List.filter_congr fun r _ => (fresh r.segs).symm
  have gains_eq : v.reformed.gains = gains := by
    funext e
    unfold gains now before settled
    rw [home, same, hv]
    rfl
  have loses_eq : v.reformed.losesHome = loses := by
    funext e
    unfold loses now before
    rw [same, hv]
    rfl
  have found_eq : v.reformed.foundLayout = found := by
    funext e
    unfold found State.groupOf?
    rw [same]
    rfl
  have answers_eq : v.reformed.answers = fun e => gains e || loses e := by
    unfold State.answers
    rw [gains_eq, loses_eq]
  have notice_eq : v.reformed.readyNotice = v.regroup.readyNotice := by
    funext e
    unfold State.readyNotice State.updatesRates
    rw [home, after]
    rfl
  have rates_eq : v.reformed.ratesAfter = v.regroup.ratesAfter := by
    funext r e
    unfold State.ratesAfter State.updatesRates
    rw [home, after]
    rfl
  have table : v.reformed.bt = s.bt := bt
  refine ⟨fun r hr x hx => ?_, fun r hr => ?_, fun r hr => ?_, ?_, ?_, ?_, ?_, ?_⟩
  · rw [groups] at hr
    have kept := State.regrouped_kept hr (by rw [old]; exact hx)
    simp only [listOf, Prod.mk.injEq] at kept
    exact ⟨kept.2.1, kept.2.2.1, kept.2.2.2⟩
  · rw [formed_eq] at hr
    obtain ⟨hr, new⟩ := List.mem_filter.1 hr
    have made := State.regrouped_formed uniq hr new
    unfold State.ListsSessions at made ⊢
    rw [bt, comm, ← sets] at made
    exact made
  · rw [groups] at hr
    obtain ⟨people, shares⟩ := State.regrouped_people hr
    refine ⟨people, fun it hit e he touched => ?_⟩
    rw [formed_eq] at touched
    have share := shares it hit e (by rw [entry]; exact he) touched
    rw [comm, ← sets] at share
    exact share
  · have noted := congrArg (fun u : State => u.lm.governsFirst) after
    rw [bt, ← same] at noted
    exact noted
  · have base : v.reformed.reports = s.reports.erase c ++ ([Block.si, .ot, .al, .lbu, .ad].map fun b => .regroupReport b gone formed) := by
      rw [formed_eq]
      unfold gone sets'
      rw [sets, ← old, hv]
      rfl
    have told := congrArg (fun u : State => u.reports) after
    rw [table, answers_eq] at told
    refine told.trans ?_
    rw [base]
  · have kept := congrArg (fun u : State => u.bt) after
    rw [kept, table, gains_eq, rates_eq]
    refine congrArg (fun l : List Entry => ({ s.bt with table := l, rates := _ } : Bt)) (List.map_congr_left fun e _ => ?_)
    unfold State.answeredState
    rw [gains_eq, loses_eq, found_eq]
    cases found e <;> rfl
  · have queue := congrArg (fun u : State => u.nq) after
    refine queue.trans ?_
    rw [table, answers_eq, gains_eq, notice_eq, found_eq]
    refine (State.notifyAll_after (s := s) (u := v.reformed) (ns := first) (by rw [hv]; rfl) (by rw [hv]; rfl) _).trans ?_
    rw [List.append_assoc]
    rfl
  · have ground := v.regroup_ground
    generalize v.regroup = u at ground ⊢
    unfold State.Ground at ground
    rw [ground, hv]
    rfl

/-- What an accepted reading makes of the part. -/
theorem State.accept_eq (s : State) (p : Part) (r : Reading) : ∀ v : State, v = { s with
      lm := { s.lm with parts := s.lm.parts.set p ((s.lm.parts.get p).accepts r) }
      nq := (s.notifyAll (faultAccepted p (s.lm.parts.get p) r)).nq } →
    s.accept p r = if ((s.lm.parts.get p).accepted = .opened ↔ r = .opened) then v else v.regroup := by
  rintro v rfl
  have moved : (((s.lm.parts.get p).accepted == .opened) != (r == .opened)) = true ↔
      ¬ ((s.lm.parts.get p).accepted = .opened ↔ r = .opened) := by
    rw [bne_iff_ne, ne_eq, Bool.eq_iff_iff, beq_iff_eq, beq_iff_eq]
  unfold State.accept
  simp only [State.accepted_eq, moved, ite_not]

/-- Settles O45: the contacts and the between timer on one partition's record, the settling as a reading accepted,
with the regroup where OPEN comes or goes. -/
theorem partitionReadingsSettleAndAreAccepted : Obligations.PartitionReadingsSettleAndAreAccepted := by
  refine ⟨rfl, rfl, rfl, rfl, fun s p ha ho => ?_⟩
  intro was
  refine ⟨fun a b => ?_, fun idle => ?_, fun r pending => ?_, fun stopped => ?_, fun running => ?_⟩
  · intro noted judged
    have got : ((s.setContacts p a b).take (.partitionContactChange p a b)).lm.parts.get p = noted := Three.get_set_same _ _ _
    refine State.event_makes (s := s.setContacts p a b) ha ho ?_ rfl rfl
    have conf : ((s.setContacts p a b).take (.partitionContactChange p a b)).partConfigured p = s.partConfigured p := rfl
    rw [got, conf]
    by_cases configured : s.partConfigured p = true
    · have taken : takeReading noted (readingOf a b) = judged := by
        unfold judged takeReading
        rw [if_neg (show ¬ s.partConfigured p = false by rw [configured]; exact Bool.noConfusion)]
        exact if_congr Iff.rfl rfl rfl
      rw [if_pos configured, taken]
      simp only [State.setPart, State.setContacts, State.take, Three.set_set]
    · rw [if_neg configured]
      unfold judged
      rw [if_pos (Bool.eq_false_iff.2 configured)]
      rfl
  · refine State.event_makes ha ho ?_ rfl rfl
    show (match was.pending with | some r => _ | none => _ : State) = _
    rw [idle]
  · have act := State.accept_eq (s.take (.settleTimerExpiry p)) p r _ rfl
    have queue : ((s.take (.settleTimerExpiry p)).notifyAll (faultAccepted p was r)).nq = (s.notifyAll (faultAccepted p was r)).nq :=
      State.notifyAll_nq (s := s) (u := s.take _) rfl rfl _
    rw [show (s.take (.settleTimerExpiry p)).lm.parts.get p = was from rfl, queue] at act
    generalize hv : ({ s.take (.settleTimerExpiry p) with
      lm := { s.lm with parts := s.lm.parts.set p (was.accepts r) }
      nq := (s.notifyAll (faultAccepted p was r)).nq } : State) = v
    replace act := act.trans (congrArg (fun v : State => if (was.accepted = .opened ↔ r = .opened) then v else v.regroup) hv)
    have makes (t : State) (ht : (s.take (.settleTimerExpiry p)).accept p r = t) (hos : t.os = s.os)
        (hd : t.drive.os = s.drive.os) : exec (.settleTimerExpiry p) s = .next t := by
      refine State.event_makes ha ho ?_ hos hd
      show (match (s.lm.parts.get p).pending with | some r => _ | none => _ : State) = _
      rw [show (s.lm.parts.get p).pending = some r from pending]
      exact ht
    by_cases still : was.accepted = .opened ↔ r = .opened
    · refine ⟨v, makes v (act.trans (if_pos still)) (by rw [← hv]; rfl) (by rw [← hv]; rfl), by rw [← hv]; rfl, fun _ => ?_,
        fun moves => absurd still moves, by rw [← hv]; rfl, by rw [← hv]; rfl, by rw [← hv]; rfl, by rw [← hv]; rfl, by rw [← hv]; rfl⟩
      rw [← hv]
      unfold faultAccepted
      split <;> rfl
    · have frame : v.regroup = { s.take (.settleTimerExpiry p) with
          lm := { v.lm with groups := v.regroup.lm.groups, governsFirst := v.regroup.lm.governsFirst }
          bt := v.regroup.bt
          nq := v.regroup.nq
          reports := v.regroup.reports } := by
        have ground := v.regroup_ground
        generalize v.regroup = u at ground ⊢
        unfold State.Ground at ground
        rw [ground, ← hv]
        rfl
      generalize hu : v.regroup = u at frame
      have act' := act.trans (if_neg still)
      rw [hu] at act'
      refine ⟨u, makes u act' (by rw [frame]; rfl) (by rw [frame]; rfl), by rw [frame, ← hv]; rfl, fun stays => absurd stays still,
        fun _ => ⟨?_, fun uniq => ?_⟩, by rw [frame]; rfl, by rw [frame]; rfl, by rw [frame]; rfl, by rw [frame]; rfl, by rw [frame]; rfl⟩
      · rw [← hu]
        exact v.regroup_formed
      · rw [← hu]
        exact regrouped_of uniq hv.symm
  · refine State.event_makes ha ho (if_neg ?_) rfl rfl
    show ¬ was.between.isSome = true
    rw [stopped]
    exact Bool.false_ne_true
  · refine State.event_makes ha ho ((if_pos running).trans ((State.reportFault_eq _ p).trans ?_)) rfl rfl
    simp only [State.setPart, State.take, Three.get_set_same, Three.set_set]
    rfl

end Sys2Proof.Machine

/-! LM's reports at OT: the covered items of several sets, OT's settling among the reports that wait (R98, R102). -/

namespace Sys2Proof.Machine

/-! ### Covered items (R98) -/

/-- A segment's record with its covered item as LM's lists have it, where the test names the segment. -/
def State.coverWhere (s : State) (hit : Seg → Bool) (i : Seg) (o : Occ) : Occ :=
  if hit i = true then { o with covered := s.listed i } else o

/-- OT's segments with the covered items of some of them formed anew. -/
def State.covering (s : State) (hit : Seg → Bool) : State :=
  { s with ot := { s.ot with segs := s.ot.segs.mapIdx (s.coverWhere hit) } }

theorem State.otCover_eq (s : State) (g : Segs) : s.otCover g = s.covering fun i => segHas g i := rfl

theorem Four.mapIdx_mapIdx {α : Type} (f h : Seg → α → α) (v : Four α) :
    (v.mapIdx f).mapIdx h = v.mapIdx fun i a => h i (f i a) := rfl

theorem Four.mapIdx_self {α : Type} {f : Seg → α → α} (hf : ∀ i a, f i a = a) (v : Four α) : v.mapIdx f = v := by
  unfold Four.mapIdx
  simp only [hf]

theorem State.covering_none (s : State) {hit : Seg → Bool} (h : ∀ i, hit i = false) : s.covering hit = s := by
  unfold State.covering
  rw [Four.mapIdx_self fun i o => by rw [State.coverWhere, h, if_neg Bool.false_ne_true]]

theorem State.coverAll_eq {β : Type} (segs : β → Segs) (l : List β) : ∀ s : State,
    l.foldl (fun s b => s.otCover (segs b)) s = s.covering fun i => l.any fun b => segHas (segs b) i := by
  induction l with
  | nil => exact fun s => (s.covering_none fun _ => rfl).symm
  | cons b l ih =>
    intro s
    have item (i : Seg) (o : Occ) : s.coverWhere (fun i => l.any fun b => segHas (segs b) i) i
        (s.coverWhere (fun i => segHas (segs b) i) i o) =
          s.coverWhere (fun i => (b :: l).any fun b => segHas (segs b) i) i o := by
      by_cases first : segHas (segs b) i = true
      · simp only [State.coverWhere, List.any_cons, first, Bool.true_or, if_true]
        split <;> rfl
      · simp only [State.coverWhere, List.any_cons, Bool.eq_false_iff.2 first, Bool.false_or, if_neg Bool.false_ne_true]
    rw [List.foldl_cons, ih, State.otCover_eq]
    show ({ s with ot := { s.ot with segs := (s.ot.segs.mapIdx _).mapIdx (s.coverWhere _) } } : State) = _
    rw [Four.mapIdx_mapIdx]
    simp only [item]
    rfl

theorem State.covering_get (s : State) (hit : Seg → Bool) (i : Seg) :
    (s.covering hit).ot.segs.get i = { s.ot.segs.get i with
      covered := if hit i = true then s.listed i else (s.ot.segs.get i).covered } := by
  refine (Four.get_mapIdx _ _ _).trans ?_
  unfold State.coverWhere
  split <;> rfl

/-! ### The settling among the reports (R102) -/

/-- Reports that are to be taken first join ahead of some of those that wait. -/
theorem State.raiseEarly_parts (s : State) (cs : List Instr) : ∃ ahead behind,
    ahead ++ behind = s.reports ∧ s.raiseEarly cs = { s with reports := ahead ++ cs ++ behind } :=
  ⟨_, _, List.take_append_drop _ _, rfl⟩

theorem mem_occupancyReports {c : Instr} {g : OtGroup} (h : c ∈ occupancyReports g) :
    ∃ b h o w, c = .occupancyReport b h o w := by
  rcases List.mem_cons.1 h with rfl | h
  · exact ⟨_, _, _, _, rfl⟩
  · exact ⟨_, _, _, _, List.mem_singleton.1 h⟩

theorem mem_flatMap_occupancyReports {β : Type} {c : Instr} {l : List β} {f : β → OtGroup}
    (h : c ∈ l.flatMap fun b => occupancyReports (f b)) : ∃ b h o w, c = .occupancyReport b h o w := by
  obtain ⟨b, -, hb⟩ := List.mem_flatMap.1 h
  exact mem_occupancyReports hb

theorem State.otSettle_parts (s : State) : ∃ ahead behind early late, ahead ++ behind = s.reports ∧
    s.otSettle = { s with
      ot := { s.ot with groups := s.ot.groups.map s.otGroupNow }
      reports := ahead ++ early ++ behind ++ late } ∧
    ∀ c ∈ early ++ late, ∃ b h o w, c = .occupancyReport b h o w := by
  let pairs := s.ot.groups.zip (s.ot.groups.map s.otGroupNow)
  let created := pairs.filter fun p => p.1.walkIn.isNone && p.2.walkIn.isSome
  let others := pairs.filter fun p => !(p.1.walkIn.isNone && p.2.walkIn.isSome) &&
    (p.1.occupied != p.2.occupied || p.1.walkIn.isSome != p.2.walkIn.isSome)
  obtain ⟨ahead, behind, whole, eq⟩ := State.raiseEarly_parts
    { s with ot := { s.ot with groups := s.ot.groups.map s.otGroupNow } } (created.flatMap fun p => occupancyReports p.2)
  refine ⟨ahead, behind, created.flatMap fun p => occupancyReports p.2, others.flatMap fun p => occupancyReports p.2,
    whole, ?_, fun c hc => ?_⟩
  · show State.raiseAll (State.raiseEarly _ _) _ = _
    rw [eq]
    rfl
  · rcases List.mem_append.1 hc with h | h <;> exact mem_flatMap_occupancyReports h

/-- OT settled stays so while its segments stand and reports are added. -/
theorem OccupancySettled.mono {s t u : State} (h : OccupancySettled s t) (ot : u.ot = t.ot)
    (reports : ∀ c ∈ t.reports, c ∈ u.reports) : OccupancySettled s u := by
  obtain ⟨derived, told⟩ := h
  have occupied (g : Segs) : u.groupOccupied g = t.groupOccupied g := by
    unfold State.groupOccupied State.segOccupied
    rw [ot]
  unfold OccupancySettled
  rw [ot]
  exact ⟨fun r hr => by rw [occupied]; exact derived r hr, fun p hp changed b hb => reports _ (told p hp changed b hb)⟩

/-- OT settled from groups that differ in what the settling does not compare. -/
theorem OccupancySettled.of_map {s s' t : State} {f : OtGroup → OtGroup} (groups : s'.ot.groups = s.ot.groups.map f)
    (same : ∀ r, (f r).occupied = r.occupied ∧ (f r).walkIn = r.walkIn) (h : OccupancySettled s' t) :
    OccupancySettled s t := by
  obtain ⟨derived, told⟩ := h
  refine ⟨derived, fun p hp changed b hb => ?_⟩
  obtain ⟨occupied, walkIn⟩ := same p.1
  refine told (f p.1, p.2) ?_ (by rw [occupied, walkIn]; exact changed) b hb
  rw [groups, List.zip_map_left]
  exact List.mem_map.2 ⟨p, hp, rfl⟩

/-- LM's governing change at OT. -/
theorem State.otGoverning_settled (s : State) (g : Segs) (level : Level) : ∃ t, s.otGoverning g level = t ∧
    t = { s with ot := t.ot, reports := t.reports } ∧
    t.ot.groups.map (fun (r : OtGroup) => (r.segs, r.level)) =
      s.ot.groups.map (fun (r : OtGroup) => (r.segs, if r.segs = g then level else r.level)) ∧
    (∀ i, t.ot.segs.get i = { s.ot.segs.get i with
      covered := if segHas g i = true then s.listed i else (s.ot.segs.get i).covered }) ∧
    OccupancySettled s t := by
  let levelled (r : OtGroup) : OtGroup := if r.segs == g then { r with level := level } else r
  let v : State := { s with ot := { s.ot with groups := s.ot.groups.map levelled } }
  let u : State := v.otCover g
  have same (r : OtGroup) : (levelled r).occupied = r.occupied ∧ (levelled r).walkIn = r.walkIn := by
    show (if _ then _ else _ : OtGroup).occupied = _ ∧ (if _ then _ else _ : OtGroup).walkIn = _
    split <;> exact ⟨rfl, rfl⟩
  refine ⟨u.otSettle, rfl, rfl, ?_, v.covering_get _, .of_map rfl same (State.otSettle_settled (s := v) (u := u) rfl)⟩
  refine (State.otSettle_names (s := v) (u := u) rfl).trans ?_
  show (s.ot.groups.map levelled).map _ = _
  rw [List.map_map]
  refine List.map_congr_left fun r _ => ?_
  by_cases h : r.segs = g
  · simp [levelled, h]
  · simp [levelled, h]

end Sys2Proof.Machine

/-! Entry changes at LM and the standings that follow at OT, AL and LBU (R80 to R85, R98, R110, R152). -/

namespace Sys2Proof.Machine

/-! ### LM (R80, R82) -/

/-- LM's records with the groups on the set resolved. -/
def State.groupsOn (s : State) (g : Segs) : List GroupRec := s.resolveGroups (fun x => segsMeet x g) s.lm.groups

/-- A record's list alone has changed. -/
def listAlone (p : GroupRec × GroupRec) : Bool := p.1.governing == p.2.governing &&
  p.1.level == p.2.level && p.1.sessions.map (·.ref) != p.2.sessions.map (·.ref)

/-- The governing reports of records that have changed. -/
def standingReports (pairs : List (GroupRec × GroupRec)) : List Instr :=
  (pairs.filter fun p => p.1.governing != p.2.governing || p.1.level != p.2.level).flatMap fun p => governingReports p.2

/-- LM's records and OT's segments after an entry change. -/
def State.entryCovered (s : State) (g : Segs) : State :=
  ((s.setGroups (s.groupsOn g)).raiseAll (standingReports (s.lm.groups.zip (s.groupsOn g)))).covering
    fun i => (s.lm.groups.zip (s.groupsOn g)).any fun p => listAlone p && segHas p.2.segs i

/-- LM, OT and the reports after an entry change. -/
def State.entryNoted (s : State) (g : Segs) : State :=
  (if (s.lm.groups.zip (s.groupsOn g)).any listAlone = true then (s.entryCovered g).otSettle
    else s.entryCovered g).reportGoverns

/-- The layout of the entry named compared. -/
def State.compared (s : State) (ref : Nat) : State :=
  match s.entry? ref with
  | some e => s.compareLayout e
  | none => s

theorem State.compared_some {s : State} {ref : Nat} {e : Entry} (h : s.entry? ref = some e) :
    s.compared ref = s.compareLayout e := by
  unfold State.compared
  rw [h]

theorem State.compared_ground (s : State) (ref : Nat) : s.Ground (s.compared ref) := by
  unfold State.compared
  cases s.entry? ref with
  | none => exact .refl s
  | some e => exact State.compareLayout_ground e s

theorem State.lmEntryChange_eq (s : State) (ref : Nat) (g : Segs) (began : Bool) : s.lmEntryChange ref g began =
    if began = true then (s.entryNoted g).compared ref else s.entryNoted g := by
  let pairs := s.lm.groups.zip (s.groupsOn g)
  have covered : (pairs.filter listAlone).foldl (fun s (p : GroupRec × GroupRec) => s.otCover p.2.segs)
      ((s.setGroups (s.groupsOn g)).raiseAll (standingReports pairs)) = s.entryCovered g := by
    rw [State.coverAll_eq]
    unfold State.entryCovered
    refine congrArg (State.covering _) (funext fun i => ?_)
    rw [List.any_filter]
  have noted : (if (pairs.filter listAlone).isEmpty then s.entryCovered g else (s.entryCovered g).otSettle).reportGoverns =
      s.entryNoted g := by
    unfold State.entryNoted
    cases h : pairs.any listAlone with
    | true =>
      have some : (pairs.filter listAlone).isEmpty = false := by
        obtain ⟨p, hp, hit⟩ := List.any_eq_true.1 h
        exact List.isEmpty_eq_false_iff_exists_mem.2 ⟨p, List.mem_filter.2 ⟨hp, hit⟩⟩
      rw [some, if_neg Bool.false_ne_true, if_pos rfl]
    | false =>
      have none : (pairs.filter listAlone).isEmpty = true := by
        rw [List.isEmpty_iff, List.filter_eq_nil_iff]
        exact List.any_eq_false.1 h
      rw [none, if_pos rfl, if_neg Bool.false_ne_true]
  rw [← noted, ← covered]
  unfold State.lmEntryChange
  exact if_congr Iff.rfl rfl rfl

theorem State.groupsOn_eq (s : State) (g : Segs) : s.groupsOn g =
    s.lm.groups.map (s.relisted (fun x => segsMeet x g) (s.lm.groups.map (·.segs))) := State.resolveGroups_eq ..

theorem State.groupsOn_segs (s : State) (g : Segs) : (s.groupsOn g).map (·.segs) = s.lm.groups.map (·.segs) :=
  State.resolveGroups_segs ..

theorem State.mem_groupsOn {s : State} {g : Segs} {r : GroupRec} (h : r ∈ s.groupsOn g) : ∃ x ∈ s.lm.groups,
    x.segs = r.segs ∧ r = s.relisted (fun x => segsMeet x g) (s.lm.groups.map (·.segs)) x := by
  rw [State.groupsOn_eq] at h
  obtain ⟨x, hx, rfl⟩ := List.mem_map.1 h
  exact ⟨x, hx, (s.relisted_segs _ _ x).symm, rfl⟩

/-- A record that a resolution passes by keeps its standing and its list. -/
theorem State.groupsOn_passed (s : State) (g : Segs) :
    (s.groupsOn g).map (fun r => if segsMeet r.segs g = true then none else some (listOf r)) =
      s.lm.groups.map fun r => if segsMeet r.segs g = true then none else some (listOf r) := by
  rw [State.groupsOn_eq, List.map_map]
  refine List.map_congr_left fun r _ => ?_
  rw [Function.comp_apply, State.relisted_segs]
  by_cases h : segsMeet r.segs g = true
  · rw [if_pos h, if_pos h]
  · rw [if_neg h, if_neg h, State.relisted_passed (Bool.eq_false_iff.2 h)]

/-- A record on the set is resolved. -/
theorem State.groupsOn_resolved {s : State} {g : Segs} {r : GroupRec} (h : r ∈ s.groupsOn g)
    (on : segsMeet r.segs g = true) : r.governing = (governingOf s.bt.table r.segs).map (·.fix.ref) ∧
      r.level = levelOf (governingOf s.bt.table r.segs) ∧
      (s.UniqueRefs → s.ListsSessions (s.lm.groups.map (·.segs)) r) ∧
      (r.sessions.map (·.segs.first)).Pairwise (· ≤ ·) ∧ r.people = (r.sessions.map (·.share)).sum := by
  obtain ⟨x, hx, segs, eq⟩ := State.mem_groupsOn h
  rw [← segs] at on
  obtain ⟨governing, level⟩ := State.relisted_standing (s := s) (hit := fun x => segsMeet x g) on (s.lm.groups.map (·.segs))
  refine ⟨by rw [eq, governing, State.relisted_segs], by rw [eq, level, State.relisted_segs], fun hu => ?_, ?_, ?_⟩
  · rw [eq]
    exact State.relisted_lists hu on (List.mem_map_of_mem hx)
  · rw [eq]
    exact State.relisted_sorted on _
  · rw [eq]
    exact State.relisted_people ..

/-- The state noted, part by part. -/
theorem State.entryNoted_frame (s : State) (g : Segs) : s.entryNoted g = { s with
    lm := { s.lm with
      groups := s.groupsOn g
      governsFirst := (s.bt.table.filter fun e => isPrepared e && governsHome (s.groupsOn g) e).map (·.fix.ref) }
    ot := (s.entryNoted g).ot
    reports := (s.entryNoted g).reports } := by
  unfold State.entryNoted State.reportGoverns State.noteGoverns
  split <;> simp only [List.filter_filter, Bool.and_comm] <;> rfl

/-- Some list alone has changed. -/
def State.listsMoved (s : State) (g : Segs) : Bool := (s.lm.groups.zip (s.groupsOn g)).any listAlone

/-- BT's governing reports of an entry change. -/
def State.homeReports (s : State) (g : Segs) : List Instr :=
  (s.bt.table.filter isPrepared).filterMap fun e =>
    if governsHome (s.groupsOn g) e = true ∧ s.governed e = false then some (.cameToGovern e.fix.ref)
    else if governsHome (s.groupsOn g) e = false ∧ s.governed e = true then some (.ceasedToGovern e.fix.ref)
    else none

theorem State.governsChanges_eq {s u : State} {g : Segs} (groups : u.lm.groups = s.groupsOn g)
    (first : u.lm.governsFirst = s.lm.governsFirst) (table : u.bt.table = s.bt.table) :
    u.governsChanges = s.homeReports g := by
  unfold State.governsChanges State.homeReports State.governed
  rw [groups, first, table]
  refine List.filterMap_congr fun e _ => ?_
  cases governsHome (s.groupsOn g) e <;> cases s.lm.governsFirst.contains e.fix.ref <;> rfl

/-- The reports of an entry change: OT's, if any, among those that wait, BT's behind. -/
theorem State.entryNoted_reports (s : State) (g : Segs) : ∃ ahead behind early late,
    ahead ++ behind = s.reports ++ standingReports (s.lm.groups.zip (s.groupsOn g)) ∧
    (s.entryNoted g).reports = ahead ++ early ++ behind ++ late ++ s.homeReports g ∧
    (∀ c ∈ early ++ late, ∃ b h o w, c = .occupancyReport b h o w) ∧
    (s.listsMoved g = false → early = [] ∧ late = []) := by
  cases moved : s.listsMoved g with
  | false =>
    have noted : s.entryNoted g = (s.entryCovered g).reportGoverns :=
      congrArg State.reportGoverns (if_neg (show ¬ s.listsMoved g = true by rw [moved]; exact Bool.false_ne_true))
    refine ⟨(s.entryCovered g).reports, [], [], [], List.append_nil _, ?_, fun _ hc => (List.not_mem_nil hc).elim, fun _ => ⟨rfl, rfl⟩⟩
    rw [noted, List.append_nil, List.append_nil, List.append_nil,
      ← State.governsChanges_eq (s := s) (u := s.entryCovered g) rfl rfl rfl]
    rfl
  | true =>
    have noted : s.entryNoted g = (s.entryCovered g).otSettle.reportGoverns :=
      congrArg State.reportGoverns (if_pos moved)
    obtain ⟨ahead, behind, early, late, whole, eq, occ⟩ := (s.entryCovered g).otSettle_parts
    refine ⟨ahead, behind, early, late, whole, ?_, occ, fun h => nomatch h⟩
    rw [noted, ← State.governsChanges_eq (s := s) (u := (s.entryCovered g).otSettle) rfl rfl rfl]
    generalize (s.entryCovered g).otSettle = u at eq
    rw [eq]
    rfl

/-- OT's segments after an entry change. -/
theorem State.entryNoted_covered (s : State) (g : Segs) (i : Seg) : (s.entryNoted g).ot.segs.get i = { s.ot.segs.get i with
    covered := if (s.lm.groups.zip (s.groupsOn g)).any (fun p => listAlone p && segHas p.2.segs i) = true
      then (s.entryNoted g).listed i else (s.ot.segs.get i).covered } := by
  have segs : (s.entryNoted g).ot.segs = (s.entryCovered g).ot.segs := by
    unfold State.entryNoted
    split <;> rfl
  have listed : (s.entryNoted g).listed i = (s.setGroups (s.groupsOn g)).listed i := by
    rw [State.entryNoted_frame]
    rfl
  rw [segs, listed]
  exact State.covering_get ((s.setGroups (s.groupsOn g)).raiseAll _) _ i

theorem State.entryNoted_settled {s : State} {g : Segs} (moved : s.listsMoved g = true) :
    OccupancySettled s (s.entryNoted g) := by
  have noted : s.entryNoted g = (s.entryCovered g).otSettle.reportGoverns := congrArg State.reportGoverns (if_pos moved)
  rw [noted]
  exact (State.otSettle_settled (s := s) (u := s.entryCovered g) rfl).mono rfl fun c hc => List.mem_append_left _ hc

theorem State.entryNoted_still {s : State} {g : Segs} (moved : s.listsMoved g = false) : (s.entryNoted g).ot = s.ot := by
  have noted : s.entryNoted g = (s.entryCovered g).reportGoverns :=
    congrArg State.reportGoverns (if_neg (show ¬ s.listsMoved g = true by rw [moved]; exact Bool.false_ne_true))
  have covered : s.entryCovered g = _ := State.covering_none _ fun i => by
    rw [List.any_eq_false]
    intro p hp both
    exact List.any_eq_false.1 moved p hp (Bool.and_eq_true_iff.1 both).1
  rw [noted, covered]
  rfl

/-- The compare of an entry on a group. -/
theorem State.compareLayout_bt {s : State} (hu : s.UniqueRefs) {e : Entry} {found : Segs} (he : e ∈ s.bt.table)
    (active : isActive e = true) (home : (s.groupOf? e.fix.first).map (·.segs) = some found) : s.compareLayout e = { s with
    bt := { s.bt with table := s.bt.table.map fun (x : Entry) => if x.fix.ref == e.fix.ref then { x with vol := { x.vol with
      lastLayout := if found = entrySegs e then none else some found } } else x }
    nq := if found = entrySegs e ∨ e.vol.lastLayout = some found then s.nq
      else (s.notify (.layoutMismatch e.fix.ref (entrySegs e) found)).nq } := by
  obtain ⟨r, hr, rfl⟩ := Option.map_eq_some_iff.1 home
  unfold State.compareLayout
  rw [if_pos active, hr]
  by_cases own : r.segs = entrySegs e
  · simp only [own, if_true, true_or]
    rfl
  · by_cases seen : e.vol.lastLayout = some r.segs
    · have same : (s.bt.table.map fun (x : Entry) => if x.fix.ref == e.fix.ref then ({ x with vol := { x.vol with
          lastLayout := some r.segs } } : Entry) else x) = s.bt.table := by
        refine (List.map_congr_left fun x hx => ?_).trans (List.map_id _)
        split
        · next h =>
          rw [eq_of_ref hu hx he (beq_iff_eq.1 h), ← seen]
          rfl
        · rfl
      simp only [own, seen, if_true, if_false, or_true, same]
    · simp only [own, seen, if_false, or_self]
      rfl

/-- The governing reports as the statement lists them. -/
theorem standingReports_eq (pairs : List (GroupRec × GroupRec)) : standingReports pairs = pairs.flatMap fun p =>
    if p.1.governing = p.2.governing ∧ p.1.level = p.2.level then []
    else [Block.ot, .al, .lbu].map fun b => .governingChange b p.2.segs p.2.governing p.2.level := by
  unfold standingReports
  rw [← flatMap_if]
  refine List.flatMap_congr fun p _ => ?_
  have changed : (p.1.governing != p.2.governing || p.1.level != p.2.level) = true ↔
      ¬ (p.1.governing = p.2.governing ∧ p.1.level = p.2.level) := by
    rw [Bool.or_eq_true, bne_iff_ne, bne_iff_ne]
    tauto
  simp only [changed, ite_not]
  rfl

theorem State.compareLayout_reports (e : Entry) (s : State) : (s.compareLayout e).reports = s.reports := by
  unfold State.compareLayout
  split
  · cases s.groupOf? e.fix.first with
    | none => rfl
    | some g =>
      show (if _ then _ else _ : State).reports = _
      split
      · rfl
      · split <;> rfl
  · rfl

theorem State.compared_reports (s : State) (ref : Nat) : (s.compared ref).reports = s.reports := by
  unfold State.compared
  cases s.entry? ref with
  | none => rfl
  | some e => exact State.compareLayout_reports e s

/-- The set that holds a segment is the same after a resolution. -/
theorem State.groupsOn_home (s : State) (g : Segs) (i : Nat) :
    ((s.groupsOn g).find? fun r => segHas r.segs i).map (·.segs) = (s.groupOf? i).map (·.segs) := by
  have home (l : List GroupRec) : (l.find? fun r => segHas r.segs i).map (·.segs) =
      (l.map (·.segs)).find? fun x => segHas x i := by
    rw [List.find?_map]
    rfl
  unfold State.groupOf?
  rw [home, home, State.groupsOn_segs]

/-- A record whose standing a resolution changes is reported to OT, AL and LBU. -/
theorem State.mem_standingReports {s : State} {g : Segs} {r : GroupRec} (hr : r ∈ s.lm.groups) (on : segsMeet r.segs g = true)
    (changed : r.governing ≠ (governingOf s.bt.table r.segs).map (·.fix.ref) ∨ r.level ≠ levelOf (governingOf s.bt.table r.segs))
    {b : Block} (hb : b ∈ [Block.ot, .al, .lbu]) :
    .governingChange b r.segs ((governingOf s.bt.table r.segs).map (·.fix.ref)) (levelOf (governingOf s.bt.table r.segs)) ∈
      standingReports (s.lm.groups.zip (s.groupsOn g)) := by
  let sets := s.lm.groups.map (·.segs)
  obtain ⟨governing, level⟩ := State.relisted_standing (s := s) (hit := fun x => segsMeet x g) on sets
  have pair : (r, s.relisted (fun x => segsMeet x g) sets r) ∈ s.lm.groups.zip (s.groupsOn g) := by
    rw [State.groupsOn_eq, List.zip_map_right, List.mem_map]
    refine ⟨(r, r), ?_, rfl⟩
    rw [List.zip_eq_zipWith, List.zipWith_self]
    exact List.mem_map.2 ⟨r, hr, rfl⟩
  rw [standingReports_eq]
  refine List.mem_flatMap.2 ⟨_, pair, ?_⟩
  rw [if_neg (by rw [governing, level]; tauto), governing, level, State.relisted_segs]
  exact List.mem_map.2 ⟨b, hb, rfl⟩

end Sys2Proof.Machine

/-! The entry changes' obligation: the arrivals at LM, and LM's governing change at OT, AL and LBU. -/

namespace Sys2Proof.Machine

theorem State.evaluate_governing (s : State) (l : Loop) : (s.evaluate l).governing = l.governing := by
  unfold State.evaluate
  split
  · split <;> rfl
  · rfl

theorem State.loopFollowing_governing (s : State) (l : Loop) : (s.loopFollowing l).governing = l.governing := by
  unfold State.loopFollowing
  split
  · rfl
  · split
    · split
      · rfl
      · exact s.evaluate_governing _
    · split
      · rfl
      · split
        · exact s.evaluate_governing _
        · rfl

/-- An entry state change at LM, on its way out. -/
theorem entryStateChange_noted {s : State} (ha : s.alive = true) (ho : s.OutputsFollow) (ref : Nat) (g : Segs) (began : Bool) :
    ∃ t, exec (.entryStateChange ref g began) s = .next t ∧
      t = { (s.take (.entryStateChange ref g began)).entryNoted g with bt := t.bt, nq := t.nq } ∧
      (began = false → t.bt = s.bt ∧ t.nq = s.nq) ∧
      (s.UniqueRefs → ∀ e r, began = true → s.entry? ref = some e → isActive e = true →
        s.groupOf? e.fix.first = some r →
        t.bt = { s.bt with table := s.bt.table.map fun (x : Entry) => if x.fix.ref == ref then
          { x with vol := { x.vol with
            lastLayout := if r.segs = entrySegs e then none else some r.segs } } else x } ∧
        t.nq = (if r.segs = entrySegs e ∨ e.vol.lastLayout = some r.segs then s.nq
          else (s.notify (.layoutMismatch ref (entrySegs e) r.segs)).nq)) := by
  let v := s.take (.entryStateChange ref g began)
  have noted := v.entryNoted_frame g
  have act := v.lmEntryChange_eq ref g began
  generalize hu : v.entryNoted g = u at noted act
  have queue (n : Notice) : (u.notify n).nq = (s.notify n).nq := by rw [noted]; rfl
  have ground : u.Ground (v.lmEntryChange ref g began) := by
    rw [act]
    split
    · exact u.compared_ground ref
    · exact .refl u
  refine ⟨v.lmEntryChange ref g began, State.event_makes ha ho rfl ?_ ?_, ?_, fun fresh => ?_, fun uniq e r begun he active hr => ?_⟩
  · rw [ground, noted]
    rfl
  · rw [ground, noted]
    rfl
  · have reports : (v.lmEntryChange ref g began).reports = u.reports := by
      rw [act]
      split
      · exact u.compared_reports ref
      · rfl
    generalize v.lmEntryChange ref g began = t at ground reports ⊢
    rw [ground, reports]
  · rw [act, fresh, if_neg Bool.false_ne_true, noted]
    exact ⟨rfl, rfl⟩
  · have same : e.fix.ref = ref := (State.entry?_mem he).2
    have found : u.entry? ref = some e := by rw [noted]; exact he
    have home : (u.groupOf? e.fix.first).map (·.segs) = some r.segs := by
      rw [noted]
      exact (State.groupsOn_home v g _).trans (congrArg (Option.map (·.segs)) hr)
    have distinct : u.UniqueRefs := by rw [noted]; exact uniq
    have compare := State.compareLayout_bt distinct (State.entry?_mem found).1 active home
    rw [act, begun, if_pos rfl, State.compared_some found, compare, queue, same, noted]
    exact ⟨rfl, rfl⟩

/-- LM's governing change at LBU, on its way out. -/
theorem governingChange_lbu {s : State} (ha : s.alive = true) (g : Segs) (gov : Option Nat) (level : Level) :
    ∃ t, exec (.governingChange .lbu g gov level) s = .next t ∧
      t = { s.take (.governingChange .lbu g gov level) with lbu := t.lbu, os := t.os } ∧
      (t.lbu.groups = s.lbu.groups.map fun (r : LbuGroup) => if r.segs = g then ⟨g, gov, level⟩ else r) ∧
      let u : State := { s with lbu := { s.lbu with groups := t.lbu.groups } }
      u.LitOnlyIn t [g] ∧
      (s.lbu.groups.any (fun r => r.segs == g) = false → t.lbu = s.lbu) ∧
      ∀ r, s.lbu.groups.find? (fun r => r.segs == g) = some r →
        let new : LbuGroup := ⟨g, gov, level⟩
        let moved : Bool := s.ownerOf r != s.ownerOf new || s.shownOf r != s.shownOf new
        u.GroupLit t new moved false := by
  let c := Instr.governingChange .lbu g gov level
  let new : LbuGroup := ⟨g, gov, level⟩
  let renamed := s.lbu.groups.map fun (r : LbuGroup) => if r.segs = g then new else r
  have taken := State.event_taken ha c fun s => s.lbuGoverning g gov level
  cases held : s.lbuGroup? g with
  | none =>
    have none' : s.lbu.groups.any (fun r => r.segs == g) = false := by
      rw [List.any_eq_false]
      exact List.find?_eq_none.1 held
    have act : (s.take c).lbuGoverning g gov level = s.take c := by
      unfold State.lbuGoverning
      rw [show (s.take c).lbuGroup? g = none from held]
    have same : renamed = s.lbu.groups := by
      refine (List.map_congr_left fun r hr => if_neg fun h => ?_).trans (List.map_id _)
      exact List.any_eq_false.1 none' r hr (beq_iff_eq.2 h)
    rw [act] at taken
    exact ⟨_, congrArg Host.Outcome.next taken, rfl, same.symm, ⟨fun _ _ => rfl, rfl, State.drive_drive_os _⟩, fun _ => rfl,
      fun r hr => nomatch held.symm.trans hr⟩
  | some old =>
    let v : State := { s.take c with lbu := { s.lbu with groups := renamed } }
    let u : State := { s with lbu := { s.lbu with groups := renamed } }
    let moved : Bool := s.ownerOf old != s.ownerOf new || s.shownOf old != s.shownOf new
    have same : v.SameLights u := ⟨rfl, rfl, rfl, rfl, rfl⟩
    have any : s.lbu.groups.any (fun r => r.segs == g) = true :=
      List.any_eq_true.2 ⟨old, List.mem_of_find?_eq_some held, List.find?_some (p := fun x : LbuGroup => x.segs == g) held⟩
    have act : (s.take c).lbuGoverning g gov level = (if moved = true then v.formGroupRows new else v).resolveBlinds g := by
      unfold State.lbuGoverning
      rw [show (s.take c).lbuGroup? g = some old from held]
      have named : (s.lbu.groups.map fun r => if (r.segs == g) = true then new else r) = renamed :=
        List.map_congr_left fun r _ => by simp only [beq_iff_eq]
      let relabelled (l : List LbuGroup) : State := { s.take c with lbu := { s.lbu with groups := l } }
      exact congrArg (fun l => (if moved = true then (relabelled l).formGroupRows new else relabelled l).resolveBlinds g) named
    have lit : v.Lit ((if moved = true then v.formGroupRows new else v).resolveBlinds g)
        (litIn g fun j l => if moved = true then u.relitSeg new false j l else u.blindSet j l) := by
      cases moved with
      | true =>
        have resolved := State.resolveBlinds_lit (v.formGroupRows new) g
        rw [State.blindSet_relit (v.formGroupRows_relit new), same.blindSet.symm] at resolved
        have rows := v.formGroupRows_lit new
        rw [same.rowsSet.symm] at rows
        exact rows.both resolved
      | false =>
        have resolved := State.resolveBlinds_lit v g
        rw [same.blindSet.symm] at resolved
        exact resolved
    rw [act] at taken
    generalize (if moved = true then v.formGroupRows new else v).resolveBlinds g = t at taken lit
    obtain ⟨relit, got⟩ := lit
    have frame : t.lbu = { s.lbu with groups := renamed, segs := t.lbu.segs } := by
      rw [relit]
    have groups : t.lbu.groups = renamed := by rw [frame]
    refine ⟨_, congrArg Host.Outcome.next taken, by rw [relit]; rfl, groups, ⟨fun j out => ?_, ?_, State.drive_drive_os _⟩,
      fun no => ?_, fun r hr => ?_⟩
    · exact (got j).trans (if_neg (out g (List.mem_singleton.2 rfl)))
    · show t.lbu = { s.lbu with groups := t.lbu.groups, segs := t.lbu.segs }
      rw [groups]
      exact frame
    · rw [any] at no
      cases no
    · obtain rfl : old = r := Option.some.inj (held.symm.trans hr)
      show State.GroupLit { s with lbu := { s.lbu with groups := t.lbu.groups } } t.drive new moved false
      rw [groups]
      have inside (j : Seg) (hj : j ∈ segList g) := (got j).trans (if_pos hj)
      cases hm : moved with
      | true =>
        refine State.GroupLit.of_relit fun j hj _ => (inside j hj).trans ?_
        exact if_pos hm
      | false =>
        refine State.GroupLit.of_resolved fun j hj _ => (inside j hj).trans ?_
        exact if_neg (by rw [hm]; exact Bool.false_ne_true)

/-- Settles O49: LM's arrivals by the resolution and the reshare of its records, LM's governing change at each
receiver by that receiver's own rule. -/
theorem entryChangesReachTheStandings : Obligations.EntryChangesReachTheStandings := by
  intro s ha ho kept relisted rest
  refine ⟨fun ref g began => ?_, fun ref g => ?_, fun g gov level => ⟨?_, ?_, ?_⟩⟩
  · obtain ⟨t, taken, frame, still, compare⟩ := entryStateChange_noted ha ho ref g began
    let v := s.take (.entryStateChange ref g began)
    have noted := v.entryNoted_frame g
    have lm : t.lm = { s.lm with
        groups := s.groupsOn g
        governsFirst := (s.bt.table.filter fun e => isPrepared e && governsHome (s.groupsOn g) e).map (·.fix.ref) } := by
      rw [frame, noted]
      rfl
    have ot : t.ot = (v.entryNoted g).ot := by rw [frame]
    have reports : t.reports = (v.entryNoted g).reports := by rw [frame]
    have groups : t.lm.groups = s.groupsOn g := by rw [lm]
    have moved : ((s.lm.groups.zip t.lm.groups).any relisted) = v.listsMoved g := by rw [groups]; rfl
    refine ⟨t, taken, ?_, by rw [lm], ⟨?_, ?_⟩, fun i => ?_, fun h => ?_, fun h => ?_, still, compare, ?_, ?_, fun r hr on => ?_,
      fun r hr on => ?_⟩
    · generalize v.entryNoted g = u at noted frame
      rw [frame, noted]
    · rw [lm]
      rfl
    · obtain ⟨ahead, behind, early, late, whole, all, occ, none⟩ := v.entryNoted_reports g
      refine ⟨ahead, behind, early, late, ?_, ?_, occ, fun h => none (moved.symm.trans h)⟩
      · rw [whole, standingReports_eq, groups]
        rfl
      · rw [reports, all, lm]
        rfl
    · rw [ot, groups]
      refine (v.entryNoted_covered g i).trans ?_
      have listed : t.listed i = (v.entryNoted g).listed i := by
        unfold State.listed
        rw [groups, noted]
        rfl
      rw [listed]
      rfl
    · exact (State.entryNoted_settled (s := v) (moved.symm.trans h)).mono ot fun c hc => by rw [reports]; exact hc
    · exact ot.trans (State.entryNoted_still (s := v) (moved.symm.trans h))
    · rw [groups]
      exact s.groupsOn_segs g
    · rw [groups]
      exact s.groupsOn_passed g
    · rw [groups] at hr
      obtain ⟨governing, level, lists, sorted, people⟩ := State.groupsOn_resolved hr on
      exact ⟨governing, level, fun uniq => (lists uniq).1, sorted, people⟩
    · intro e changed dst hd
      obtain ⟨ahead, behind, early, late, whole, all, -, -⟩ := v.entryNoted_reports g
      have told := State.mem_standingReports (s := v) (g := g) hr on changed hd
      have waits := List.mem_append_right v.reports told
      rw [← whole] at waits
      rw [reports, all]
      rcases List.mem_append.1 waits with ahead | behind
      · simp only [List.mem_append]
        exact .inl (.inl (.inl (.inl ahead)))
      · simp only [List.mem_append]
        exact .inl (.inl (.inr behind))
  · let v := s.take (.headcountChange ref g)
    let touched (e : Entry) : Bool := e.fix.ref == ref
    have act : v.lmHeadcount ref = v.setGroups (s.lm.groups.map (v.shared touched (s.lm.groups.map (·.segs)))) := by
      unfold State.lmHeadcount
      rw [State.reshare_eq]
      rfl
    refine ⟨_, State.event_makes ha ho act rfl rfl, rfl, ?_, fun e he r hr it hit same => ?_, fun r hr => ?_⟩
    · show (s.lm.groups.map _).map _ = _
      rw [List.map_map]
      exact List.map_congr_left fun r _ => v.shared_list touched _ r
    · obtain ⟨x, -, rfl⟩ := List.mem_map.1 hr
      exact State.shared_share (s := v) hit (e := e) (by rw [same]; exact he) (beq_iff_eq.2 (State.entry?_mem he).2)
    · obtain ⟨x, -, rfl⟩ := List.mem_map.1 hr
      rfl
  · obtain ⟨t, act, frame, names, covered, settled⟩ := (s.take (.governingChange .ot g gov level)).otGoverning_settled g level
    exact ⟨t, State.event_makes ha ho act (by rw [frame]; rfl) (by rw [frame]; rfl), frame, names, covered, settled⟩
  · let c := Instr.governingChange .al g gov level
    let noted := s.al.loops.map fun (l : Loop) => if l.segs = g then { l with governing := gov, level := level } else l
    let u : State := { s.take c with al := { s.al with loops := noted } }
    let loops := noted.map fun l => if l.segs = g then u.loopFollowing l else l
    have act : (s.take c).alGoverning g gov level = { u with
        al := { s.al with loops := loops }
        reports := s.reports.erase c ++ loopReports noted loops } := by
      have hit : (fun l : Loop => if (l.segs == g) = true then u.loopFollowing l else l) =
          fun l => if l.segs = g then u.loopFollowing l else l := by
        funext l
        simp only [beq_iff_eq]
      have named : (s.al.loops.map fun l => if (l.segs == g) = true then { l with governing := gov, level := level } else l) =
          noted := List.map_congr_left fun l _ => by simp only [beq_iff_eq]
      show ((s.take c).setLoops (s.al.loops.map fun l => if (l.segs == g) = true then _ else l)).alReconcile _ = _
      rw [named, State.alReconcile_eq]
      exact congrArg (fun f : Loop → Loop => ({ u with
        al := { s.al with loops := noted.map f }
        reports := s.reports.erase c ++ loopReports noted (noted.map f) } : State)) hit
    refine ⟨_, congrArg Host.Outcome.next ((State.event_taken ha c _).trans (congrArg State.drive act)), rfl, rfl, rfl,
      State.drive_drive_os _, ?_, fun l hl on => ?_⟩
    · show (noted.map _).map _ = _
      rw [List.map_map, List.map_map]
      refine List.map_congr_left fun l _ => ?_
      by_cases h : l.segs = g
      · simp [h]
      · simp [h]
    · obtain ⟨x, hx, rfl⟩ := List.mem_map.1 hl
      obtain ⟨y, hy, rfl⟩ := List.mem_map.1 hx
      by_cases h : y.segs = g
      · simp only [h, if_true]
        exact ⟨u.loopFollowing_governing _, u.loopFollowing_level _⟩
      · simp only [h, if_false] at on
  · exact governingChange_lbu ha g gov level

end Sys2Proof.Machine

/-! LM's regroup and exit reports at AL and AD: the records joined, the standings inherited, the loops formed, the
air divided anew (R112, R129, R133, R143). -/

namespace Sys2Proof.Machine

theorem insertBy_perm {α : Type} (before : α → α → Bool) (a : α) : ∀ l : List α, (insertBy before a l).Perm (a :: l)
  | [] => .refl _
  | b :: l => by
    unfold insertBy
    split
    · exact .refl _
    · exact ((insertBy_perm before a l).cons b).trans (.swap a b l)

/-- Records joined one after another are those before and those joined. -/
theorem foldl_insertBy_perm {α : Type} (before : α → α → Bool) (l : List α) : ∀ t : List α,
    (l.foldl (fun t a => insertBy before a t) t).Perm (t ++ l) := by
  induction l with
  | nil => exact fun t => by rw [List.append_nil]; exact .refl t
  | cons a l ih =>
    intro t
    exact (ih _).trans (((insertBy_perm before a t).append_right l).trans List.perm_middle.symm)

/-! ### Standings (R109) -/

theorem standingOf_none {l : List OccStanding} {g : Segs} (h : ∀ o ∈ l, o.segs ≠ g) : standingOf l g = none :=
  List.find?_eq_none.2 fun o ho => by simpa using h o ho

theorem standingOf_segs {l : List OccStanding} {g : Segs} {o : OccStanding} (h : standingOf l g = some o) : o.segs = g :=
  eq_of_beq (List.find?_some (p := fun o : OccStanding => o.segs == g) h)

/-- Of standings made for several sets, each for its own, that of one of them. -/
theorem standingOf_made {make : Segs → OccStanding} (own : ∀ g, (make g).segs = g) {sets : List Segs} {g : Segs}
    (h : g ∈ sets) (more : List OccStanding) : standingOf (sets.map make ++ more) g = some (make g) := by
  induction sets with
  | nil => cases h
  | cons x sets ih =>
    by_cases same : x = g
    · rw [same]
      exact List.find?_cons_of_pos (beq_iff_eq.2 (own g))
    · have rest := ih ((List.mem_cons.1 h).resolve_left fun e => same e.symm)
      rw [← rest]
      exact List.find?_cons_of_neg fun hit => same ((own x).symm.trans (beq_iff_eq.1 hit))

/-- The standing that a group formed has, what OT has reported for the set or that of its sources. -/
theorem inheritedStanding_eq (l : List OccStanding) (gone : List Segs) (g : Segs) :
    inheritedStanding l gone g = (standingOf l g).getD
      ⟨g, (l.filter fun o => gone.contains o.segs && segsMeet o.segs g).any (·.occupied),
        (l.filter fun o => gone.contains o.segs && segsMeet o.segs g).any (·.walkIn), true⟩ := by
  unfold inheritedStanding
  cases standingOf l g <;> rfl

theorem inheritedStanding_segs (l : List OccStanding) (gone : List Segs) (g : Segs) :
    (inheritedStanding l gone g).segs = g := by
  rw [inheritedStanding_eq]
  cases h : standingOf l g with
  | none => rfl
  | some o => exact standingOf_segs h

theorem standingsAfter_formed (l : List OccStanding) (gone : List Segs) {sets : List Segs} {g : Segs} (h : g ∈ sets) :
    standingOf (standingsAfter l gone sets) g = some (inheritedStanding l gone g) :=
  standingOf_made (inheritedStanding_segs l gone) h _

theorem standingsAfter_kept (l : List OccStanding) {gone sets : List Segs} {g : Segs} (hg : g ∉ gone) (hs : g ∉ sets) :
    standingOf (standingsAfter l gone sets) g = standingOf l g := by
  have none : standingOf (sets.map (inheritedStanding l gone)) g = none := standingOf_none fun o ho => by
    obtain ⟨x, hx, rfl⟩ := List.mem_map.1 ho
    rw [inheritedStanding_segs]
    exact fun e => hs (e ▸ hx)
  unfold standingOf at none ⊢
  rw [standingsAfter, List.find?_append, none, Option.none_or, List.find?_filter]
  congr 1
  funext o
  by_cases h : o.segs = g
  · simp [h, hg, hs]
  · simp [h]

/-! ### The loops formed (R112, R129) -/

/-- The record of a group as it begins in its mode. -/
def State.begunLoop (s : State) (l : Loop) : Loop :=
  if s.inRun = true ∧ s.al.awaitsExit = false ∧ (s.setpointFor l).isSome = true
  then { l with mode := .acquire, reference := s.setpointFor l } else l

theorem State.formLoop_eq (s : State) (r : GroupRec) : s.formLoop r = s.evaluate (s.begunLoop (s.newLoop r)) := by
  have parked : (s.newLoop r).mode = .parked := rfl
  have acquired (p : Nat) : acquire (s.newLoop r) p = { s.newLoop r with mode := .acquire, reference := some p } := rfl
  unfold State.formLoop State.begunLoop
  generalize s.newLoop r = l at parked acquired
  dsimp only
  by_cases h : s.inRun = false ∨ s.al.awaitsExit = true
  · rw [State.reconcile_still h, if_neg Bool.false_ne_true, if_neg]
    rintro ⟨run, exit, -⟩
    rcases h with h | h
    · rw [h] at run
      cases run
    · rw [h] at exit
      cases exit
  · obtain ⟨run, exit⟩ : s.inRun = true ∧ s.al.awaitsExit = false := by simpa using h
    have still : (s.serves l = false ∨ s.setpointFor l = none) → s.reconcile l = (l, false) := by
      intro no
      unfold State.reconcile
      rw [run, exit, State.activeSetpoint_eq, parked]
      cases serves : s.serves l with
      | false => rfl
      | true =>
        rw [no.resolve_left (by rw [serves]; exact Bool.noConfusion)]
        rfl
    cases serves : s.serves l with
    | false =>
      have none : s.setpointFor l = none := by
        unfold State.serves at serves
        unfold State.setpointFor
        cases level : l.level with
        | none =>
          have off : s.alWalkIn l.segs = false := by rwa [level] at serves
          rw [if_pos rfl, if_neg (by rw [off]; exact Bool.false_ne_true)]
        | prepare => rw [level] at serves; cases serves
        | session => rw [level] at serves; cases serves
      rw [still (.inl serves), none, if_neg Bool.false_ne_true, if_neg fun h => Bool.false_ne_true h.2.2]
    | true =>
      cases hp : s.setpointFor l with
      | none => rw [still (.inr hp), if_neg Bool.false_ne_true, if_neg fun h => Bool.false_ne_true h.2.2]
      | some p =>
        have moves : s.reconcile l = (s.evaluate (acquire l p), true) := by
          unfold State.reconcile
          rw [run, exit, State.activeSetpoint_eq, parked, serves, hp]
          rfl
        rw [moves, if_pos rfl, if_pos ⟨run, exit, rfl⟩, acquired]

/-- LM's regroup report at AL. -/
theorem State.alRegroup_eq (s : State) (gone : List Segs) (formed : List GroupRec) : ∃ loops,
    let u : State := { s with al := { s.al with occ := standingsAfter s.al.occ gone (formed.map (·.segs)) } }
    s.alRegroup gone formed = { u with
      al := { u.al with loops := loops }
      reports := s.reports ++ ((s.al.loops.filter fun y =>
        (gone.contains y.segs || (formed.map (·.segs)).contains y.segs) && y.settled).map fun y =>
          .lostSettledReport y.segs) ++ [.demandUpdate (demandFigs loops)] } ∧
    loops.Perm ((s.al.loops.filter fun y => !gone.contains y.segs && !(formed.map (·.segs)).contains y.segs) ++
      formed.map fun r => u.evaluate (u.begunLoop (u.newLoop r))) := by
  refine ⟨_, rfl, ?_⟩
  refine (foldl_insertBy_perm _ _ _).trans ?_
  exact List.Perm.append_left _ (.of_eq (List.map_congr_left fun r _ => State.formLoop_eq _ r))

/-- A live setpoint brought within the range of its entry's stored setpoint. -/
def State.withinRange (s : State) (e : Entry) (n : Nat) : Nat :=
  let stored := e.fix.setpoint.getD (comfortOf s.comm e.fix.kind)
  max (max 160 (stored - s.suite.adjustRange)) (min (min 280 (stored + s.suite.adjustRange)) n)

/-! ### The air divided (R133, R143) -/

/-- What a recompute makes of the records that AD has formed, the record of each set before given. -/
def AirDivided (s t : State) (was : Segs → Option AdGroup) : Prop :=
  t.ad = { s.ad with groups := t.ad.groups, total := t.ad.total, targets := t.ad.targets } ∧
  (s.inRun = true →
    t.ad.total = max (t.ad.groups.map (·.qmin)).sum ((t.ad.groups.map (·.qd)).sum * s.ad.grant / 1000) ∧
    t.ad.groups.map (·.alloc) = allocations t.ad.total t.ad.groups ∧ t.TargetsFollow ∧
    (∀ y ∈ t.ad.groups, y.short = decide (y.alloc < y.qvent)) ∧
    t.nq = (s.notifyAll (t.ad.groups.flatMap fun y =>
      airNotices s.ad.grant ((was y.segs).any (·.short)) y)).nq) ∧
  (s.inRun = false → t.ad.total = (t.ad.groups.map (·.qmin)).sum ∧
    (∀ y ∈ t.ad.groups, y.alloc = y.qmin ∧ y.short = (was y.segs).any (·.short)) ∧
    (∀ i, t.ad.targets.get i = if s.configured i then (s.segRec i).airMin else 0) ∧
    t.nq = s.nq)

/-- AD's records replaced and the air divided among them. -/
theorem State.divide (s : State) (groups : List AdGroup) : ∃ t, (s.setAdGroups groups).recompute = t ∧
    t = { s with ad := t.ad, nq := t.nq } ∧ t.ad.groups.map AdGroup.demand = groups.map AdGroup.demand ∧
    ∀ was : Segs → Option AdGroup, (∀ y ∈ groups, y.short = (was y.segs).any (·.short)) → AirDivided s t was := by
  obtain ⟨frame, kept, demand, run, service⟩ := (s.setAdGroups groups).recompute_recomputed
  generalize (s.setAdGroups groups).recompute = t at frame kept demand run service
  change t.ad.groups.map AdGroup.demand = groups.map AdGroup.demand at demand
  have column {α : Type} (f : Segs × Nat × Nat × Nat × Nat → α) :
      t.ad.groups.map (fun y => f (AdGroup.demand y)) = groups.map fun y => f (AdGroup.demand y) := by
    have := congrArg (List.map f) demand
    rwa [List.map_map, List.map_map] at this
  have qd : t.ad.groups.map (·.qd) = groups.map (·.qd) := column (·.2.1)
  have qmin : t.ad.groups.map (·.qmin) = groups.map (·.qmin) := column (·.2.2.1)
  have segs : t.ad.groups.map (·.segs) = groups.map (·.segs) := column (·.1)
  have asking : t.ad.groups.map AdGroup.asking = groups.map AdGroup.asking :=
    column (fun d => (⟨⟨0, 0⟩, d.2.1, d.2.2.1, 0, 0, 0, false⟩ : AdGroup))
  refine ⟨t, rfl, frame.trans rfl, demand, fun was hw => ⟨kept, fun hr => ?_, fun hr => ?_⟩⟩
  · obtain ⟨total, allocs, targets, short, queue⟩ := run hr
    rw [qd, qmin]
    refine ⟨total, allocs.trans (allocations_congr asking.symm), targets, short, queue.trans ?_⟩
    rw [← airNotices_by_segs (was := fun g => (was g).any (·.short)) segs hw]
    exact State.notifyAll_nq (s := s) (u := s.setAdGroups groups) rfl rfl _
  · obtain ⟨total, allocs, flags, queue, targets⟩ := service hr
    rw [qmin]
    have was' : t.ad.groups.map (·.short) = t.ad.groups.map fun y => (was y.segs).any (·.short) := by
      have named : t.ad.groups.map (fun y => (was y.segs).any (·.short)) = groups.map fun y => (was y.segs).any (·.short) :=
        column fun d => (was d.1).any (·.short)
      rw [flags, named]
      exact List.map_congr_left hw
    exact ⟨total, fun y hy => ⟨allocs y hy, List.map_inj_left.1 was' y hy⟩, targets, queue⟩

end Sys2Proof.Machine

/-! LM's regroup and exit reports at OT and LBU, and the obligation of the five receivers (R96, R104, R106, R112,
R129, R133, R143, R165, R168). -/

namespace Sys2Proof.Machine

/-! ### OT (R104, R106) -/

/-- A record that OT forms, derived from the segments as they stand. -/
def State.otFormed (s : State) (r : GroupRec) (inherited : Option WalkIn) : OtGroup :=
  s.otGroupNow ⟨r.segs, r.level, false, inherited⟩

theorem State.otFormed_fields (s : State) (r : GroupRec) (inherited : Option WalkIn) :
    (s.otFormed r inherited).segs = r.segs ∧ (s.otFormed r inherited).level = r.level ∧
    (s.otFormed r inherited).occupied = s.groupOccupied r.segs ∧
    (s.otFormed r inherited).walkIn = if (s.otFormed r inherited).occupied = true ∧ r.level ≠ .session
      then some (inherited.getD (freshWalkIn s.comm)) else none := by
  refine ⟨rfl, rfl, rfl, ?_⟩
  show (if (s.groupOccupied r.segs && r.level != .session) = true then _ else _) = _
  refine if_congr ?_ rfl rfl
  rw [Bool.and_eq_true, bne_iff_ne]
  rfl

/-- OT's segments with the covered items of the formed groups anew. -/
def State.otCovered (s : State) (formed : List GroupRec) : State :=
  s.covering fun i => (formed.map (·.segs)).any fun g => segHas g i

theorem State.otCovered_eq (s : State) (formed : List GroupRec) :
    formed.foldl (fun s r => s.otCover r.segs) s = s.otCovered formed := by
  rw [State.coverAll_eq]
  unfold State.otCovered
  refine congrArg s.covering (funext fun i => ?_)
  rw [List.any_map]
  rfl

/-- OT's records replaced and those formed reported. -/
def State.otWith (s : State) (groups made : List OtGroup) : State :=
  ({ s with ot := { s.ot with groups := groups } }).raiseEarly (made.flatMap occupancyReports)

theorem State.otWith_told (s : State) (groups : List OtGroup) {made : List OtGroup} {y : OtGroup} (hy : y ∈ made) :
    ∀ b ∈ [Block.al, .lbu], .occupancyReport b y.segs y.occupied y.walkIn ∈ (s.otWith groups made).reports := by
  intro b hb
  have told : .occupancyReport b y.segs y.occupied y.walkIn ∈ occupancyReports y := by
    rcases List.mem_cons.1 hb with rfl | hb
    · exact List.mem_cons_self
    · rw [List.mem_singleton.1 hb]
      exact List.mem_cons_of_mem _ List.mem_cons_self
  exact List.mem_append_left _ (List.mem_append_right _ (List.mem_flatMap.2 ⟨y, hy, told⟩))

theorem State.otRegroup_eq (s : State) (gone : List Segs) (formed : List GroupRec) : ∃ groups,
    let made := formed.map fun r => (s.otCovered formed).otFormed r (inheritedWalkIn s.ot.groups r.segs)
    s.otRegroup gone formed = (s.otCovered formed).otWith groups made ∧
    groups.Perm ((s.ot.groups.filter fun r => !gone.contains r.segs && !(formed.any fun f => f.segs == r.segs)) ++ made) := by
  unfold State.otRegroup
  rw [State.otCovered_eq]
  exact ⟨_, rfl, foldl_insertBy_perm _ _ _⟩

theorem State.otExit_eq (s : State) (formed : List GroupRec) :
    let made := formed.map fun r => (s.otCovered formed).otFormed r none
    s.otExit formed = (s.otCovered formed).otWith made made := by
  unfold State.otExit
  rw [State.otCovered_eq]
  rfl

/-! ### LBU (R165, R168) -/

/-- Rows and blinds of several groups formed anew. -/
theorem State.relitAll_lit (s : State) (groups : List LbuGroup) :
    s.Lit (groups.foldl (fun s g => (s.formGroupRows g).resolveBlinds g.segs) s) fun j l =>
      groups.foldl (fun l g => litIn g.segs (s.relitSeg g false) j l) l :=
  State.Lit.foldl (φ := fun s (g : LbuGroup) => litIn g.segs (s.relitSeg g false))
    (fun s g => by
      have resolved := State.resolveBlinds_lit (s.formGroupRows g) g.segs
      rw [State.blindSet_relit (s.formGroupRows_relit g)] at resolved
      exact (s.formGroupRows_lit g).both resolved)
    (fun h => by
      funext g
      unfold State.relitSeg
      rw [State.rowsSet_relit h, State.blindSet_relit h]) _ s

/-- LBU's standings replaced and the groups formed lit. -/
def State.lbuWith (s : State) (groups : List LbuGroup) (occ : List OccStanding) (made : List LbuGroup) : State :=
  made.foldl (fun s g => (s.formGroupRows g).resolveBlinds g.segs)
    { s with lbu := { s.lbu with groups := groups, occ := occ } }

theorem State.lbuWith_lit (s : State) (c : Instr) {groups made : List LbuGroup} {occ : List OccStanding}
    (sub : ∀ g ∈ made, g ∈ groups) :
    let t := ((s.take c).lbuWith groups occ made).drive
    t = { s.take c with lbu := t.lbu, os := t.os } ∧ t.lbu.groups = groups ∧ t.lbu.occ = occ ∧
    let u : State := { s with lbu := { s.lbu with groups := t.lbu.groups, occ := t.lbu.occ } }
    u.LitOnlyIn t (made.map (·.segs)) ∧ ∀ r ∈ made, u.GroupLit t r true false := by
  let v : State := { s.take c with lbu := { s.lbu with groups := groups, occ := occ } }
  let u : State := { s with lbu := { s.lbu with groups := groups, occ := occ } }
  have same : v.SameLights u := ⟨rfl, rfl, rfl, rfl, rfl⟩
  have relits : State.relitSeg v = u.relitSeg := by
    funext g
    unfold State.relitSeg
    rw [← same.rowsSet, ← same.blindSet]
  have lit : v.Lit ((s.take c).lbuWith groups occ made) _ := v.relitAll_lit made
  rw [relits] at lit
  generalize (s.take c).lbuWith groups occ made = w at lit
  obtain ⟨relit, got⟩ := lit
  have hgroups : w.lbu.groups = groups := by rw [relit]
  have hocc : w.lbu.occ = occ := by rw [relit]
  intro t
  refine ⟨?_, hgroups, hocc, ?_⟩
  · show w.drive = { s.take c with lbu := w.drive.lbu, os := w.drive.os }
    rw [relit]
    rfl
  · show State.LitOnlyIn { s with lbu := { s.lbu with groups := w.lbu.groups, occ := w.lbu.occ } } t _ ∧
      ∀ r ∈ made, State.GroupLit { s with lbu := { s.lbu with groups := w.lbu.groups, occ := w.lbu.occ } } t r true false
    rw [hgroups, hocc]
    refine ⟨⟨fun j out => ?_, ?_, State.drive_drive_os _⟩, fun r hr => .of_relit fun j hj only => ?_⟩
    · exact (got j).trans (foldl_litIn_outside (fun g : LbuGroup => g.segs) (fun g => u.relitSeg g false)
        (fun b hb => out b.segs (List.mem_map.2 ⟨b, hb, rfl⟩)) _)
    · show w.lbu = { u.lbu with segs := w.lbu.segs }
      rw [relit]
    · exact (got j).trans (foldl_litIn_inside (fun g : LbuGroup => g.segs) (fun g => u.relitSeg g false)
        (fun x => u.relitSeg_again r false j x) hr hj (fun b hb hjb => by rw [only b (sub b hb) hjb]) _)

theorem State.lbuRegroup_eq (s : State) (gone : List Segs) (formed : List GroupRec) : ∃ groups occ,
    s.lbuRegroup gone formed = s.lbuWith groups occ (formed.map lbuGroupOfRec) ∧
    groups.Perm ((s.lbu.groups.filter fun g => !gone.contains g.segs && !(formed.map (·.segs)).contains g.segs) ++
      formed.map lbuGroupOfRec) :=
  ⟨_, _, rfl, foldl_insertBy_perm _ _ _⟩

theorem State.lbuExit_eq (s : State) (formed : List GroupRec) : s.lbuExit formed = s.lbuWith (formed.map lbuGroupOfRec)
    ((formed.map lbuGroupOfRec).map fun g => (standingOf s.lbu.occ g.segs).getD ⟨g.segs, false, false, true⟩)
    (formed.map lbuGroupOfRec) := rfl

/-! ### SI (R96) -/

theorem remapOn_mapped {s : State} (ha : s.alive = true) (ho : s.OutputsFollow) (c : Instr) (formed : List GroupRec) :
    ∃ t, (Host.Outcome.next (s.event c fun s => s.remapOn formed) : Host.Outcome State Fault Refusal) = .next t ∧
      t.Mapped (formed.map (·.segs)) ∧ t.reports = s.reports.erase c ++ sourceReports s t ∧
      t = { s.take c with
        si := { s.si with
          presenceSource := t.si.presenceSource, daylightSource := t.si.daylightSource }
        reports := t.reports } := by
  refine ⟨_, State.event_makes ha ho rfl rfl rfl, State.remapNamed_mapped _ _, ?_, rfl⟩
  exact State.remapNamed_reports (s.take c) _

end Sys2Proof.Machine

/-! The obligation of LM's regroup and exit reports, receiver by receiver. -/

namespace Sys2Proof.Machine

/-- A record that the report forms at AD is provisional; one that stands keeps its flag. -/
theorem State.adGroup?_stood {s : State} {y : AdGroup} (nodup : (s.ad.groups.map (·.segs)).Nodup) (hy : y ∈ s.ad.groups) :
    s.ad.groups.find? (fun x => x.segs == y.segs) = some y := by
  have found := List.find?_isSome (p := fun x : AdGroup => x.segs == y.segs).2 ⟨y, hy, beq_self_eq_true y.segs⟩
  obtain ⟨x, hx⟩ := Option.isSome_iff_exists.1 found
  rw [hx, List.inj_on_of_nodup_map nodup (List.mem_of_find?_eq_some hx) hy (beq_iff_eq.1 (List.find?_some hx :))]

theorem airDivided_drive {s u : State} {c : Instr} {was : Segs → Option AdGroup} (h : AirDivided (s.take c) u was)
    (frame : u = { s.take c with ad := u.ad, nq := u.nq }) : AirDivided s u.drive was := by
  obtain ⟨ad, nq, rfl⟩ : ∃ ad nq, u = { s.take c with ad := ad, nq := nq } := ⟨_, _, frame⟩
  obtain ⟨kept, run, service⟩ := h
  have queue (ns : List Notice) : ((s.take c).notifyAll ns).nq = (s.notifyAll ns).nq :=
    State.notifyAll_nq (s := s) (u := s.take c) rfl rfl ns
  simp only [queue] at run
  exact ⟨kept, run, service⟩

/-- LM's regroup report at AD: the records joined, and the air divided among them. -/
theorem regroupReport_ad {s : State} (ha : s.alive = true) (gone : List Segs) (formed : List GroupRec) :
    let c := Instr.regroupReport .ad gone formed
    let had (g : Segs) : Option AdGroup := s.ad.groups.find? fun y => y.segs == g
    ∃ t, exec c s = .next t ∧ t = { s.take c with ad := t.ad, nq := t.nq, os := t.os } ∧ t.os = t.drive.os ∧
      (t.ad.groups.map AdGroup.demand).Perm
        (((s.ad.groups.filter fun y => !gone.contains y.segs).map AdGroup.demand) ++
          (((formed.map (·.segs)).filter fun g => !(s.ad.groups.map (·.segs)).contains g).map fun g =>
            AdGroup.demand (s.provisional g))) ∧
      ((s.ad.groups.map (·.segs)).Nodup → AirDivided s t had) := by
  intro c had
  let kept := s.ad.groups.filter fun g => !gone.contains g.segs
  let made := (formed.filter fun r => (s.adGroup? r.segs).isNone).map fun r => s.provisional r.segs
  let groups := made.foldl (fun l g => insertBy (fun (a b : AdGroup) => segsBefore a.segs b.segs) g l) kept
  have perm : groups.Perm (kept ++ made) := foldl_insertBy_perm _ _ _
  have joined : made.map AdGroup.demand = ((formed.map (·.segs)).filter fun g =>
      !(s.ad.groups.map (·.segs)).contains g).map fun g => AdGroup.demand (s.provisional g) := by
    rw [List.filter_map, List.map_map, List.map_map]
    refine congrArg (List.map _) (List.filter_congr fun r _ => ?_)
    refine (find?_isNone _ _).trans (congrArg (!·) ?_)
    rw [Bool.eq_iff_iff, List.any_eq_true, List.contains_iff_mem, List.mem_map]
    simp only [beq_iff_eq]
  have taken := State.event_taken ha c fun s => s.adRegroup gone formed
  obtain ⟨u, act, frame, demand, divided⟩ := (s.take c).divide groups
  have driven : (s.take c).adRegroup gone formed = u := act
  rw [driven] at taken
  refine ⟨u.drive, congrArg Host.Outcome.next taken, ?_, State.drive_drive_os u, ?_, fun nodup => ?_⟩
  · show u.drive = { s.take c with ad := u.drive.ad, nq := u.drive.nq, os := u.drive.os }
    rw [frame]
    rfl
  · show (u.ad.groups.map AdGroup.demand).Perm _
    rw [demand, ← joined, ← List.map_append]
    exact perm.map _
  · refine airDivided_drive (divided had fun y hy => ?_) frame
    rcases List.mem_append.1 (perm.mem_iff.1 hy) with stood | new
    · exact congrArg (Option.any (·.short)) (State.adGroup?_stood nodup (List.mem_filter.1 stood).1).symm
    · obtain ⟨r, hr, rfl⟩ := List.mem_map.1 new
      have none := (List.mem_filter.1 hr).2
      rw [Option.isNone_iff_eq_none] at none
      exact (congrArg (Option.any (·.short)) none).symm

/-- LM's exit report at AD: the records named, and the air divided among them. -/
theorem exitReport_ad {s : State} (ha : s.alive = true) (formed : List GroupRec) :
    let c := Instr.exitReport .ad formed
    let kept (g : Segs) : Option AdGroup :=
      if s.ad.exitUpdate = true then s.ad.groups.find? fun y => y.segs == g else none
    ∃ t, exec c s = .next t ∧ t = { s.take c with ad := t.ad, nq := t.nq, os := t.os } ∧ t.os = t.drive.os ∧
      t.ad.groups.map AdGroup.demand = (formed.map (·.segs)).map (fun g =>
        ((kept g).map AdGroup.demand).getD (AdGroup.demand (s.provisional g))) ∧
      AirDivided s t kept := by
  intro c kept
  let made := formed.map fun r => (kept r.segs).getD (s.provisional r.segs)
  have same : (s.take c).adExit formed = ((s.take c).setAdGroups made).recompute := by
    refine congrArg (fun groups => ((s.take c).setAdGroups groups).recompute) (List.map_congr_left fun r _ => ?_)
    show (if s.ad.exitUpdate = true then _ else _) = (if s.ad.exitUpdate = true then _ else _ : Option AdGroup).getD _
    split <;> rfl
  have taken := State.event_taken ha c fun s => s.adExit formed
  obtain ⟨u, act, frame, demand, divided⟩ := (s.take c).divide made
  rw [same, act] at taken
  refine ⟨u.drive, congrArg Host.Outcome.next taken, ?_, State.drive_drive_os u, ?_, ?_⟩
  · show u.drive = { s.take c with ad := u.drive.ad, nq := u.drive.nq, os := u.drive.os }
    rw [frame]
    rfl
  · refine demand.trans ?_
    rw [List.map_map, List.map_map]
    refine List.map_congr_left fun r _ => ?_
    show AdGroup.demand ((kept r.segs).getD _) = _
    rw [Function.comp_apply]
    cases kept r.segs <;> rfl
  · refine airDivided_drive (divided kept fun y hy => ?_) frame
    obtain ⟨r, -, rfl⟩ := List.mem_map.1 hy
    cases found : kept r.segs with
    | none => exact (congrArg (Option.any (·.short)) found).symm
    | some y =>
      have named : y.segs = r.segs := by
        unfold kept at found
        split at found
        · exact beq_iff_eq.1 (List.find?_some found :)
        · cases found
      show y.short = (kept y.segs).any (·.short)
      rw [named, found]
      rfl

/-- LM's regroup report at AL: the losses, the loops formed, one demand update. -/
theorem regroupReport_al {s : State} (ha : s.alive = true) (gone : List Segs) (formed : List GroupRec) :
    let c := Instr.regroupReport .al gone formed
    let sets := formed.map (·.segs)
    ∃ t, exec c s = .next t ∧ t = { s.take c with al := t.al, reports := t.reports, os := t.os } ∧ t.os = t.drive.os ∧
      t.al.loops.Perm ((s.al.loops.filter fun y => !gone.contains y.segs && !sets.contains y.segs) ++
        formed.map fun r => t.evaluate (t.begunLoop (t.newLoop r))) ∧
      t.al = { s.al with loops := t.al.loops, occ := t.al.occ } ∧
      t.al.occ = standingsAfter s.al.occ gone sets ∧
      t.reports = s.reports.erase c ++
        ((s.al.loops.filter fun y => (gone.contains y.segs || sets.contains y.segs) && y.settled).map fun y =>
          .lostSettledReport y.segs) ++ [.demandUpdate (demandFigs t.al.loops)] := by
  intro c sets
  have taken := State.event_taken ha c fun s => s.alRegroup gone formed
  obtain ⟨loops, eq, perm⟩ := (s.take c).alRegroup_eq gone formed
  rw [eq] at taken
  exact ⟨_, congrArg Host.Outcome.next taken, rfl, State.drive_drive_os _, perm, rfl, rfl, rfl⟩

/-- LM's exit report at AL: the live setpoints clamped, the loops formed, one demand update. -/
theorem exitReport_al {s : State} (ha : s.alive = true) (formed : List GroupRec) :
    let c := Instr.exitReport .al formed
    let sets := formed.map (·.segs)
    ∃ t, exec c s = .next t ∧ t = { s.take c with
        bt := { s.bt with table := s.bt.table.map fun e =>
          { e with vol := { e.vol with liveSetpoint := e.vol.liveSetpoint.map (s.withinRange e) } } }
        al := { s.al with
          loops := t.al.loops
          occ := sets.map fun g => (standingOf s.al.occ g).getD ⟨g, false, false, true⟩
          exitFigs := some (demandFigs t.al.loops)
          awaitsExit := false }
        reports := s.reports.erase c ++ [.demandUpdate (demandFigs t.al.loops)]
        os := t.os } ∧
      t.al.loops = formed.map (fun r => t.evaluate (t.begunLoop (t.newLoop r))) ∧ t.os = t.drive.os := by
  intro c sets
  have taken := State.event_taken ha c fun s => s.alExit formed
  refine ⟨_, congrArg Host.Outcome.next taken, rfl, ?_, State.drive_drive_os _⟩
  exact List.map_congr_left fun r _ => State.formLoop_eq _ r

/-- Settles O51: SI by remapping, OT and LBU by the records they form, AL by the loops formed and evaluated, AD by the
records joined and a recompute. -/
theorem regroupAndExitReportsRebuildRecords : Obligations.RegroupAndExitReportsRebuildRecords := by
  intro s gone formed ha ho apart sets c x low high begun within update had figures provisional divided mapped covers fresh keeps lit
  have covered (i : Seg) : (s.otCovered formed).ot.segs.get i = { s.ot.segs.get i with
      covered := if sets.any (fun g => segHas g i) = true then s.listed i else (s.ot.segs.get i).covered } :=
    s.covering_get _ i
  have record {t : State} {groups made : List OtGroup} {r : GroupRec} {inherited : Option WalkIn} {act : Instr}
      (ht : t = ((s.take act).otCovered formed).otWith groups made)
      (hy : (s.otCovered formed).otFormed r inherited ∈ made) :
      keeps t ((s.otCovered formed).otFormed r inherited) (inherited.getD fresh) := by
    obtain ⟨segs, level, occupied, walkIn⟩ := (s.otCovered formed).otFormed_fields r inherited
    refine ⟨?_, ?_, ?_⟩
    · rw [segs, occupied, ht]
      rfl
    · rw [walkIn, level]
      rfl
    · rw [ht]
      exact State.otWith_told _ _ hy
  refine ⟨remapOn_mapped ha ho (c .si) formed, ?_, ?_, ?_, ?_, remapOn_mapped ha ho (x .si) formed, ?_, ?_, ?_, ?_⟩
  · obtain ⟨groups, act, perm⟩ := (s.take (c .ot)).otRegroup_eq gone formed
    refine ⟨_, State.event_makes ha ho act rfl rfl, rfl, fun r hr => ?_, covered, fun y hy out apart' => ?_, fun y hy => ?_⟩
    · have mem := List.mem_map_of_mem (f := fun r : GroupRec =>
        (s.otCovered formed).otFormed r (inheritedWalkIn s.ot.groups r.segs)) hr
      exact ⟨_, perm.mem_iff.2 (List.mem_append_right _ mem), rfl, rfl, record rfl mem⟩
    · refine perm.mem_iff.2 (List.mem_append_left _ (List.mem_filter.2 ⟨hy, ?_⟩))
      have other : (formed.any fun f => f.segs == y.segs) = false := List.any_eq_false.2 fun r hr same =>
        apart' (List.mem_map.2 ⟨r, hr, beq_iff_eq.1 same⟩)
      have stays : gone.contains y.segs = false := by simpa using out
      rw [other, stays]
      rfl
    · rcases List.mem_append.1 (perm.mem_iff.1 hy) with stood | new
      · have stays := (Bool.and_eq_true_iff.1 (List.mem_filter.1 stood).2).1
        simpa using stays
      · obtain ⟨r, hr, rfl⟩ := List.mem_map.1 new
        exact apart r hr
  · obtain ⟨t, taken, frame, os, perm, al, occ, reports⟩ := regroupReport_al ha gone formed
    have mode : t.inRun = s.inRun := by rw [frame]; rfl
    have least (g : Segs) : t.minOf g = low g := by rw [frame]; rfl
    have loops : (formed.map fun r => t.evaluate (t.begunLoop (t.newLoop r))) = formed.map (begun t) := by
      refine List.map_congr_left fun r _ => congrArg t.evaluate ?_
      unfold State.begunLoop State.newLoop
      rw [mode, least]
      rfl
    rw [loops] at perm
    refine ⟨t, taken, frame, os, perm, al, fun g hg => ?_, fun g hg hs => ?_, reports⟩
    · rw [occ, standingsAfter_formed _ _ hg, inheritedStanding_eq]
    · rw [occ, standingsAfter_kept _ hg hs]
  · obtain ⟨groups, occ, act, perm⟩ := (s.take (c .lbu)).lbuRegroup_eq gone formed
    have sub : ∀ g ∈ formed.map lbuGroupOfRec, g ∈ groups := fun g hg => perm.mem_iff.2 (List.mem_append_right _ hg)
    obtain ⟨frame, hgroups, -, only, shown⟩ := s.lbuWith_lit (c .lbu) (occ := occ) sub
    have taken := State.event_taken ha (c .lbu) fun s => s.lbuRegroup gone formed
    rw [act] at taken
    generalize State.drive _ = t at taken frame hgroups only shown
    refine ⟨t, congrArg Host.Outcome.next taken, frame, fun r hr => ?_, fun y hy out apart' => ?_, fun y hy => ?_, ?_, fun r hr => ?_⟩
    · rw [hgroups]
      exact sub _ (List.mem_map_of_mem hr)
    · rw [hgroups]
      refine perm.mem_iff.2 (List.mem_append_left _ (List.mem_filter.2 ⟨hy, ?_⟩))
      have stays : gone.contains y.segs = false := by simpa using out
      have other : sets.contains y.segs = false := by simpa using apart'
      rw [stays, other]
      rfl
    · rw [hgroups] at hy
      rcases List.mem_append.1 (perm.mem_iff.1 hy) with stood | new
      · have stays := (Bool.and_eq_true_iff.1 (List.mem_filter.1 stood).2).1
        simpa using stays
      · obtain ⟨r, hr, rfl⟩ := List.mem_map.1 new
        exact apart r hr
    · rw [List.map_map] at only
      exact only
    · exact shown _ (List.mem_map_of_mem hr)
  · exact regroupReport_ad ha gone formed
  · have act := (s.take (x .ot)).otExit_eq formed
    refine ⟨_, State.event_makes ha ho act rfl rfl, rfl, ?_, covered, fun y hy => ?_⟩
    · exact List.map_map
    · obtain ⟨r, hr, rfl⟩ := List.mem_map.1 hy
      exact record rfl hy
  · obtain ⟨t, taken, frame, loops, os⟩ := exitReport_al ha formed
    refine ⟨t, taken, frame, loops.trans (List.map_congr_left fun r _ => congrArg t.evaluate ?_), os⟩
    have mode : t.inRun = s.inRun := by rw [frame]; rfl
    have least (g : Segs) : t.minOf g = low g := by rw [frame]; rfl
    unfold State.begunLoop State.newLoop
    rw [mode, least]
    rfl
  · obtain ⟨occ, hocc'⟩ : ∃ occ, occ = (formed.map lbuGroupOfRec).map fun g =>
        (standingOf s.lbu.occ g.segs).getD ⟨g.segs, false, false, true⟩ := ⟨_, rfl⟩
    have act : (s.take (x .lbu)).lbuExit formed =
        (s.take (x .lbu)).lbuWith (formed.map lbuGroupOfRec) occ (formed.map lbuGroupOfRec) := by
      rw [hocc']
      exact State.lbuExit_eq _ formed
    obtain ⟨frame, hgroups, hocc, only, shown⟩ := s.lbuWith_lit (x .lbu) (made := formed.map lbuGroupOfRec) (occ := occ)
      fun g hg => hg
    have taken := State.event_taken ha (x .lbu) fun s => s.lbuExit formed
    rw [act] at taken
    generalize State.drive _ = t at taken frame hgroups hocc only shown
    refine ⟨t, congrArg Host.Outcome.next taken, frame, hgroups, ?_, ?_, fun r hr => ?_⟩
    · rw [hocc, hocc', List.map_map]
      rfl
    · rw [List.map_map] at only
      exact only
    · exact shown _ (List.mem_map_of_mem hr)
  · exact exitReport_ad ha formed

end Sys2Proof.Machine

/-! Frames on the wing port by their bytes: the CRC bit by bit, a request read back from behind other bytes, the
replies' bytes (R169, R173, section 9.4). -/

namespace Sys2Proof.Machine

/-! ### The CRC (R169) -/

/-- One bit taken into the CRC. -/
def crcStep (c : BitVec 16) (bit : Bool) : BitVec 16 := if c.msb = bit then c <<< 1 else (c <<< 1) ^^^ 0x1021#16

/-- One bit taken into the CRC as a figure. -/
def crcShift (c : Nat) (bit : Bool) : Nat :=
  if decide (32768 ≤ c) = bit then 2 * c % 65536 else (2 * c % 65536) ^^^ 0x1021

theorem crcStep_toNat (c : BitVec 16) (bit : Bool) : (crcStep c bit).toNat = crcShift c.toNat bit := by
  have top : c.msb = decide (32768 ≤ c.toNat) := BitVec.msb_eq_decide c
  have shift : (c <<< 1).toNat = 2 * c.toNat % 65536 := by
    rw [BitVec.toNat_shiftLeft, Nat.shiftLeft_eq, Nat.pow_one, Nat.mul_comm]
  unfold crcStep crcShift
  rw [top]
  split
  · exact shift
  · rw [BitVec.toNat_xor, shift]
    rfl

/-- A bit that lies at the top of a mask is taken in, the mask going on. -/
theorem crcBit_mask (c y : BitVec 16) : crcBit (c ^^^ y) = crcStep c y.msb ^^^ (y <<< 1) := by
  have shift : (c ^^^ y) <<< 1 = (c <<< 1) ^^^ (y <<< 1) := BitVec.shiftLeft_xor_distrib c y 1
  unfold crcBit crcStep
  rw [BitVec.msb_xor, shift]
  have swap (p : BitVec 16) : c <<< 1 ^^^ y <<< 1 ^^^ p = c <<< 1 ^^^ p ^^^ y <<< 1 := by
    rw [BitVec.xor_assoc, BitVec.xor_comm (y <<< 1), ← BitVec.xor_assoc]
  cases c.msb <;> cases y.msb <;> simp [swap]

/-- A byte's bits from the highest. -/
def bitsOf (b : Byte) : List Bool := (List.range 8).map fun k => b.toNat.testBit (7 - k)

/-- The bits at the top of a mask, as it is shifted out. -/
def topBits (n : Nat) (y : BitVec 16) : List Bool := (List.range n).map fun k => (y <<< k).msb

theorem crcBit_iterate (c y : BitVec 16) (n : Nat) :
    crcBit^[n] (c ^^^ y) = (topBits n y).foldl crcStep c ^^^ (y <<< n) := by
  induction n with
  | zero => simp [topBits]
  | succ n ih =>
    have bits : topBits (n + 1) y = topBits n y ++ [(y <<< n).msb] := by
      unfold topBits
      rw [List.range_succ, List.map_append]
      rfl
    rw [Function.iterate_succ_apply', ih, crcBit_mask, bits, List.foldl_append, BitVec.shiftLeft_add]
    rfl

/-- A byte at the top of a mask is shifted out bit by bit. -/
theorem topBits_byte (b : Byte) : topBits 8 (b.zeroExtend 16 <<< 8) = bitsOf b := by
  refine List.map_congr_left fun k hk => ?_
  have small : k < 8 := List.mem_range.1 hk
  rw [BitVec.msb_eq_getLsbD_last, BitVec.getLsbD_shiftLeft, BitVec.getLsbD_shiftLeft, BitVec.getLsbD_setWidth,
    BitVec.testBit_toNat]
  have place : 16 - 1 - k - 8 = 7 - k := by omega
  have shift : ¬ 16 - 1 < k := by omega
  have byte : ¬ 16 - 1 - k < 8 := by omega
  have wide : 16 - 1 - k < 16 := by omega
  have last : 7 - k < 16 := by omega
  have width : (16 - 1 : Nat) < 16 := by decide
  rw [decide_eq_true width, decide_eq_true wide, decide_eq_false shift, decide_eq_false byte, place, decide_eq_true last]
  rfl

theorem crcByte_steps (c : BitVec 16) (b : Byte) : crcByte c b = (bitsOf b).foldl crcStep c := by
  have gone : b.zeroExtend 16 <<< 8 <<< 8 = 0#16 := by
    rw [← BitVec.shiftLeft_add]
    exact BitVec.shiftLeft_eq_zero (by decide)
  have steps := crcBit_iterate c (b.zeroExtend 16 <<< 8) 8
  rw [topBits_byte, gone, BitVec.xor_zero] at steps
  exact steps

/-- The CRC of a run of bytes takes their bits one after another. -/
theorem crc16_bits (bytes : List Byte) : crc16 bytes = (bytes.flatMap bitsOf).foldl crcShift 0xFFFF := by
  have steps (bits : List Bool) : ∀ c : BitVec 16, (bits.foldl crcStep c).toNat = bits.foldl crcShift c.toNat := by
    induction bits with
    | nil => exact fun _ => rfl
    | cons bit bits ih => exact fun c => by rw [List.foldl_cons, List.foldl_cons, ih, crcStep_toNat]
  have all : bytes.foldl crcByte 0xFFFF#16 = (bytes.flatMap bitsOf).foldl crcStep 0xFFFF#16 := by
    rw [List.foldl_flatMap]
    refine congrArg (fun f => bytes.foldl f 0xFFFF#16) ?_
    funext c b
    exact crcByte_steps c b
  rw [crc16, all, steps]
  rfl

theorem crc16_lt (bytes : List Byte) : crc16 bytes < 65536 := (bytes.foldl crcByte 0xFFFF#16).isLt

/-! ### A request's bytes (R169) -/

/-- The bytes of a request that the CRC covers. -/
def requestBody (f : Frame) : List Byte := be 1 f.address ++ be 1 f.function ++ be 1 f.payload.length ++ f.payload

theorem requestBytes_eq (f : Frame) : requestBytes f = byteOf 0x7E :: (requestBody f ++ be 2 (crc16 (requestBody f))) := rfl

/-- A request's bytes are judged as that request, with what follows it left over. -/
theorem scanFrame_request {f : Frame} (ha : f.address < 256) (hf : f.function < 256) (hp : f.payload.length ≤ 120)
    (more : List Byte) : scanFrame (requestBody f ++ be 2 (crc16 (requestBody f)) ++ more) = .done f more := by
  have one (n : Nat) : be 1 n = [byteOf n] := by
    simp [be]
  have body : requestBody f = byteOf f.address :: byteOf f.function :: byteOf f.payload.length :: f.payload := by
    unfold requestBody
    rw [one, one, one]
    rfl
  have len : (byteOf f.payload.length).toNat = f.payload.length := by
    rw [byteOf_toNat]
    exact Nat.mod_eq_of_lt (by omega)
  have crc := crc16_lt (requestBody f)
  generalize hc : crc16 (requestBody f) = c at crc
  rw [body] at hc ⊢
  have read : unbe (be 2 c) = c := unbe_be crc
  have wide := be_length 2 c
  generalize be 2 c = tail at read wide
  have rest : f.payload ++ tail ++ more = f.payload ++ (tail ++ more) := List.append_assoc ..
  have payload : (f.payload ++ tail ++ more).take f.payload.length = f.payload := by
    rw [rest, List.take_left]
  have check : ((f.payload ++ tail ++ more).drop f.payload.length).take 2 = tail := by
    rw [rest, List.drop_left, ← wide, List.take_left]
  have behind : (f.payload ++ tail ++ more).drop (f.payload.length + 2) = more := by
    rw [rest, ← List.drop_drop, List.drop_left, ← wide, List.drop_left]
  have enough : ¬ (f.payload ++ tail ++ more).length < f.payload.length + 2 := by
    rw [List.length_append, List.length_append, wide]
    omega
  show scanFrame (byteOf f.address :: byteOf f.function :: byteOf f.payload.length :: (f.payload ++ tail ++ more)) = _
  unfold scanFrame
  simp only [len, payload, check, behind]
  rw [if_neg (by omega), if_neg enough, if_pos (hc.trans read.symm), byteOf_toNat, byteOf_toNat, Nat.mod_eq_of_lt ha,
    Nat.mod_eq_of_lt hf]

/-- Bytes without a SYNC are passed by. -/
theorem hunt_junk (ended : Bool) {junk : List Byte} (h : byteOf 0x7E ∉ junk) (k : Nat) (more : List Byte) :
    hunt ended (junk.length + k) (junk ++ more) = hunt ended k more := by
  induction junk with
  | nil => rw [List.length_nil, Nat.zero_add, List.nil_append]
  | cons b junk ih =>
    rw [List.mem_cons, not_or] at h
    rw [List.length_cons, Nat.add_right_comm, List.cons_append]
    exact (if_neg fun e => h.1 e.symm).trans (ih h.2)

theorem rescan_junk (ended : Bool) {junk : List Byte} (h : byteOf 0x7E ∉ junk) : rescan ended junk = ([], .hunt) := by
  have := hunt_junk ended h 1 []
  rw [List.append_nil] at this
  exact this

/-- Behind bytes without a SYNC a request is found, and the search goes on with what follows it. -/
theorem rescan_request (ended : Bool) {f : Frame} {junk : List Byte} (ha : f.address < 256) (hf : f.function < 256)
    (hp : f.payload.length ≤ 120) (h : byteOf 0x7E ∉ junk) (more : List Byte) : ∃ k,
    rescan ended (junk ++ requestBytes f ++ more) = (f :: (hunt ended k more).1, (hunt ended k more).2) := by
  obtain ⟨k, hk⟩ : ∃ k, (junk ++ requestBytes f ++ more).length + 1 = junk.length + (k + 1) :=
    ⟨(requestBytes f ++ more).length, by rw [List.append_assoc, List.length_append]; omega⟩
  refine ⟨k, ?_⟩
  rw [rescan, hk, List.append_assoc, hunt_junk ended h, requestBytes_eq, List.cons_append]
  refine (if_pos rfl).trans ?_
  rw [scanFrame_request ha hf hp]

theorem rescan_lone (ended : Bool) {f : Frame} {junk : List Byte} (ha : f.address < 256) (hf : f.function < 256)
    (hp : f.payload.length ≤ 120) (h : byteOf 0x7E ∉ junk) : rescan ended (junk ++ requestBytes f) = ([f], .hunt) := by
  obtain ⟨k, eq⟩ := rescan_request ended ha hf hp h []
  rw [List.append_nil] at eq
  have none : hunt ended k [] = ([], .hunt) := by cases k <;> rfl
  rw [eq, none]

/-! ### Replies (R173) -/

theorem be_one (n : Nat) : be 1 n = [BitVec.ofNat 8 n] := by
  simp [be, byteOf]

theorem be_two (n : Nat) : be 2 n = [BitVec.ofNat 8 (n / 256), BitVec.ofNat 8 (n % 256)] := by
  have low : byteOf n = BitVec.ofNat 8 (n % 256) := by
    refine BitVec.eq_of_toNat_eq ?_
    rw [byteOf_toNat, BitVec.toNat_ofNat, Nat.mod_mod]
  simp [be, low]
  rfl

theorem reasonCode_le (r : Reason) : reasonCode r ≤ 22 := by
  cases r <;> decide

/-- Settles O33: the request read back from its bytes, a SYNC passed by, the replies byte by byte, and the CRC by its
bits (crc16_bits). -/
theorem framesReadBackAndRepliesFormed : Obligations.FramesReadBackAndRepliesFormed := by
  refine ⟨fun f junk ended ha hf hp h => rescan_lone ended ha hf hp h, fun bytes none => ?_, fun address r _ _ => ?_,
    fun r => ?_, rfl, crc16_bits⟩
  · rw [rescan, rescan, List.length_cons]
    refine (if_pos rfl).trans ?_
    cases scan : scanFrame bytes with
    | short => rfl
    | bad => rfl
    | done f rest => exact absurd scan (none f rest)
  · intro status body
    have small : status < 256 := by
      have := reasonCode_le r.reason
      unfold status
      split <;> omega
    refine ⟨small, ?_⟩
    unfold wingReplyBytes
    rw [be_one, be_one, be_one, be_one, ← be_two]
    rfl
  · unfold linkReplyBytes
    rw [be_one, be_one]
    rfl

end Sys2Proof.Machine

/-! The wing port's line: what the owners leave of the receiver, the row that a found frame names, the frames inside
the bytes of a dropped frame (R169 to R172). -/

namespace Sys2Proof.Machine

/-! ### What the owners of the requests leave of the port -/

theorem State.Ground.wp {s t : State} (h : s.Ground t) : t.wp = s.wp := by
  rw [h]

theorem State.applyTime_wp (s : State) (m sec : Nat) : (s.applyTime m sec).wp = s.wp := by
  unfold State.applyTime
  dsimp only
  split
  · exact (State.reenter_acts _).ground.wp
  · rfl

theorem State.endSession_wp (s : State) (e : Entry) (cause : EndCause) : (s.endSession e cause).wp = s.wp := by
  rw [State.endSession, State.raiseAll_wp, State.dropEntry_wp, State.notify_wp]

theorem State.reportRemoval_wp (s : State) (e : Entry) : (s.reportRemoval e).wp = s.wp := by
  unfold State.reportRemoval
  split
  · rfl
  · exact State.raise_wp _ _

theorem State.backToPlanned_wp (s : State) (e : Entry) : (s.backToPlanned e).wp = s.wp := by
  unfold State.backToPlanned
  dsimp only
  rw [State.raise_wp]
  split
  · rw [State.notify_wp, State.mapVolatile_wp]
  · exact State.mapVolatile_wp _ _ _

theorem State.alReconcile_wp (s : State) (hit : Loop → Bool) : (s.alReconcile hit).wp = s.wp := by
  rw [State.alReconcile_eq]

theorem State.reload_wp (s : State) (e : Entry) (g : Fixed) : (s.reload e g).wp = s.wp := by
  unfold State.reload
  extract_lets moved lit s1
  have first : s1.wp = s.wp := by
    unfold s1
    split
    · exact (State.alReconcile_wp _ _).trans (State.mapVolatile_wp _ _ _)
    · rfl
  split
  · rw [State.raise_wp, State.mapVolatile_wp, first]
  · exact first

theorem State.resumeSession_wp (s : State) (e : Entry) (g : Fixed) : (s.resumeSession e g).wp = s.wp := by
  unfold State.resumeSession
  split
  · rw [State.raise_wp, State.mapVolatile_wp]
  · rfl

theorem State.changeActive_wp (s : State) (e : Entry) (g : Fixed) :
    (if e.fix.headcount != g.headcount then (s.reload e g).raise (.headcountChange e.fix.ref (entrySegs e))
      else s.reload e g).wp = s.wp := by
  split
  · rw [State.raise_wp, State.reload_wp]
  · exact State.reload_wp _ _ _

theorem State.applyChange_wp (s : State) (c : ChangeWire) (e : Entry) : (s.applyChange c e).wp = s.wp := by
  unfold State.applyChange
  extract_lets g s1 s2 s3
  have fixed : s1.wp = s.wp := State.replaceFixed_wp _ _ _
  have reloaded : (s1.reload e g).wp = s.wp := (State.reload_wp _ _ _).trans fixed
  have counted : s3.wp = s.wp := (s1.changeActive_wp e g).trans fixed
  clear_value s3
  have moved : (if movesEntry e.fix g then s1.backToPlanned e else s1.reload e g).wp = s.wp := by
    split
    · exact (State.backToPlanned_wp _ _).trans fixed
    · exact reloaded
  have ended (x : Entry) : (s3.endSession x .supervisor).wp = s.wp := (State.endSession_wp _ _ _).trans counted
  have resumed : (s3.resumeSession e g).wp = s.wp := (State.resumeSession_wp _ _ _).trans counted
  split
  · exact fixed
  · exact moved
  · exact moved
  all_goals
    split
    · split
      · exact ended _
      · exact counted
    · exact resumed

theorem State.takeGrant_wp (s : State) (g : Nat) : (s.takeGrant g).wp = s.wp := by
  unfold State.takeGrant
  rw [(State.recompute_recomputed _).frame]

theorem State.enterService_wp (s : State) : s.enterService.wp = s.wp := by
  rw [State.enterService_frame]

theorem State.leaveService_wp (s : State) : s.leaveService.wp = s.wp := by
  obtain ⟨table, stored, governs, ns, more, queue, left, -⟩ := s.leaveService_frame
  rw [left]
  rfl

/-- The owner's action leaves the receiver as it is. -/
def State.KeepsRx (s : State) (a : Answered) : Prop := a.1.wp.rx = s.wp.rx

theorem State.KeepsRx.of_wp {s : State} {a : Answered} (h : a.1.wp = s.wp) : s.KeepsRx a := congrArg Wp.rx h

theorem State.KeepsRx.ite {s : State} {p : Prop} [Decidable p] {a b : Answered} (ha : s.KeepsRx a) (hb : s.KeepsRx b) :
    s.KeepsRx (if p then a else b) := by
  split
  · exact ha
  · exact hb

theorem State.keepsRx_refuse (s : State) (r : Reason) : s.KeepsRx (refuse s r) := rfl

theorem State.keepsRx_judged {s : State} {checks : List (Bool × Reason)} {act : State → Answered} (h : s.KeepsRx (act s)) :
    s.KeepsRx (judged s checks act) := by
  unfold judged
  split
  · exact h
  · exact s.keepsRx_refuse _

theorem State.keepsRx_ofReq {α : Type} {owner : α → State → Answered} (h : ∀ a (s : State), s.KeepsRx (owner a s))
    (p : Req α) (s : State) : s.KeepsRx (ofReq p owner s) := by
  cases p with
  | fields a => exact h a s
  | wrongLength n => exact s.keepsRx_refuse _

theorem State.keepsRx_timeSet (p : Nat × Nat) (s : State) : s.KeepsRx (s.timeSet p) :=
  .ite (s.keepsRx_refuse _) (.of_wp (s.applyTime_wp _ _))

theorem State.keepsRx_bookChange (c : ChangeWire) (s : State) : s.KeepsRx (s.bookChange c) := by
  unfold State.bookChange
  split
  · exact s.keepsRx_refuse _
  · exact .ite rfl (State.keepsRx_judged (.of_wp (s.applyChange_wp _ _)))

theorem State.keepsRx_bookCancel (p : Nat × Bool) (s : State) : s.KeepsRx (s.bookCancel p) := by
  unfold State.bookCancel
  split
  · exact s.keepsRx_refuse _
  · refine .ite (s.keepsRx_refuse _) (.ite (.ite (.of_wp (s.endSession_wp _ _)) (s.keepsRx_refuse _)) (.of_wp ?_))
    exact (State.reportRemoval_wp _ _).trans (State.dropEntry_wp _ _)

theorem State.keepsRx_bookFind (ref : Nat) (s : State) : s.KeepsRx (s.bookFind ref) := by
  unfold State.bookFind
  split <;> rfl

theorem State.keepsRx_returnEntry (found : Option Entry) (s : State) : s.KeepsRx (s.returnEntry found) := by
  cases found <;> rfl

theorem State.keepsRx_bookNext (p : Unit) (s : State) : s.KeepsRx (s.bookNext p) := by
  unfold State.bookNext
  split
  · rfl
  · exact s.keepsRx_returnEntry _

theorem State.keepsRx_loadEntry (w : FixedWire) (s : State) : s.KeepsRx (s.loadEntry w) := by
  unfold State.loadEntry
  split
  · rfl
  · exact State.keepsRx_judged rfl

theorem State.keepsRx_loadClose (p : Unit) (s : State) : s.KeepsRx (s.loadClose p) := by
  unfold State.loadClose
  split
  · rfl
  · exact .ite rfl rfl

theorem State.keepsRx_loadAbort (p : Unit) (s : State) : s.KeepsRx (s.loadAbort p) := by
  unfold State.loadAbort
  split <;> rfl

theorem State.keepsRx_noticeTake (p : Unit) (s : State) : s.KeepsRx (s.noticeTake p) := by
  unfold State.noticeTake
  split <;> rfl

theorem State.keepsRx_commissionRead (n : Nat) (s : State) : s.KeepsRx (s.commissionRead n) := .ite rfl rfl

theorem State.keepsRx_commissionWrite (p : Nat × List Nat) (s : State) : s.KeepsRx (s.commissionWrite p) := by
  unfold State.commissionWrite
  split
  · rfl
  · refine .ite rfl (.ite rfl ?_)
    split <;> rfl

theorem State.keepsRx_modeSet (b : List Byte) (s : State) : s.KeepsRx (s.modeSet b) := by
  unfold State.modeSet
  split
  · exact .ite rfl (.of_wp s.leaveService_wp)
  · exact .ite rfl (State.keepsRx_judged (.of_wp s.enterService_wp))
  · exact .ite rfl (.ite rfl rfl)

theorem requestAnswer_keepsRx (code : Nat) (b : List Byte) (s : State) : s.KeepsRx (requestAnswer code b s) := by
  unfold requestAnswer
  split
  · exact State.keepsRx_ofReq State.keepsRx_timeSet _ s
  · exact State.keepsRx_ofReq (owner := State.bookAdd) (fun _ u => State.keepsRx_judged (.of_wp (u.addEntry_wp _))) _ s
  · exact State.keepsRx_ofReq State.keepsRx_bookChange _ s
  · exact State.keepsRx_ofReq State.keepsRx_bookCancel _ s
  · exact State.keepsRx_ofReq State.keepsRx_bookFind _ s
  · exact State.keepsRx_ofReq (owner := State.bookFirst) (fun _ _ => State.keepsRx_returnEntry _ _) _ s
  · exact State.keepsRx_ofReq State.keepsRx_bookNext _ s
  · exact State.keepsRx_ofReq (owner := State.loadOpen) (fun _ _ => State.keepsRx_judged rfl) _ s
  · exact State.keepsRx_ofReq State.keepsRx_loadEntry _ s
  · exact State.keepsRx_ofReq State.keepsRx_loadClose _ s
  · exact State.keepsRx_ofReq State.keepsRx_loadAbort _ s
  · exact State.keepsRx_ofReq (owner := State.suiteRead) (fun _ _ => rfl) _ s
  · exact State.keepsRx_ofReq State.keepsRx_noticeTake _ s
  · exact State.keepsRx_ofReq (owner := State.demandRead) (fun _ _ => rfl) _ s
  · exact State.keepsRx_ofReq (owner := State.grantRequest) (fun g u => .of_wp (u.takeGrant_wp g)) _ s
  · exact State.keepsRx_ofReq State.keepsRx_modeSet _ s
  · exact State.keepsRx_ofReq State.keepsRx_commissionRead _ s
  · exact State.keepsRx_ofReq State.keepsRx_commissionWrite _ s
  · exact s.keepsRx_refuse _

/-! ### The row that a request names (R172, section 9.4) -/

/-- An optional field read by its presence byte. -/
theorem fieldOpt_eq (b : List Byte) (o k : Nat) :
    fieldOpt b o k = if field b o 1 = 0 then none else some (field b (o + 1) k) := by
  unfold fieldOpt fieldFlag
  by_cases h : field b o 1 = 0
  · rw [if_pos h, h]
    rfl
  · rw [if_neg h, if_pos (bne_iff_ne.2 h)]

theorem readFixed_eq (b : List Byte) : readFixed b = fixedFrom b := by
  unfold readFixed
  rw [fieldOpt_eq, fieldOpt_eq, fieldOpt_eq]
  rfl

theorem readChange_eq {α : Type} (b : List Byte) (o k : Nat) (read : Nat → α) : readChange b o k read =
    if field b o 1 = 0 then .keep else if field b o 1 = 1 then .set (read (field b (o + 1) k))
    else if field b o 1 = 2 then .clear else .bad (field b o 1) := by
  unfold readChange
  split
  next h => rw [if_pos h]
  next h => rw [if_neg (by rw [h]; decide), if_pos h]
  next h => rw [if_neg (by rw [h]; decide), if_neg (by rw [h]; decide), if_pos h]
  next h0 h1 h2 => rw [if_neg h0, if_neg h1, if_neg h2]

theorem readChangeWire_eq (b : List Byte) : readChangeWire b = changeFrom b := by
  unfold readChangeWire
  simp only [readChange_eq]
  rfl

theorem readFields_tail (b : List Byte) : readFields (b.drop 1) =
    (List.range ((b.length - 1) / 2)).map fun k => unbe ((b.drop (1 + 2 * k)).take 2) := by
  unfold readFields
  rw [List.length_drop]
  refine List.map_congr_left fun k _ => ?_
  rw [field, List.drop_drop]

/-- COMMISSION WRITE read from its payload. -/
theorem commissionWrite_row (b : List Byte) (u : State) :
    exec (wingRow 0x52 b) u = .next (u.request 0x52 (ofReq (readWrite b) State.commissionWrite)) := by
  have row : wingRow 0x52 b = .commissionWrite (readWrite b) := by
    unfold readWrite
    rw [readFields_tail]
    show (if _ then _ else _) = _
    split <;> rfl
  rw [row]
  rfl

/-- MODE SET's three codes are those of its three rows. -/
theorem modeSet_row (b : List Byte) (u : State) :
    exec (wingRow 0x50 b) u = .next (u.request 0x50 (ofReq (reqOf 2 id b) State.modeSet)) := by
  show exec (if b.length = 2 ∧ field b 0 1 = 0 then .modeSetRun (.fields (fieldFlag b 1))
    else if b.length = 2 ∧ field b 0 1 = 1 then .modeSetService (.fields (fieldFlag b 1))
    else .modeSetLock (reqOf 2 (fun b => (field b 0 1, fieldFlag b 1)) b)) u = _
  by_cases wide : b.length = 2
  · have read : ofReq (reqOf 2 id b) State.modeSet = State.modeSet b := by
      rw [reqOf, if_pos wide]
      rfl
    have lock : reqOf 2 (fun b => (field b 0 1, fieldFlag b 1)) b = .fields (field b 0 1, fieldFlag b 1) := if_pos wide
    rw [read, lock]
    by_cases run : field b 0 1 = 0
    · rw [if_pos ⟨wide, run⟩]
      have row : State.modeSet b = State.modeRun (fieldFlag b 1) := by
        funext s
        rw [State.modeSet, run]
        rfl
      rw [row]
      rfl
    · rw [if_neg fun h => run h.2]
      by_cases service : field b 0 1 = 1
      · rw [if_pos ⟨wide, service⟩]
        have row : State.modeSet b = State.modeService (fieldFlag b 1) := by
          funext s
          rw [State.modeSet, service]
          rfl
        rw [row]
        rfl
      · rw [if_neg fun h => service h.2]
        have row : State.modeSet b = State.modeLock (field b 0 1, fieldFlag b 1) := by
          funext s
          unfold State.modeSet
          split
          next h => exact absurd h run
          next h => exact absurd h service
          next h => rfl
        rw [row]
        rfl
  · have short {α : Type} (read : List Byte → α) : reqOf 2 read b = .wrongLength b.length := if_neg wide
    rw [if_neg fun h => wide h.1, if_neg fun h => wide h.1, short, short]
    rfl

/-- The row that a request's code and payload name does what the request does. -/
theorem wingRow_request {code : Nat} (b : List Byte) (u : State) (h : code ≠ 0x5F) :
    exec (wingRow code b) u = .next (u.request code (requestAnswer code b)) := by
  unfold wingRow
  extract_lets at_
  split
  · rfl
  · exact congrArg (fun w => exec (.bookAdd (sizedReq b 26 w)) u) (readFixed_eq b).symm
  · exact congrArg (fun w => exec (.bookChange (sizedReq b 34 w)) u) (readChangeWire_eq b).symm
  · rfl
  · rfl
  · rfl
  · rfl
  · rfl
  · exact congrArg (fun w => exec (.loadEntry (sizedReq b 26 w)) u) (readFixed_eq b).symm
  · rfl
  · rfl
  · rfl
  · rfl
  · rfl
  · rfl
  · exact modeSet_row b u
  · rfl
  · exact commissionWrite_row b u
  · exact absurd rfl h
  · have unlisted : requestAnswer code b = fun s => refuse s .unknownFunction := by
      unfold requestAnswer
      split
      case h_19 => rfl
      all_goals contradiction
    rw [unlisted]
    rfl

/-! ### A frame taken (R170) -/

theorem State.hunting_again {s : State} (h : s.wp.rx = .hunt) : ({ s with wp := { s.wp with rx := .hunt } } : State) = s := by
  rw [← h]

/-- A request to the part does what its row does. -/
theorem State.takeFrame_own {u : State} {f : Frame} (hf : f.function < 128) (ha : f.address = u.wp.address) :
    exec (wingRow f.function f.payload) u = .next (u.takeFrame f) := by
  rw [State.takeFrame, if_neg (Nat.not_le.2 hf), if_pos ha]
  by_cases restart : f.function = 0x5F
  · rw [if_pos restart, restart]
    rfl
  · rw [if_neg restart]
    exact wingRow_request f.payload u restart

theorem State.takeFrame_other {u : State} {f : Frame} (hf : f.function < 128) (ha : f.address ≠ u.wp.address) :
    u.takeFrame f = if f.address = 0 ∧ f.function = 0x01 then
      u.broadcastTime (reqOf 5 (fun x => (field x 0 4, field x 4 1)) f.payload) else u := by
  rw [State.takeFrame, if_neg (Nat.not_le.2 hf), if_neg ha]

/-- The port is in HUNT and the outputs stand as the blocks give them. -/
def State.AtRest (s : State) : Prop := s.wp.rx = .hunt ∧ s.drive = s

theorem State.AtRest.of_drive {s : State} (h : s.wp.rx = .hunt) : s.drive.AtRest := ⟨h, s.drive_again⟩

theorem State.AtRest.request {u : State} (h : u.AtRest) {code : Nat} {act : State → Answered}
    (keeps : ∀ s : State, s.KeepsRx (act s)) : (u.request code act).AtRest := by
  by_cases taken : u.TakesRequest
  · rw [State.request_taken taken]
    exact .of_drive (keeps (u.hold code))
  · rw [State.request_skipped taken]
    exact h

theorem State.restart_rx (s : State) (cause : RestartCause) : (s.restart cause).wp.rx = .hunt := by
  obtain ⟨u, made, acts⟩ := s.restart_acts cause
  rw [made, State.drive_wp, acts.ground.wp, State.rebuilt_eq]
  rfl

theorem State.restart_atRest (s : State) (cause : RestartCause) : (s.restart cause).AtRest := by
  refine ⟨s.restart_rx cause, ?_⟩
  obtain ⟨u, made, -⟩ := s.restart_acts cause
  rw [made, State.drive_again]

theorem State.AtRest.restartRequest {u : State} (h : u.AtRest) (p : Req Unit) : (u.restartRequest p).AtRest := by
  cases p with
  | wrongLength n => exact h.request fun s => s.keepsRx_refuse _
  | fields p =>
    unfold State.restartRequest
    dsimp only
    split
    · exact State.restart_atRest _ _
    · exact h

theorem State.AtRest.broadcastTime {u : State} (h : u.AtRest) (p : Req (Nat × Nat)) : (u.broadcastTime p).AtRest := by
  unfold State.broadcastTime
  rw [State.hunting_again h.1]
  split
  · cases p with
    | wrongLength n => exact h
    | fields t =>
      refine .of_drive ?_
      split
      · exact h.1
      · exact (congrArg Wp.rx (State.applyTime_wp _ _ _)).trans h.1
  · exact h

/-- Whatever a frame does, the port is left in HUNT and the outputs as the blocks give them. -/
theorem State.AtRest.takeFrame {u : State} (h : u.AtRest) (f : Frame) : (u.takeFrame f).AtRest := by
  unfold State.takeFrame
  split
  · exact h
  · split
    · split
      · exact h.restartRequest _
      · exact h.request fun s => requestAnswer_keepsRx _ _ s
    · split
      · exact h.broadcastTime _
      · exact h

/-- A lone frame found inside a dropped one is taken as if it had arrived by itself. -/
theorem State.AtRest.takeFrames_lone {u : State} (h : u.AtRest) (f : Frame) :
    (u.takeFrames .hunt [f]).drive = u.takeFrame f := by
  obtain ⟨hunting, driven⟩ := h.takeFrame f
  unfold State.takeFrames
  split
  · exact driven
  · unfold State.takeFrames
    rw [State.hunting_again hunting, driven]

/-- A RESTART taken ends the search. -/
theorem State.AtRest.takeFrames_restart {u : State} (h : u.AtRest) {f : Frame} (leftover : WpRx) (rest : List Frame)
    (restarts : u.restartsOn f = true) : (u.takeFrames leftover (f :: rest)).drive = u.takeFrame f := by
  rw [State.takeFrames, if_pos restarts]
  exact (h.takeFrame f).2

/-! ### The line's rows (R169) -/

theorem State.atRest_take {s : State} (c : Instr) (ha : s.alive = true) (ho : s.OutputsFollow) (hr : s.wp.rx = .hunt) :
    (s.take c).AtRest :=
  ⟨hr, State.drive_eq_self (u := s.take c) ha ho rfl rfl⟩

/-- Either row searches the bytes it carries while the port is in HUNT. -/
theorem dropped_searches {s : State} {row : List Byte → Instr} (ha : s.alive = true) (hr : s.wp.rx = .hunt)
    (h : row ∈ [Instr.wingFrameDropped, .wingGapTimeout]) (bytes : List Byte) : ∃ ended, exec (row bytes) s =
      .next ((s.take (row bytes)).takeFrames (rescan ended bytes).2 (rescan ended bytes).1).drive := by
  have none (c : Instr) : heldBytes (s.take c).wp.rx = [] := by
    rw [State.take_wp, hr]
    rfl
  rcases List.mem_pair.1 h with rfl | rfl
  · refine ⟨!selfDropped bytes, congrArg Host.Outcome.next ((State.event_taken ha _ _).trans ?_)⟩
    rw [none]
    rfl
  · refine ⟨!false, congrArg Host.Outcome.next ((State.event_taken ha _ _).trans ?_)⟩
    rw [none]
    rfl

theorem dropped_junk {s : State} {row : List Byte → Instr} (ha : s.alive = true) (ho : s.OutputsFollow)
    (hr : s.wp.rx = .hunt) (h : row ∈ [Instr.wingFrameDropped, .wingGapTimeout]) {junk : List Byte}
    (hj : byteOf 0x7E ∉ junk) : exec (row junk) s = .next (s.take (row junk)) := by
  obtain ⟨ended, run⟩ := dropped_searches ha hr h junk
  obtain ⟨hunting, driven⟩ := State.atRest_take (row junk) ha ho hr
  rw [run, rescan_junk ended hj]
  unfold State.takeFrames
  rw [State.hunting_again hunting, driven]

theorem dropped_lone {s : State} {row : List Byte → Instr} (ha : s.alive = true) (ho : s.OutputsFollow)
    (hr : s.wp.rx = .hunt) (h : row ∈ [Instr.wingFrameDropped, .wingGapTimeout]) {junk : List Byte} {f : Frame}
    (hj : byteOf 0x7E ∉ junk) (address : f.address < 256) (function : f.function < 256) (len : f.payload.length ≤ 120) :
    exec (row (junk ++ requestBytes f)) s = .next ((s.take (row (junk ++ requestBytes f))).takeFrame f) := by
  obtain ⟨ended, run⟩ := dropped_searches ha hr h (junk ++ requestBytes f)
  rw [run, rescan_lone ended address function len hj, (State.atRest_take _ ha ho hr).takeFrames_lone]

/-- The request held, its reply on its way and the port in HUNT. -/
theorem State.takeFrame_held {u : State} {f : Frame} (hs : u.TakesRequest) (hf : f.function < 128)
    (ha : f.address = u.wp.address) (restart : f.function ≠ 0x5F) : (u.takeFrame f).wp.held = some f.function ∧
      (u.takeFrame f).wp.reply.isSome = true ∧ (u.takeFrame f).wp.rx = .hunt := by
  rw [State.takeFrame, if_neg (Nat.not_le.2 hf), if_pos ha, if_neg restart, State.request_taken hs]
  exact ⟨rfl, rfl, requestAnswer_keepsRx _ _ _⟩

/-- A broadcast TIME SET read from its payload. -/
theorem reqOf_timeSet {m sec : Nat} (hm : m < 4294967296) (hs : sec < 256) :
    reqOf 5 (fun x => (field x 0 4, field x 4 1)) (be 4 m ++ be 1 sec) = .fields (m, sec) := by
  have four := be_length 4 m
  have one := be_length 1 sec
  have minutes : field (be 4 m ++ be 1 sec) 0 4 = m := by
    rw [field, List.drop_zero, List.take_left' four]
    exact unbe_be hm
  have seconds : field (be 4 m ++ be 1 sec) 4 1 = sec := by
    rw [field, List.drop_left' four, List.take_of_length_le (Nat.le_of_eq one)]
    exact unbe_byte hs
  rw [reqOf, if_pos (by rw [List.length_append, four, one]), minutes, seconds]

theorem State.broadcastTime_wrong {u : State} (hr : u.wp.rx = .hunt) (n : Nat) :
    u.broadcastTime (.wrongLength n) = u := by
  unfold State.broadcastTime
  rw [State.hunting_again hr]
  split <;> rfl

/-- Settles O34: the frames found in a dropped frame's bytes taken by their rows (dropped_lone, State.takeFrame_own),
and the two ends of the line. -/
theorem wingLineEventsAndDroppedFrames : Obligations.WingLineEventsAndDroppedFrames := by
  refine ⟨fun s junk ha ho hr hj => ⟨dropped_junk ha ho hr (List.mem_cons_self ..) hj,
    dropped_junk ha ho hr (List.mem_cons_of_mem _ (List.mem_cons_self ..)) hj, ?_⟩, fun s ha ho => ?_⟩
  · intro f address function len row hrow found u
    have run : exec found s = .next (u.takeFrame f) := dropped_lone ha ho hr hrow hj address function len
    refine ⟨fun hf own => ⟨run.trans (State.takeFrame_own (u := u) hf own).symm, fun free other => ?_, fun more free code empty => ?_⟩,
      fun hf foreign => ⟨fun m sec broadcast code payload hm hsec => ?_, fun other => ?_⟩, fun reply => ?_⟩
    · exact ⟨_, run, State.takeFrame_held ⟨ha, free⟩ hf own other⟩
    · obtain ⟨ended, search⟩ := dropped_searches ha hr hrow (junk ++ requestBytes f ++ more)
      obtain ⟨k, first⟩ := rescan_request ended address function len hj more
      have restarts (c : Instr) : (s.take c).restartsOn f = true := by
        unfold State.restartsOn
        rw [State.take_wp, own, code, empty, free]
        simp
      rw [search, first, (State.atRest_take _ ha ho hr).takeFrames_restart _ _ (restarts _),
        ← State.takeFrame_own (u := s.take _) hf own, code, empty]
      rfl
    · rw [run, State.takeFrame_other (u := u) hf foreign, if_pos ⟨broadcast, code⟩, payload, reqOf_timeSet hm hsec]
      rfl
    · rw [run, State.takeFrame_other (u := u) hf foreign]
      split
      next both =>
        have wrong : f.payload.length ≠ 5 := (other.resolve_left (not_not_intro both.1)).resolve_left (not_not_intro both.2)
        rw [reqOf, if_neg wrong, State.broadcastTime_wrong (u := u) hr]
      next => rfl
    · rw [run, State.takeFrame, if_pos reply]
  · refine ⟨State.event_makes ha ho rfl rfl rfl, fun r reply => State.event_makes ha ho ?_ rfl rfl,
      fun none => State.event_makes ha ho ?_ rfl rfl⟩
    · rw [State.take_wp, reply]
      rfl
    · rw [State.take_wp, none]

end Sys2Proof.Machine
